-- ==== Sys2Proof/Word.lean ====
section
/-! DEFINITION. The words of the SK2460 model and the small named sets its commands speak of: lanes, technologies,
safety outputs' two sides, the samples that bricks and inputs deliver. Nothing here has behaviour. -/

namespace Sys2Proof

/-- A byte of the host port, of a stream image or of a ring frame. -/
abbrev Byte := BitVec 8

/-- A 32-bit register or mailbox word. -/
abbrev Word := BitVec 32

/-- A 24-bit host address (R18). -/
abbrev HAddr := BitVec 24

/-- A timebase value, in 10 ns units (R31). -/
abbrev Time := BitVec 64

/-- An IEEE 754 binary32 value, held as its bits (R97). -/
abbrev F32 := BitVec 32

/-- The two lanes of a module (scope chapter, "The Piste address"). -/
inductive LaneId | a | b
  deriving DecidableEq, Repr

/-- The lane that is not this one. -/
def LaneId.other : LaneId → LaneId
  | .a => .b
  | .b => .a

/-- The two orderable parts (R1). -/
inductive Part | sk2460 | sk2440
  deriving DecidableEq, Repr

/-- The two technologies of the safety path (chapter "Safety Functions"). -/
inductive Tech | safetyCore | referee
  deriving DecidableEq, Repr

/-- Who gives an axis a command: the host through AXIS_CMD, or the doorway sequencer with its own target
(in 0.1 mm) (R150). -/
inductive CmdSrc
  | host
  | sequencer (target : Int)
  deriving DecidableEq, Repr

/-- The mailbox pair a safety command came by: MB2 from the host or MB6 from the steward, of one lane (R293). -/
inductive SafeSrc
  | mb2 (l : LaneId)
  | mb6 (l : LaneId)
  deriving DecidableEq, Repr

/-- A memory fault code of R369 that a translation can raise, with the faulting virtual address. -/
structure PageFault where
  code : Nat
  va : Nat
  write : Bool
  deriving DecidableEq, Repr

/-- A 32-bit access through the MMU by the program of a Blade task or of the steward (R350, R352): domain, virtual address,
the word of a write, and what ECC says of the word of a read: nothing, corrected (false) or uncorrectable (true) (R348). -/
structure MemAccess where
  dom : Nat
  va : Nat
  write : Bool
  word : BitVec 32 := 0
  ecc : Option Bool := none
  deriving DecidableEq, Repr

/-- A test frame of an input as the safety core saw it (R469): whether the input was recognised high in it, its low runs as
the first sample and the number of samples (R270), and whether the referee had the same level outside the mask window. -/
structure TestFrame where
  high : Bool
  runs : List (Nat × Nat)
  same : Bool
  deriving DecidableEq, Repr

/-- What the merge of one tick measures (R119, R123, R126): base-control slack in 10 ns, Blade cycles used, Blade cycles the
unfenced and ungated Blades completed, fabric cycles of the merge, the island clock of each pod in MHz, and, in a standby,
whether the merge segment header of the active lane had arrived by 18.5 µs (R327). -/
structure MergeMeas where
  slack : Nat := 0
  used : Nat := 0
  capacity : Nat := 0
  fabricCycles : Nat := 0
  header : Bool := true
  freq : Vector Nat 8 := Vector.replicate 8 400
  deriving DecidableEq, Repr

/-- What a brick latches at its local gate (R239, R242): Hall state, edges since the last gate as (timebase value,
Hall state after the edge), inputs DIN, phase currents in 1/8 amplitude unit, DC link in 0.1 V, temperature, and
whether its power stage is supplied. -/
structure BrickSample where
  hall : Nat := 0
  edges : List (Time × Nat) := []
  din : Nat := 0
  ia : Int := 0
  ib : Int := 0
  vdc : Nat := 0
  temp : Int := 0
  pwr : Bool := false
  deriving DecidableEq, Repr

/-- What a brick's descriptor states of it (R248). -/
structure BrickDesc where
  vendor : Nat := 0
  model : Nat := 0
  pver : Nat := 1
  forms : Nat := 3
  safes : Nat := 7
  fwd : Nat := 0
  ifs : Nat := 0
  lag : Nat := 0
  serial : Word := 0
  deriving DecidableEq, Repr

/-- Errors of a line between two units: byte index in the frame, and the bits that arrive flipped. -/
abbrev LineErr := List (Nat × Byte)

/-- The four uncorrected states an SRAM word can show a reader (R348): good, one bit wrong, two bits wrong. -/
inductive EccEvent
  | corrected (pa : Nat)
  | uncorrectable (pa : Nat)
  deriving DecidableEq, Repr

/-- Readback of the twelve switches of the safety outputs: SOxH read high, SOxL read low, one bit per output
(R281, R295). -/
structure Readback where
  high : BitVec 6 := 0
  low : BitVec 6 := 0
  deriving DecidableEq, Repr

/-- What the readback of one output test pulse showed (R281): the pulsed switch read off in time, read on again in
time, and the node of R282 fault 3h or 4h stayed (SOxL low, or SOxH high) while its switch was off. -/
structure PulseReadback where
  off : Bool := true
  on : Bool := true
  bypassed : Bool := false
  deriving DecidableEq, Repr

/-- Why a lane resets (R481). -/
inductive LaneCause | module | watchdog | host | referee
  deriving DecidableEq, Repr

/-- A logic supply of R473. -/
inductive Rail | vmain | vio | vsafe
  deriving DecidableEq, Repr

/-- What wakes the pods from layover (R487). -/
inductive WakeWhy | post | safetyInput | packet | layout
  deriving DecidableEq, Repr

/-- The referee's conditions for moving the token from the active lane (R331). -/
inductive SwitchWhy | heartbeat | frame | degraded | laneReset | divergence
  deriving DecidableEq, Repr

end Sys2Proof
end

