-- ==== Sys2Proof/Config.lean ====
section
/-! DEFINITION. The values the manual leaves open: each is a constant with no body, so that nothing in Lean can
evaluate it and no proof can rest on one value of it. -/

namespace Sys2Proof

/-- The manufacturing step behind MOD_ID.STEP (R43: from 01h upwards; R4: nothing depends on it). -/
opaque Config.stepRaw : Nat

/-- MOD_ID.STEP: any value from 01h to FFh. -/
def Config.mfgStep : Nat := 1 + Config.stepRaw % 255

/-- The layout of the MOTION payload is stated nowhere in the manual (R59 names the section only): the value that
a MOTION payload gives field `field` of axis `axis`. -/
opaque Config.motionField (payload : List Byte) (axis field : Nat) : Int

/-- Where in a MOTION payload that field lies (for STRM_ERROFF, R515). -/
opaque Config.motionOffset (payload : List Byte) (axis field : Nat) : Nat

/-- The smallest LEN a MOTION payload for these axes may have (R514: the end of its last defined field). -/
opaque Config.motionEnd (payload : List Byte) : Nat

/-- The bytes of the kernel ROM (R96, R347), which the manual does not list. -/
opaque Config.kernelRom : Nat → Byte

/-- The fixed delivery delay of an island (R33); at most 40 ns (R32), so at most 4 units of 10 ns. -/
opaque Config.deliveryDelayRaw : Nat → Nat

/-- The delivery delay of island i, from 0 to 40 ns, in 10 ns (R32, R33). -/
def Config.deliveryDelay (island : Nat) : Nat := Config.deliveryDelayRaw island % 5

/-- What an island's local clock has counted since the last start gate (R33): R29 bounds its rate only loosely, and the manual
states no count. -/
opaque Config.islandCountRaw (island : Nat) (gate : Time) (elapsed : Nat) : Nat

/-- That count, in 10 ns, when `elapsed` units of 10 ns have passed since the gate; at most twice as much. -/
def Config.islandCount (island : Nat) (gate : Time) (elapsed : Nat) : Nat :=
  Config.islandCountRaw island gate elapsed % (2 * elapsed + 1)

/-- What a task leaves at byte i of its context block in a tick, none where it writes nothing: the layout of the blocks is
stated nowhere (R101). -/
opaque Config.blockByte (lane : LaneId) (ctx tick i : Nat) : Option Byte

/-- What a task of a context leaves at byte i of a Blade's scratch in a tick, none where it writes nothing (R98). -/
opaque Config.scratchByte (lane : LaneId) (blade ctx tick i : Nat) : Option Byte

/-- SEQ of a command that a doorway sequencer gives axis n in a tick: every judged command writes its SEQ (R151), and the manual
states none for a sequencer's. -/
opaque Config.orderSeq (n tick : Nat) : BitVec 8

/-- The rate correction that the steward's clock answers an offset with, from the rate in force (R302 bounds it by 100 ppm, and
states no servo). -/
opaque Config.ptpRate (offset rate : Int) : Int

/-- How long after the instant of its sending a Delay_Req leaves the MAC, before its bound (R301). -/
opaque Config.ptpTxRaw (lane : LaneId) (seq : Nat) : Nat

/-- That time in 10 ns, within a tick. -/
def Config.ptpTx (lane : LaneId) (seq : Nat) : Nat := Config.ptpTxRaw lane seq % 2500

/-- How many of the frames that an interface, numbered as the bits of PATH, sent in a tick it counted as transmit errors
(R307, R319): nothing in the manual fixes the line. -/
opaque Config.txErrors (lane : LaneId) (path tick : Nat) : Nat

/-- The bytes of a gate segment: R323 lists what it carries (the tick, the writes, the datagrams and CAN frames of NET_IO),
and states no layout. -/
opaque Config.gateBytes (tick : Nat) (writes : List (Nat × List Word)) (nets : List (Nat × List Byte)) : List Byte

/-- The 4-byte tag of line k of a segment, by its kind: 0 result line, 1 block line, 2 yield log entry, 3 cycle record
(R323). -/
opaque Config.lineTag (kind tick k : Nat) : Word

/-- Byte i of the result lines of a context (R118, R323): the layout of results is stated nowhere. -/
opaque Config.resultByte (lane : LaneId) (ctx tick i : Nat) : Byte

/-- KB of the bulk copy that the free capacity of the sync link moves in a tick (R322, R341). -/
opaque Config.bulkStep (lane : LaneId) (tick : Nat) : Nat

/-- When the referee's 40 µs without a heartbeat are over, which R330 bounds by 38.5 and 41.7 µs of real time. -/
opaque Config.hbLimitRaw (lane : LaneId) (tick : Nat) : Nat

/-- That time in 10 ns. -/
def Config.hbLimit (lane : LaneId) (tick : Nat) : Nat := 3850 + Config.hbLimitRaw lane tick % 321

/-- The bits of a binary32 NaN that an invalid operation gives (R97 states that nothing traps, not which NaN). -/
opaque Config.nanBits (operand1 operand2 : F32) : BitVec 22

/-- The order in which one lane's relay points are numbered is fixed but not stated (R457): the relay index a
missed start gate of an island reports. -/
opaque Config.relayOf (lane : LaneId) (island : Nat) : Nat

/-- Which bit of a byte the PRBS-9 pattern of a LOOP frame fills first is stated nowhere (R463). -/
opaque Config.prbsMsbFirst : Bool

/-- DRAGC is a mean and EOFT a time in 0.1 µs, and their rounding is stated nowhere (R442, R260): whether a quotient that is
no whole number is rounded up. -/
opaque Config.meanUp (sum : Int) (n : Nat) : Bool

/-- The time a switch of a safety output takes to read back off, which R284 only bounds by 150 µs. -/
opaque Config.offDelayRaw (output : Nat) (high : Bool) : Nat

/-- That time in 10 µs, from 0 to 15. -/
def Config.offDelay (output : Nat) (high : Bool) : Nat := Config.offDelayRaw output high % 16

/-- The part of a scan that passes between a recognition and the next scan's start, which nothing in the manual fixes. -/
opaque Config.scanPhaseRaw (scan : Nat) : Nat

/-- That time in 10 µs, below the 1 ms of a scan (R284). -/
def Config.scanPhase (scan : Nat) : Nat := Config.scanPhaseRaw scan % 100

/-- A test pulse that was in progress during a scan is still in progress when that scan's report is taken: R281 and R284
leave open where a pulse lies in the scans. -/
opaque Config.pulseSeen (output scan : Nat) : Bool

/-- How the current of a gang divides among its channels (R423 gives each its own sensor): the reading of channel k when the
gang of n carries a current, in 4 mA. -/
opaque Config.senseShare (k n current : Nat) : BitVec 10

/-- CTX of a yield of causes 05h to 09h: the context that served, where the manual names none (R53, R54). -/
opaque Config.servedCtxRaw : Nat → Nat

/-- That context ID. -/
def Config.servedCtx (cause : Nat) : Nat := Config.servedCtxRaw cause % 256

/-- The ROM constants that the results of the Blade check and of the golden merge are compared with (R462, R468): the manual
names them and states no value. -/
opaque Config.selfCheckCrc : BitVec 32
opaque Config.goldenCrc : BitVec 32

/-- Type of service and identification of a sent IPv4 datagram, which R299 leaves open, as eight and sixteen bits. -/
opaque Config.ipOpen : Nat → List Byte → BitVec 24

end Sys2Proof
end

