-- ==== Sys2Proof/Syntax.lean ====
section
/-! DEFINITION. The commands of the block: one constructor for each row of spec/opcode_table.json, named for it. A
row's operands are what arrives from outside with it: which unit it concerns, the bytes on a line, a measured value.
-/

namespace Sys2Proof

/-- The commands of the SK2460 as a block (spec/opcode_table.json); LAWS.json gives each its row. -/
inductive Instr
  /-- HOST_WRITE (R381). -/
  | hostWrite (mode3 : Bool) (addr : HAddr) (rest : List Byte)
  /-- HOST_READ (R382). -/
  | hostRead (mode3 : Bool) (addr : HAddr) (ta : Byte) (crc : BitVec 16) (clocked : Nat) (ecc : List EccEvent)
  /-- HOST_STATUS (R378). -/
  | hostStatus (mode3 : Bool) (cmd : Byte)
  /-- TIMEBASE_READ (R47). -/
  | timebaseRead (l : LaneId)
  /-- YLOG_CLR (R52). -/
  | ylogClr (l : LaneId)
  /-- START_GATE (R36). -/
  | startGate
  /-- START_GATE_LOSS (R34). -/
  | startGateLoss (l : LaneId) (island : Fin 16)
  /-- HANDSHAKE_TIMEOUT (R30). -/
  | handshakeTimeout (l : LaneId) (relay : Fin 64)
  /-- BLADE_FREE (R109). -/
  | bladeFree (l : LaneId) (pod blade : Fin 8) (mig : Option PageFault) (cycle : Nat)
  /-- G_TASK_WAIT_EXPIRY (R115). -/
  | gTaskWaitExpiry (l : LaneId) (ctx : Fin 256)
  /-- TASK_RESULT (R118). -/
  | taskResult (l : LaneId) (ctx : Fin 256) (lines : Nat) (accs : List MemAccess)
  /-- MERGE_CUTOFF (R118). -/
  | mergeCutoff (l : LaneId) (m : MergeMeas)
  /-- SHED_STEP_LOWER (R123). -/
  | shedStepLower (l : LaneId)
  /-- C_TASK_DEADLINE (R104). -/
  | cTaskDeadline (l : LaneId) (ctx : Fin 256)
  /-- LANE_REPORT (R329). -/
  | laneReport (l : LaneId)
  /-- AX_BASE_TASK (R178). -/
  | axBaseTask (l : LaneId) (n : Fin 24)
  /-- HFLT (R131). -/
  | hflt (l : LaneId) (n : Fin 24)
  /-- SPEED_TIMEOUT (R138). -/
  | speedTimeout (l : LaneId) (n : Fin 24)
  /-- MOVE (R152). -/
  | move (l : LaneId) (n : Fin 24) (src : CmdSrc) (seq : BitVec 8)
  /-- STOP (R154). -/
  | stop (l : LaneId) (n : Fin 24) (host : Bool) (seq : BitVec 8)
  /-- QSTOP (R154). -/
  | qstop (l : LaneId) (n : Fin 24) (host : Bool) (seq : BitVec 8)
  /-- HOME (R168). -/
  | home (l : LaneId) (n : Fin 24) (host : Bool) (seq : BitVec 8)
  /-- ACC_WRITE (R156). -/
  | accWrite (l : LaneId) (n : Fin 24) (jerkReg : Bool) (val : Word)
  /-- CMP_ARM (R163). -/
  | cmpArm (l : LaneId) (n : Fin 24) (k : Fin 4) (val : Word)
  /-- DEBIN_CHANGE (R166). -/
  | debinChange (l : LaneId) (n : Fin 24) (i : Fin 4)
  /-- CHAT (R167). -/
  | chat (l : LaneId) (n : Fin 24) (i : Fin 4)
  /-- HOMING_BACKOFF_LIMIT (R170). -/
  | homingBackoffLimit (l : LaneId) (n : Fin 24)
  /-- HOMING_TIMEOUT (R168). -/
  | homingTimeout (l : LaneId) (n : Fin 24)
  /-- STALL_CONFIRM (R162). -/
  | stallConfirm (l : LaneId) (n : Fin 24)
  /-- BRICK_POWER_LOSS (R173). -/
  | brickPowerLoss (l : LaneId) (n : Fin 24)
  /-- BRICK_POWER_RETURN (R173). -/
  | brickPowerReturn (l : LaneId) (n : Fin 24) (hall : Fin 8)
  /-- PRE_ARM (R185). -/
  | preArm (l : LaneId) (n : Fin 24)
  /-- PREARM_WITHDRAW (R185). -/
  | prearmWithdraw (l : LaneId) (n : Fin 24)
  /-- OBSTACLE_COMMIT (R198). -/
  | obstacleCommit (l : LaneId) (n : Fin 24)
  /-- SNOWPLOUGH_BRAKE_END (R200). -/
  | snowploughBrakeEnd (l : LaneId) (n : Fin 24)
  /-- SNOWPLOUGH_RELIEF_END (R200). -/
  | snowploughReliefEnd (l : LaneId) (n : Fin 24)
  /-- SCHUSS_STAGE (R191). -/
  | schussStage (l : LaneId) (n : Fin 24) (h : Fin 4) (flt : Option PageFault)
  /-- PASS_AGE_EXPIRY (R194). -/
  | passAgeExpiry (l : LaneId) (n : Fin 24) (h : Fin 4)
  /-- DRAG_LEARN (R183). -/
  | dragLearn (l : LaneId) (n : Fin 24)
  /-- DRAG_MAP_SEED (R184). -/
  | dragMapSeed (l : LaneId) (n : Fin 24)
  /-- DRAG_MAP_WRITE (R184). -/
  | dragMapWrite (l : LaneId) (n : Fin 24) (i : Fin 64) (val : Word)
  /-- SAFETY_REPORT (R277). -/
  | safetyReport
  /-- REPORT_LOSS (R277). -/
  | reportLoss (l : LaneId)
  /-- DOOR_SEQ (R211). -/
  | doorSeq (l : LaneId) (d : Fin 12)
  /-- WARNING_END (R221). -/
  | warningEnd (l : LaneId) (d : Fin 12)
  /-- DWELL_EXPIRY (R216). -/
  | dwellExpiry (l : LaneId) (d : Fin 12)
  /-- LOCK_TIMEOUT (R212). -/
  | lockTimeout (l : LaneId) (d : Fin 12)
  /-- LOCK_PULSE_END (R212). -/
  | lockPulseEnd (l : LaneId) (d : Fin 12)
  /-- STEP_LOCK_TIMEOUT (R211). -/
  | stepLockTimeout (l : LaneId) (d : Fin 12)
  /-- DISAG (R223). -/
  | disag (l : LaneId) (d : Fin 12)
  /-- OPEN (R233). -/
  | dwayOpen (l : LaneId) (d : Fin 12) (seq : BitVec 8)
  /-- CLOSE (R233). -/
  | dwayClose (l : LaneId) (d : Fin 12) (seq : BitVec 8)
  /-- RESUME (R217). -/
  | dwayResume (l : LaneId) (d : Fin 12) (seq : BitVec 8)
  /-- SVCIN (R219). -/
  | svcin (l : LaneId) (d : Fin 12) (seq : BitVec 8)
  /-- SVCOUT (R219). -/
  | svcout (l : LaneId) (d : Fin 12) (seq : BitVec 8)
  /-- STEPSKIP (R233). -/
  | stepskip (l : LaneId) (d : Fin 12) (seq : BitVec 8)
  /-- SLALOM (R225). -/
  | slalom (l : LaneId)
  /-- RING_FRAME (R239). -/
  | ringFrame (l : LaneId) (r : Fin 4)
  /-- REPEAT_LIMIT (R254). -/
  | repeatLimit (r : Fin 4)
  /-- UP_FRAME_RECEIVE (R239). -/
  | upFrameReceive (l : LaneId) (r : Fin 4) (err : LineErr)
  /-- RING_BREAK (R256). -/
  | ringBreak (l : LaneId) (r : Fin 4)
  /-- RING_REJOIN (R257). -/
  | ringRejoin (l : LaneId) (r : Fin 4)
  /-- UP_DATA_MISSING (R256). -/
  | upDataMissing (l : LaneId) (n : Fin 24)
  /-- RING_BRINGUP (R246). -/
  | ringBringup (l : LaneId) (r : Fin 4) (idleBack : Bool) (rtd : Nat)
  /-- RESCAN (R260). -/
  | rescan (l : LaneId) (rings : BitVec 4)
  /-- BRICK_LOCAL_GATE (R242). -/
  | brickLocalGate (r : Fin 4) (b : Fin 6) (smp : BrickSample)
  /-- BRICK_FRAME_RECEIVE (R250). -/
  | brickFrameReceive (r : Fin 4) (b : Fin 6) (err : LineErr)
  /-- BRICK_FRAME_MISS (R251). -/
  | brickFrameMiss (r : Fin 4) (b : Fin 6)
  /-- BRICK_APPLY (R244). -/
  | brickApply (r : Fin 4) (b : Fin 6)
  /-- BRICK_ENUM (R246). -/
  | brickEnum (r : Fin 4) (b : Fin 6) (err : LineErr)
  /-- BRICK_DESC (R248). -/
  | brickDesc (r : Fin 4) (b : Fin 6) (desc : BrickDesc) (err : LineErr)
  /-- BRICK_CONFIG (R247). -/
  | brickConfig (r : Fin 4) (b : Fin 6) (err : LineErr)
  /-- BRICK_PUSH (R247). -/
  | brickPush (r : Fin 4) (b : Fin 6) (err : LineErr)
  /-- BRICK_SERVICE_WINDOW (R241). -/
  | brickServiceWindow (r : Fin 4) (b : Fin 6) (err : LineErr)
  /-- BRICK_ARM (R247). -/
  | brickArm (r : Fin 4) (b : Fin 6) (err : LineErr)
  /-- BRICK_FAULT (R252). -/
  | brickFault (r : Fin 4) (b : Fin 6) (code : Fin 8)
  /-- BRICK_BEACON (R255). -/
  | brickBeacon (r : Fin 4) (b : Fin 6)
  /-- BRICK_LOGIC_LOSS (R245). -/
  | brickLogicLoss (r : Fin 4) (b : Fin 6)
  /-- BRICK_LOOP_FRAME (R463). -/
  | brickLoopFrame (r : Fin 4) (b : Fin 6) (err : LineErr)
  /-- TEST_FRAME_START (R267). -/
  | testFrameStart
  /-- INPUT_LOW_RECOGNISED (R269). -/
  | inputLowRecognised (t : Tech) (i : Fin 32) (at' : List Nat)
  /-- INPUT_HIGH_RECOGNISED (R269). -/
  | inputHighRecognised (t : Tech) (i : Fin 32) (at' : List Nat)
  /-- PULSE_PATTERN_FAULT (R270). -/
  | pulsePatternFault (i : Fin 32) (runs1 runs2 : List (Nat × Nat))
  /-- SAFETY_SCAN (R284). -/
  | safetyScan (rb : Readback)
  /-- DISCREPANCY_FAULT (R273). -/
  | discrepancyFault (f : Fin 16)
  /-- TWOHAND_OPERATION (R275). -/
  | twohandOperation (f : Fin 16)
  /-- TWOHAND_HELD_FAULT (R275). -/
  | twohandHeldFault (f : Fin 16)
  /-- RESET_BUTTON_PRESS (R276). -/
  | resetButtonPress (f : Fin 16)
  /-- PERMIT_DISAGREE_FAULT (R279). -/
  | permitDisagreeFault (f : Fin 16)
  /-- ALIVE_LOSS (R265). -/
  | aliveLoss (t : Tech)
  /-- TEST_SLOT_LOSS (R281). -/
  | testSlotLoss
  /-- OUTPUT_TEST_PULSE (R281). -/
  | outputTestPulse (o : Fin 6) (rb : PulseReadback)
  /-- EDM_FAULT (R280). -/
  | edmFault (o : Fin 6)
  /-- OUTPUT_OVERCURRENT (R282). -/
  | outputOvercurrent (o : Fin 6) (milliamps : Nat)
  /-- VSOUT_LOW (R282). -/
  | vsoutLow (reading : Byte)
  /-- VSOUT_RECOVER (R282). -/
  | vsoutRecover (reading : Byte)
  /-- CONFIRM (R83). -/
  | confirm (src : SafeSrc) (chk plug : Word)
  /-- WITHDRAW (R86). -/
  | withdraw (src : SafeSrc) (chk : Word)
  /-- RESET (R293). -/
  | safeReset (src : SafeSrc) (sel : Word)
  /-- RELCLR (R293). -/
  | relclr (src : SafeSrc) (sides : Word)
  /-- RECONN (R313). -/
  | reconn (src : SafeSrc) (lo hi : Word)
  /-- SEAL_PLUG_READ (R79). -/
  | sealPlugRead (s0 s1 s2 : BitVec 16)
  /-- LOAD (R68). -/
  | load (l : LaneId) (store : Bool) (refErr : LineErr)
  /-- STREAM_AUTOLOAD (R66). -/
  | streamAutoload (refErr : LineErr)
  /-- STREAM_ACTIVATE (R68). -/
  | streamActivate (l : LaneId)
  /-- CONFIG_STORE_WRITE (R66). -/
  | configStoreWrite (l : LaneId) (good : Bool)
  /-- LIVE (R88). -/
  | live (l : LaneId)
  /-- SHADOW_BUILD (R88). -/
  | shadowBuild (l : LaneId) (idle : Bool)
  /-- LIVE_COMMIT (R88). -/
  | liveCommit
  /-- LIVE_TIMEOUT (R89). -/
  | liveTimeout (l : LaneId)
  /-- ABORT (R91). -/
  | abort (l : LaneId)
  /-- ETH_FRAME_RECEIVE (R299). -/
  | ethFrameReceive (l : LaneId) (i : Fin 2) (frame : List Byte) (rx : Nat)
  /-- ARP_REQUEST (R300). -/
  | arpRequest (l : LaneId) (i : Fin 2) (frame : List Byte)
  /-- ARP_EXPIRY (R300). -/
  | arpExpiry (l : LaneId) (i : Fin 2) (ip : Word)
  /-- ICMP_ECHO (R300). -/
  | icmpEcho (l : LaneId) (i : Fin 2) (frame : List Byte)
  /-- PTP_SYNC (R302). -/
  | ptpSync (l : LaneId) (i : Fin 2) (frame : List Byte) (rx : Nat)
  /-- PTP_SYNC_LOSS (R302). -/
  | ptpSyncLoss (l : LaneId)
  /-- SAFE_FRAME_PRODUCE (R305). -/
  | safeFrameProduce (k : Fin 64)
  /-- SAFE_FRAME_CHECK (R309). -/
  | safeFrameCheck (k : Fin 64) (frame : List Byte)
  /-- CONN_WATCHDOG (R310). -/
  | connWatchdog (k : Fin 64)
  /-- CAN_FRAME_RECEIVE (R307). -/
  | canFrameReceive (l : LaneId) (c : Fin 2) (fd : Bool) (ext : Bool) (ident : Nat) (data : List Byte)
  /-- CAN_BUS_OFF (R307). -/
  | canBusOff (l : LaneId) (c : Fin 2)
  /-- CAN_BUSOFF_RECOVERY (R307). -/
  | canBusoffRecovery (l : LaneId) (c : Fin 2)
  /-- TUNNEL_REQUEST (R317). -/
  | tunnelRequest (l : LaneId) (i : Fin 2) (srcIp : Word) (data : List Byte)
  /-- EPOCH_RECEIVE (R325). -/
  | epochReceive (l : LaneId) (tick crc : Word) (at' : Nat)
  /-- GATE_SEGMENT_WAIT (R327). -/
  | gateSegmentWait (l : LaneId)
  /-- HEARTBEAT_LOSS (R330). -/
  | heartbeatLoss (l : LaneId) (at' : Nat)
  /-- FRAME_INVALID (R330). -/
  | frameInvalid (errA errB errC errD : LineErr)
  /-- HOT_SWITCHOVER (R332). -/
  | hotSwitchover (why : SwitchWhy) (midTx : Bool)
  /-- COLD_TAKEOVER (R338). -/
  | coldTakeover (why : SwitchWhy) (midTx : Bool)
  /-- COLD_TAKEOVER_COMPLETE (R340). -/
  | coldTakeoverComplete
  /-- PARK (R340). -/
  | park
  /-- PARK_EXIT (R340). -/
  | parkExit (l : LaneId)
  /-- TOKEN_ASSIGN (R321). -/
  | tokenAssign (l : LaneId)
  /-- DIVERGENCE_TEST (R336). -/
  | divergenceTest
  /-- DIVERGENCE_OUTCOME (R336). -/
  | divergenceOutcome
  /-- SYNC_LINK_LOSS (R337). -/
  | syncLinkLoss (l : LaneId) (pairs : BitVec 4) (since : Nat)
  /-- SYNC_LINK_RETRY (R337). -/
  | syncLinkRetry (l : LaneId) (trained : BitVec 4)
  /-- LANE_JOIN (R341). -/
  | laneJoin (l : LaneId)
  /-- JOIN_TIMEOUT (R341). -/
  | joinTimeout (l : LaneId)
  /-- REVPEND_SET (R343). -/
  | revpendSet
  /-- QUIET_HANDOVER (R343). -/
  | quietHandover (midTx : Bool)
  /-- FORCED_HANDOVER (R343). -/
  | forcedHandover (midTx : Bool)
  /-- SWREQ (R345). -/
  | swreq (l : LaneId)
  /-- DMA_START (R363). -/
  | dmaStart (l : LaneId) (c : Fin 8) (own : Vector Word 5)
  /-- DMA_RESUME (R367). -/
  | dmaResume (l : LaneId) (c : Fin 8)
  /-- DMA_ABORT (R367). -/
  | dmaAbort (l : LaneId) (c : Fin 8)
  /-- DMA_BURST (R361). -/
  | dmaBurst (l : LaneId) (ecc : List EccEvent)
  /-- FAULT_LOG_CLR (R375). -/
  | faultLogClr (l : LaneId)
  /-- RESULT_REQUEST (R389). -/
  | resultRequest (l : LaneId) (j : Fin 4) (reqseq : BitVec 16)
  /-- RESULT_DELIVERY (R390). -/
  | resultDelivery (l : LaneId) (j : Fin 4)
  /-- MAILBOX_POST (R396). -/
  | mailboxPost (l : LaneId) (m : Fin 16) (len : Fin 32) (own : List Word)
  /-- MAILBOX_ACK (R398). -/
  | mailboxAck (l : LaneId) (m : Fin 16) (rc aseq : BitVec 16)
  /-- STEWARD_COMMAND (R403). -/
  | stewardCommand (l : LaneId) (accs : List MemAccess)
  /-- STEWARD_WATCHDOG (R481). -/
  | stewardWatchdog (l : LaneId) (ms : Nat)
  /-- LOAD_COMMAND (R419). -/
  | loadCommand (l : LaneId)
  /-- NOCMD_TIMEOUT (R28). -/
  | nocmdTimeout
  /-- LOAD_OVERCURRENT (R414). -/
  | loadOvercurrent (k : Fin 32) (i4mA us : Nat)
  /-- GROUP_OVERCURRENT (R415). -/
  | groupOvercurrent (g : Fin 4) (currents : List Nat) (us : Nat)
  /-- THERMAL_SHUTDOWN (R416). -/
  | thermalShutdown (k : Fin 32) (tj : Nat)
  /-- THERMAL_RELEASE (R416). -/
  | thermalRelease (k : Fin 32) (tjs : List Nat)
  /-- GROUP_UNDERVOLTAGE (R418). -/
  | groupUndervoltage (g : Fin 4) (v01 : Nat)
  /-- GROUP_VOLTAGE_RECOVERY (R418). -/
  | groupVoltageRecovery (g : Fin 4) (v01 : Nat)
  /-- RETRY_INTERVAL_EXPIRY (R426). -/
  | retryIntervalExpiry (k : Fin 32)
  /-- RETRY_RELOAD (R427). -/
  | retryReload (k : Fin 32)
  /-- CLR (R427). -/
  | clr (k : Fin 32)
  /-- OPEN_LOAD_ON (R424). -/
  | openLoadOn (k : Fin 32) (i4mA us : Nat)
  /-- OPEN_LOAD_OFF (R424). -/
  | openLoadOff (k : Fin 32) (mv us : Nat)
  /-- SHORTB (R424). -/
  | shortb (k : Fin 32) (mv us : Nat)
  /-- CHIME_TONE_ADVANCE (R422). -/
  | chimeToneAdvance (k : Fin 32)
  /-- LEDGER_REC (R438). -/
  | ledgerRec (l : LaneId)
  /-- TRACE_SAMPLE (R445). -/
  | traceSample (l : LaneId) (d : Fin 12)
  /-- LEDGER_SCAN (R440). -/
  | ledgerScan (l : LaneId)
  /-- MIRROR_COPY (R447). -/
  | mirrorCopy (l : LaneId)
  /-- LEDGER_UPACK (R450). -/
  | ledgerUpack (l : LaneId) (upto : Word)
  /-- LEDGER_SEND (R451). -/
  | ledgerSend (l : LaneId) (count : Nat)
  /-- LEDGER_ACK (R451). -/
  | ledgerAck (l : LaneId) (upto : Word)
  /-- LEDGER_DATAGRAM (R452). -/
  | ledgerDatagram (l : LaneId)
  /-- PATROL (R460). -/
  | patrol (l : LaneId) (pod : Fin 8)
  /-- SRAM_ROW_CHECK (R461). -/
  | sramRowCheck (l : LaneId) (good : Bool) (uncorrectable : Bool)
  /-- BLADE_CHECK (R462). -/
  | bladeCheck (l : LaneId) (results : List Byte)
  /-- RING_SEGMENT_CHECK (R463). -/
  | ringSegmentCheck (l : LaneId) (err : LineErr)
  /-- RELAY_POINT_CHECK (R457). -/
  | relayPointCheck (l : LaneId) (good : Bool)
  /-- LANE_CHECK (R468). -/
  | laneCheck (l : LaneId) (blades : List (Fin 64 × List Byte)) (golden : List Byte) (relays link : Bool)
  /-- INPUT_CHECK (R469). -/
  | inputCheck (i : Fin 32) (frames : List TestFrame)
  /-- HEALTH_CHECK_REQUEST (R471). -/
  | healthCheckRequest (l : LaneId) (unit : Word)
  /-- LIFE_SECOND (R464). -/
  | lifeSecond (l : LaneId)
  /-- DEGRADE_CLEAR (R467). -/
  | degradeClear (l : LaneId)
  /-- POWER_ON_RESET (R478). -/
  | powerOnReset (samples : Nat)
  /-- SUPPLY_LOW (R473). -/
  | supplyLow (rail : Rail) (reading : Byte)
  /-- MODULE_RESET (R478). -/
  | moduleReset (samples : Nat)
  /-- RESET_RELEASE (R483). -/
  | resetRelease (rqLow : Bool) (ms : Nat)
  /-- SERVICE_RESET_PRESS (R479). -/
  | serviceResetPress (ms : Nat)
  /-- SERVICE_RESET (R479). -/
  | serviceReset
  /-- SERVICE_RESET_DENY (R479). -/
  | serviceResetDeny
  /-- RQSTUCK (R480). -/
  | rqstuck (ms : Nat)
  /-- RQ_INPUT_RELEASE (R480). -/
  | rqInputRelease (ms : Nat)
  /-- LRST (R481). -/
  | lrst (l : LaneId) (mask : BitVec 2)
  /-- LANE_RESET (R481). -/
  | laneReset (l : LaneId) (cause : LaneCause)
  /-- LANE_START (R481). -/
  | laneStart (l : LaneId)
  /-- LAYIN (R485). -/
  | layin (l : LaneId)
  /-- POD_GATING (R485). -/
  | podGating (l : LaneId)
  /-- LAYOVER_WAKE (R487). -/
  | layoverWake (why : WakeWhy)
  /-- WAKE_PACKET (R488). -/
  | wakePacket (l : LaneId) (i : Fin 2) (port : Nat) (payload : List Byte)
  /-- XREF_LOSS (R476). -/
  | xrefLoss (noEdge ppm : Nat)
  /-- XREF_REGAIN (R477). -/
  | xrefRegain (ppm ms : Nat)
  /-- XREF_SLEW_END (R477). -/
  | xrefSlewEnd
  /-- PPS (R494). -/
  | pps (m : Fin 8)
  /-- PHYINT (R494). -/
  | phyint (m : Fin 8) (link : Bool) (speed : Fin 4)
  /-- PHY_POLL (R494). -/
  | phyPoll (l : LaneId) (i : Fin 2) (link : Bool) (speed : Fin 4)
  /-- SUPPLY_GOOD (R474). -/
  | supplyGood (rail : Rail) (reading : Byte)
  /-- HBUSY_RESET_END (R385). -/
  | hbusyResetEnd
  /-- SWITCH_TOGGLE_LOSS (R264). -/
  | switchToggleLoss (t : Tech) (o : Fin 6)
  /-- EPOCH_SEAL_TIMEOUT (R325). -/
  | epochSealTimeout (l : LaneId)
  /-- PWM_PERIOD_BOUNDARY (R421). -/
  | pwmPeriodBoundary (k : Fin 32)
  /-- PHY_RESET_RELEASE (R501). -/
  | phyResetRelease (i : Fin 2)
  deriving DecidableEq, Repr

end Sys2Proof
end

