-- ==== Sys2Proof/Machine/Bits.lean ====
section
/-! DEFINITION. Bit fields, byte order, two's complement and saturating counts: the arithmetic the manual's tables use. -/

namespace Sys2Proof.Machine

/-- 1 for true, 0 for false. -/
def b2n (b : Bool) : Nat := if b then 1 else 0

/-- Fields side by side from bit 0 upwards, each (width, value), as a register table lists them. -/
def pack : List (Nat × Nat) → Nat
  | [] => 0
  | (w, v) :: rest => v % 2 ^ w + 2 ^ w * pack rest

/-- A register word packed from its fields. -/
def packW (fs : List (Nat × Nat)) : Word := BitVec.ofNat 32 (pack fs)

/-- The field of n at bits [lo + w − 1 : lo]. -/
def fld (n lo w : Nat) : Nat := n / 2 ^ lo % 2 ^ w

/-- Bit i of n. -/
def bitOf (n i : Nat) : Bool := n / 2 ^ i % 2 == 1

/-- The two's-complement code of i in w bits. -/
def enc (w : Nat) (i : Int) : Nat := (i % (2 ^ w : Int)).toNat

/-- The integer that w bits of n stand for in two's complement. -/
def sgn (w n : Nat) : Int :=
  let m := n % 2 ^ w
  if m < 2 ^ (w - 1) then (m : Int) else (m : Int) - 2 ^ w

/-- One more, stopping at max. -/
def satInc (max n : Nat) : Nat := if n < max then n + 1 else max

/-- n + k, stopping at max. -/
def satAdd (max n k : Nat) : Nat := min max (n + k)

/-- i held between lo and hi. -/
def clampI (lo hi i : Int) : Int := if i < lo then lo else if hi < i then hi else i

/-- Quotient rounded toward zero. -/
def truncDiv (a b : Int) : Int := Int.tdiv a b

/-- Nearest whole number, a half rounded away from zero (b positive). -/
def roundAway (a b : Int) : Int := if 0 ≤ a then (2 * a + b) / (2 * b) else -((-2 * a + b) / (2 * b))

/-- Byte i of a payload; 0 past its end. -/
def byteAt (bs : List Byte) (i : Nat) : Nat := ((bs[i]?).getD 0).toNat

/-- Two bytes at i, little-endian. -/
def le16 (bs : List Byte) (i : Nat) : Nat := byteAt bs i + 256 * byteAt bs (i + 1)

/-- Four bytes at i, little-endian. -/
def le32 (bs : List Byte) (i : Nat) : Nat := le16 bs i + 65536 * le16 bs (i + 2)

/-- Eight bytes at i, little-endian. -/
def le64 (bs : List Byte) (i : Nat) : Nat := le32 bs i + 4294967296 * le32 bs (i + 4)

/-- n in k bytes, little-endian. -/
def toLE : Nat → Nat → List Byte
  | 0, _ => []
  | k + 1, n => BitVec.ofNat 8 n :: toLE k (n / 256)

/-- n in k bytes, most significant first. -/
def toBE (k n : Nat) : List Byte := (toLE k n).reverse

/-- k bytes most significant first, as a number. -/
def ofBE (bs : List Byte) : Nat := bs.foldl (fun a b => 256 * a + b.toNat) 0

/-- bytes i to i + n − 1. -/
def slice (bs : List Byte) (i n : Nat) : List Byte := (bs.drop i).take n

/-- n zero bytes. -/
def zeros (n : Nat) : List Byte := List.replicate n 0

/-- The bytes with those from off on replaced, padded with zeros to reach off. -/
def putBytes (bs : List Byte) (off : Nat) (d : List Byte) : List Byte :=
  (bs ++ zeros (off - bs.length)).take off ++ d ++ bs.drop (off + d.length)

/-- The words of a big-endian byte stream. -/
def wordsBE : List Byte → List Word
  | a :: b :: c :: d :: rest => BitVec.ofNat 32 (ofBE [a, b, c, d]) :: wordsBE rest
  | _ => []

/-- The whole words of a little-endian byte stream. -/
def wordsLE : List Byte → List Word
  | a :: b :: c :: d :: rest => BitVec.ofNat 32 (ofBE [d, c, b, a]) :: wordsLE rest
  | _ => []

/-- Flip the bits that a line error flips. -/
def applyErr (bs : List Byte) (err : LineErr) : List Byte :=
  err.foldl (fun acc e => acc.set e.1 ((acc[e.1]?).getD 0 ^^^ e.2)) bs

/-- All values of a list differ. -/
def allDiff {α : Type} [DecidableEq α] : List α → Bool
  | [] => true
  | a :: as => !(as.contains a) && allDiff as

/-- A list of Bools as the bits of a number, element i at bit i. -/
def maskOf (bs : List Bool) : Nat := pack (bs.map (fun b => (1, b2n b)))

/-- The indices below n at which p holds. -/
def idxs (n : Nat) (p : Nat → Bool) : List Nat := (List.range n).filter p

/-- Element i of a vector, or the default past its end. -/
def vget {α : Type} {n : Nat} (v : Vector α n) (d : α) (i : Nat) : α := (v[i]?).getD d

/-- The vector with element i replaced by its image; unchanged past its end. -/
def vmod {α : Type} {n : Nat} (v : Vector α n) (i : Nat) (f : α → α) : Vector α n :=
  if h : i < n then v.set i (f v[i]) h else v

end Sys2Proof.Machine
end

