-- ==== Sys2Proof/Machine/F32.lean ====
section
/-! DEFINITION. Binary32 arithmetic of the Blades (R97): rounded to nearest with ties to even, subnormal operands and
results taken as zero of the same sign, no condition trapping. -/

namespace Sys2Proof.Machine.F32

/-- Sign bit. -/
def neg (x : F32) : Bool := x.msb

/-- Biased exponent. -/
def ex (x : F32) : Nat := fld x.toNat 23 8

/-- Fraction bits. -/
def fr (x : F32) : Nat := x.toNat % 2 ^ 23

/-- A zero, or a subnormal, which counts as one (R97). -/
def isZero (x : F32) : Bool := ex x == 0

/-- A NaN. -/
def isNaN (x : F32) : Bool := ex x == 255 && fr x != 0

/-- An infinity. -/
def isInf (x : F32) : Bool := ex x == 255 && fr x == 0

/-- The word with these parts. -/
def mk (s : Bool) (e f : Nat) : F32 := BitVec.ofNat 32 (pack [(23, f), (8, e), (1, b2n s)])

/-- Zero with a sign. -/
def zero (s : Bool) : F32 := mk s 0 0

/-- Infinity with a sign. -/
def inf (s : Bool) : F32 := mk s 255 0

/-- The NaN an invalid operation gives: its bits are the free value Config.nanBits (log entry 13). -/
def nan (x y : F32) : F32 := mk false 255 (2 ^ 22 + (Config.nanBits x y).toNat)

/-- Significand with its hidden bit. -/
def sig (x : F32) : Nat := 2 ^ 23 + fr x

/-- The value (−1)^s × m × 2^e / d (d ≥ 1), rounded to nearest, ties to even; a result below the normal range is zero
of its sign, above it infinity (R97). -/
def round (s : Bool) (m : Nat) (e : Int) (d : Nat) : F32 :=
  if m = 0 then zero s
  else
    -- scale so that the quotient has at least 26 significant bits
    let k : Nat := 26 + Nat.log2 d + 1
    let q := m * 2 ^ k / d
    let sticky := b2n (m * 2 ^ k % d != 0)
    let n := 2 * q + sticky
    let len := Nat.log2 n + 1
    let sh := len - 24
    let base := n / 2 ^ sh
    let rem := n % 2 ^ sh
    let half := 2 ^ (sh - 1)
    let up := half < rem || (rem == half && base % 2 == 1)
    let r := base + b2n up
    let (r, sh) := if r = 2 ^ 24 then (2 ^ 23, sh + 1) else (r, sh)
    let eb : Int := e - (k : Int) - 1 + (sh : Int) + 23 + 127
    if eb ≤ 0 then zero s
    else if 255 ≤ eb then inf s
    else mk s eb.toNat (r - 2 ^ 23)

/-- A rational n / d as binary32. -/
def ofRat (n : Int) (d : Nat) : F32 := round (n < 0) n.natAbs 0 d

/-- An integer as binary32. -/
def ofInt (n : Int) : F32 := ofRat n 1

/-- The opposite sign. -/
def negate (x : F32) : F32 := x ^^^ 0x80000000#32

/-- Sum. -/
def add (x y : F32) : F32 :=
  if isNaN x || isNaN y then nan x y
  else if isInf x then (if isInf y && (neg x != neg y) then nan x y else x)
  else if isInf y then y
  else if isZero x then (if isZero y then zero (neg x && neg y) else y)
  else if isZero y then x
  else
    let e := min (ex x) (ex y)
    let mx : Int := (if neg x then -1 else 1) * ((sig x * 2 ^ (ex x - e) : Nat) : Int)
    let my : Int := (if neg y then -1 else 1) * ((sig y * 2 ^ (ex y - e) : Nat) : Int)
    let m := mx + my
    if m = 0 then zero false else round (m < 0) m.natAbs ((e : Int) - 150) 1

/-- Difference. -/
def sub (x y : F32) : F32 := add x (negate y)

/-- Product. -/
def mul (x y : F32) : F32 :=
  let s := neg x != neg y
  if isNaN x || isNaN y then nan x y
  else if isInf x then (if isZero y then nan x y else inf s)
  else if isInf y then (if isZero x then nan x y else inf s)
  else if isZero x || isZero y then zero s
  else round s (sig x * sig y) ((ex x : Int) + ex y - 300) 1

/-- Quotient. -/
def div (x y : F32) : F32 :=
  let s := neg x != neg y
  if isNaN x || isNaN y then nan x y
  else if isInf x then (if isInf y then nan x y else inf s)
  else if isInf y then zero s
  else if isZero y then (if isZero x then nan x y else inf s)
  else if isZero x then zero s
  else round s (sig x) ((ex x : Int) - ex y) (sig y)

/-- Square root, from the integer square root with a sticky bit. -/
def sqrt (x : F32) : F32 :=
  if isNaN x then nan x x
  else if isZero x then zero (neg x)
  else if neg x then nan x x
  else if isInf x then x
  else
    let e : Int := (ex x : Int) - 150
    let odd := e % 2 != 0
    let m := (if odd then 2 * sig x else sig x) * 2 ^ 40
    let h : Int := (if odd then e - 1 else e) / 2 - 20
    let r := Nat.sqrt m
    round false (2 * r + b2n (r * r != m)) (h - 1) 1

/-- The number as an exact fraction (numerator, denominator); 0 for a NaN or an infinity. -/
def toRat (x : F32) : Int × Nat :=
  if isZero x || ex x == 255 then (0, 1)
  else
    let s : Int := if neg x then -1 else 1
    if 150 ≤ ex x then (s * ((sig x * 2 ^ (ex x - 150) : Nat) : Int), 1)
    else (s * (sig x : Int), 2 ^ (150 - ex x))

/-- Comparison; false when either is a NaN. -/
def lt (x y : F32) : Bool :=
  if isNaN x || isNaN y then false
  else if isInf x then neg x && !(isInf y && neg y)
  else if isInf y then !neg y
  else
    let a := toRat x
    let b := toRat y
    a.1 * b.2 < b.1 * a.2

/-- Less or equal; false when either is a NaN. -/
def le (x y : F32) : Bool := !(isNaN x || isNaN y) && !lt y x

/-- The smaller, the first where they do not compare. -/
def fmin (x y : F32) : F32 := if lt y x then y else x

/-- The larger, the first where they do not compare. -/
def fmax (x y : F32) : F32 := if lt x y then y else x

/-- The nearest integer to x × num / den, a half away from zero. -/
def roundScaled (x : F32) (num den : Nat) : Int :=
  let a := toRat x
  roundAway (a.1 * num) ((a.2 * den : Nat) : Int)

/-- Toward zero. -/
def trunc (x : F32) : Int :=
  let a := toRat x
  truncDiv a.1 a.2

end Sys2Proof.Machine.F32
end

