-- ==== Sys2Proof/Machine/Crc.lean ====
section
/-! DEFINITION. The two checks of the manual: the reflected CRC-32C of R57 and the CRC-16 of R240 and R380. -/

namespace Sys2Proof.Machine

/-- One bit of the reflected CRC-32C: polynomial 1EDC_6F41h, reflected 82F6_3B78h (R57). -/
def crc32Bit (c : Word) : Word :=
  if c &&& 1 == 1 then (c >>> 1) ^^^ 0x82F63B78#32 else c >>> 1

/-- One byte of CRC-32C. -/
def crc32Byte (c : Word) (b : Byte) : Word :=
  (fun x => crc32Bit (crc32Bit (crc32Bit (crc32Bit x))))
    ((fun x => crc32Bit (crc32Bit (crc32Bit (crc32Bit x)))) (c ^^^ b.setWidth 32))

/-- CRC-32C with a given initial value, final XOR with FFFF_FFFFh (R57, R303). -/
def crc32From (init : Word) (bs : List Byte) : Word := bs.foldl crc32Byte init ^^^ 0xFFFFFFFF#32

/-- CRC-32C (R57). -/
def crc32c (bs : List Byte) : Word := crc32From 0xFFFFFFFF#32 bs

/-- One bit of CRC-16, polynomial 1021h, not reflected (R240, R380). -/
def crc16Bit (c : BitVec 16) : BitVec 16 :=
  if c &&& 0x8000 == 0x8000 then (c <<< 1) ^^^ 0x1021#16 else c <<< 1

/-- One byte of CRC-16. -/
def crc16Byte (c : BitVec 16) (b : Byte) : BitVec 16 :=
  (fun x => crc16Bit (crc16Bit (crc16Bit (crc16Bit x))))
    ((fun x => crc16Bit (crc16Bit (crc16Bit (crc16Bit x)))) (c ^^^ (b.setWidth 16 <<< 8)))

/-- CRC-16 from an initial value (R240). -/
def crc16From (init : BitVec 16) (bs : List Byte) : BitVec 16 := bs.foldl crc16Byte init

/-- The CRC-16 of the host port: initial value FFFFh (R380). -/
def crc16 (bs : List Byte) : BitVec 16 := crc16From 0xFFFF#16 bs

/-- The blocks a ring check value can cover (R240). -/
inductive RingBlk
  | header
  | down (s : Nat)
  | up (s : Nat)
  | window
  deriving DecidableEq, Repr

/-- The initial value of a ring check (R240). -/
def ringSeed (ring : Nat) (b : RingBlk) : BitVec 16 :=
  let x : Nat := match b with
    | .header => 0xF0
    | .down s => s
    | .up s => 0x80 ^^^ s
    | .window => 0xE0
  0xFFFF#16 ^^^ BitVec.ofNat 16 (ring * 0x100) ^^^ BitVec.ofNat 16 x

/-- The ring check over bytes, low byte first (R240). -/
def ringCrc (ring : Nat) (b : RingBlk) (bs : List Byte) : List Byte :=
  toLE 2 (crc16From (ringSeed ring b) bs).toNat

/-- The bytes followed by their ring check. -/
def withCrc (ring : Nat) (b : RingBlk) (bs : List Byte) : List Byte := bs ++ ringCrc ring b bs

/-- A block whose last two bytes are its ring check. -/
def crcOk (ring : Nat) (b : RingBlk) (blk : List Byte) : Bool :=
  2 ≤ blk.length && ringCrc ring b (blk.take (blk.length - 2)) == blk.drop (blk.length - 2)

end Sys2Proof.Machine
end

