-- ==== Sys2Proof/Machine/AxisState.lean ====
section
/-! DEFINITION. What the lane holds for one axis: Hall tracking (chapter 4), motion, compare slots, limit inputs and
homing (chapter 5), obstacle detection and the Schuss passes (chapter 6). Every default is the field's reset value. -/

namespace Sys2Proof.Machine

/-- POSQ of AXIS_HSTAT (R147). -/
inductive PosQ | invalid | suspect | valid
  deriving DecidableEq, Repr

/-- PHASE of AXIS_PSTAT (R154, R176). -/
inductive Phase | idle | accel | cruise | decel | stopping
  deriving DecidableEq, Repr

/-- HSTATE of AXIS_HOMST (R176). -/
inductive HomState | idle | backOff | approach | settle | done | fault
  deriving DecidableEq, Repr

/-- OSTATE of AXIS_OSTAT (R206). -/
inductive OState | watching | exceeding | preArmed | confirmed | braking | relief | held | notEval
  deriving DecidableEq, Repr

/-- The configuration of one axis: fields of class ST, from AXES, MOTION and SAFETY, and the two fields of class
MR or LN that a host write sets beside them. Defaults are the manual's stated defaults, else 0 (log entry 7). -/
structure HallCfg where
  hmode : Nat := 0
  hdir : Bool := false
  hofs : Nat := 0
  spdto : Nat := 50
  invmax : Nat := 8
  cpmm : Nat := 0
  poles : Nat := 0
  deriving DecidableEq, Repr

/-- Motion configuration of one axis (R176). `acc` to `qdec` are the register contents; the values in force stand in
`ProfSt`. -/
structure MotCfg where
  vmax : Nat := 0
  scurve : Bool := false
  acc : Nat := 0
  dec : Nat := 0
  jerk : Nat := 0
  qdec : Nat := 6000
  abase : Nat := 400
  ahold : Nat := 200
  inposw : Nat := 4
  kboost : Nat := 0x0C80
  kforce : Nat := 0
  amax : Nat := 4095
  tlead : Nat := 62
  leadmax : Nat := 512
  keep : Bool := false
  nstall : Nat := 800
  vstall : Nat := 40
  deriving DecidableEq, Repr

/-- Homing and limit-stop configuration of one axis (R168, R172, R176). -/
structure HomCfg where
  hseq : Nat := 0
  hceil : Nat := 1024
  hspd : Nat := 500
  hoffp : Int := 0
  lsstop : Nat := 0
  lsdec : Nat := 2000
  htmo : Nat := 20
  hback : Nat := 20
  deriving DecidableEq, Repr

/-- Obstacle configuration of one axis (R206), first part: enables, thresholds and force limits. -/
structure ObsCfg where
  oben : Bool := true
  obeno : Bool := true
  preden : Bool := true
  edgeen : Bool := false
  curten : Bool := false
  learn : Bool := true
  clneg : Bool := false
  fthr : Nat := 300
  fthro : Nat := 300
  fthrs : Nat := 600
  npre : Nat := 4
  nclr : Nat := 40
  fconf : Nat := 1000
  prelook : Nat := 800
  fmaxc : Nat := 1500
  fmaxo : Nat := 1500
  fmaxs : Nat := 2500
  fbrk : Nat := 3000
  fpeak : Nat := 2000
  sealz : Nat := 300
  sealgap : Nat := 40
  vseal : Nat := 500
  edgegap : Nat := 20
  closepos : Int := 0
  deriving DecidableEq, Repr

/-- Obstacle configuration of one axis (R206), second part: mass, drag map, snowplough, Schuss and platform. -/
structure SnowCfg where
  mleaf : Nat := 0
  dragmax : Nat := 500
  lrate : Nat := 3
  dstep : Nat := 20
  curtgap : Nat := 150
  xspan : Nat := 0
  spdmin : Nat := 6000
  spdmax : Nat := 10000
  sprel : Nat := 100
  spvr : Nat := 1000
  stagel : Nat := 50
  passmax : Nat := 64
  prio : Nat := 0xC9
  kh : Vector Nat 4 := #v[20, 100, 500, 4000]
  stepmin : Nat := 500
  kplat : Nat := 2000
  stepback : Nat := 200
  vedgef : Nat := 1500
  deriving DecidableEq, Repr

/-- One cell of the drag map: closing and opening entry, in 0.1 N (R206, AXIS_DMAP). -/
structure DragCell where
  drc : Nat := 0
  dro : Nat := 0
  deriving DecidableEq, Repr

/-- What the stream fixes of one axis, and what the host tunes of it. `defd` says that AXES defines the axis. -/
structure AxisCfg where
  defd : Bool := false
  ring : Nat := 0
  slot : Nat := 0
  isStep : Bool := false
  stepper : Bool := false
  doorway : Nat := 0
  side : Nat := 0
  table : Nat := 0
  hall : HallCfg := {}
  mot : MotCfg := {}
  hom : HomCfg := {}
  obs : ObsCfg := {}
  snow : SnowCfg := {}
  dmap : Vector DragCell 64 := Vector.replicate 64 {}
  deriving DecidableEq, Repr

/-- Hall tracking of one axis (R127 to R149). `negOrder` is the form of R143 in force (descending sector order),
`negForm` that of R142 (negative track direction). `ivals` are the edge intervals measured since standstill, newest
first, at most two. `fresh` says that the next timestamped edge is a first edge after standstill (R139), `ntsEdges`
counts the timestamped edges since NOTS was set (R141), `seen` that an edge was seen since bring-up (R142), and `tickAt` is the
latch time of the tick that AX_BASE computed last (R138). -/
structure HallSt where
  hstate : Nat := 0
  sector : Option Nat := none
  still : Bool := true
  dirNeg : Bool := false
  posq : PosQ := .invalid
  hinv : Bool := false
  hflt : Bool := false
  hskip : Bool := false
  spdsat : Bool := false
  edgeovr : Bool := false
  nots : Bool := false
  raw : BitVec 16 := 0
  track : BitVec 32 := 0
  spd : Int := 0
  v4 : Int := 0
  deriving DecidableEq, Repr

/-- Edge times, interpolation and error counters of one axis (R137 to R147). -/
structure EdgeSt where
  tEdge : Option Time := none
  edget : Word := 0
  edgei : Nat := 0
  ivals : List Nat := []
  fresh : Bool := true
  ntsEdges : Nat := 0
  seen : Bool := false
  f : Nat := 0
  negForm : Bool := false
  negOrder : Bool := false
  pi : Int := 0
  piHist : List Int := []
  elpos : Nat := 0
  invRun : Nat := 0
  invcnt : Nat := 0
  skipcnt : Nat := 0
  ovrcnt : Nat := 0
  misscnt : Nat := 0
  tickAt : Option Time := none
  deriving DecidableEq, Repr

/-- A command that waits for its start gate (R41, R150, R210). -/
structure AxCmd where
  code : Nat
  seq : BitVec 8
  target : Option Int := none
  deriving DecidableEq, Repr

/-- What a motion of the profile is for: R153 (a move), R168 (a homing run without target), R169 and R170 (the stop that ends
one), R198 and R200 (brake and relief of a snowplough), R154 (a stop). -/
inductive Motion | none | move | homeRun | homeStop | brake | relief | stop
  deriving DecidableEq, Repr

/-- The reference and the values in force (R153 to R157). `again` is the target of the move that R152 starts from
standstill; `arrived` says that the last move reached its target, `reached` that it did so in the tick just computed (R208),
`cstop` that a controlled stop runs, `qstop` that the stop under way is a QSTOP (R152), and `form` is the move's PTYPE. -/
structure ProfSt where
  phase : Phase := .idle
  motion : Motion := .none
  p : F32 := 0
  v : F32 := 0
  a : F32 := 0
  ptgt : F32 := 0
  neg : Bool := false
  scurve : Bool := false
  accUse : Nat := 0
  decUse : Nat := 0
  jerkUse : Nat := 0
  qdecUse : Nat := 0
  stopDec : Nat := 0
  again : Option Int := none
  accDefer : Bool := false
  pdone : Bool := false
  lstop : Bool := false
  moved : Bool := false
  lastNeg : Bool := false
  arrived : Bool := false
  reached : Bool := false
  cstop : Bool := false
  qstop : Bool := false
  form : Bool := false
  deriving DecidableEq, Repr

/-- Amplitude, address and stall of one axis (R158 to R162, R176). `stallDone` says that the present run of R162 has
confirmed its stall. -/
structure AmpSt where
  pr : Int := 0
  ferr : Int := 0
  amp : Nat := 0
  aceil : Nat := 0
  tdNeg : Bool := false
  sat : Bool := false
  stall : Bool := false
  stallRun : Nat := 0
  stallNow : Bool := false
  stallDone : Bool := false
  inpos : Bool := false
  addr : Nat := 0
  lead : Int := 0
  stepu : Int := 0
  deriving DecidableEq, Repr

/-- A compare slot (R163 to R165). `behind` is the judgement of the arming tick, once it has been made. -/
structure CmpSlot where
  cpos : BitVec 32 := 0
  arm : Bool := false
  cdir : Bool := false
  act : Nat := 0
  hit : Bool := false
  late : Bool := false
  ctime : Word := 0
  behind : Option Bool := none
  deriving DecidableEq, Repr

/-- One brick input of the axis (R166, R167): run of equal samples, the TRACK captured at its raw edge, and the
frame numbers of the raw edges of the last 2000 frames. -/
structure LimIn where
  raw : Bool := false
  deb : Bool := false
  chat : Bool := false
  run : Nat := 0
  cap : BitVec 32 := 0
  edges : List Nat := []
  sampled : Bool := false
  tripped : Bool := false
  chatted : Bool := false
  deriving DecidableEq, Repr

/-- Homing of one axis (R168 to R171). -/
structure HomSt where
  st : HomState := .idle
  hdone : Bool := false
  hfault : Nat := 0
  seq : Nat := 0
  ticks : Nat := 0
  backFrom : Int := 0
  posq0 : PosQ := .invalid
  event : Bool := false
  deriving DecidableEq, Repr

/-- The flags, counters and results of obstacle detection that the host reads (R206). -/
structure ObsFlags where
  edge : Bool := false
  curt : Bool := false
  edgeflt : Bool := false
  obst : Bool := false
  plat : Bool := false
  pkover : Bool := false
  sealstop : Bool := false
  prewd : Bool := false
  obstcnt : Nat := 0
  confsrc : Nat := 0
  sel : Nat := 0
  basesp : Bool := false
  stage : Nat := 0
  conft : Word := 0
  kestc : Nat := 0
  sqcnt : Nat := 0
  sqfcnt : Nat := 0
  platpos : BitVec 32 := 0
  deriving DecidableEq, Repr

/-- Force model, exceedance run and snowplough of one axis (R179 to R202). `commitDue` holds the sources of a confirm
whose commit comes at the next start gate; `armed` says that the axis has been pre-armed since its reset values. -/
structure ObsSt where
  ostate : OState := .notEval
  zone : Nat := 0
  flim : Nat := 0
  iq : Int := 0
  fest : Int := 0
  fexp : Int := 0
  e : Int := 0
  emax : Int := 0
  xc : BitVec 32 := 0
  kest : Nat := 0
  kvalid : Bool := false
  piex : Int := 0
  eex : Int := 0
  run : Nat := 0
  clr : Nat := 0
  commitDue : Option Nat := none
  armed : Bool := false
  atPlat : Bool := false
  spdec : Nat := 0
  fpk : Nat := 0
  reld : Nat := 0
  spNeg : Bool := false
  flags : ObsFlags := {}
  deriving DecidableEq, Repr

/-- The samples of one cell and direction in a learning move (R183): number of ticks and sum of s × (FEST − FINER). -/
structure LearnCell where
  cell : Nat
  closing : Bool
  n : Nat
  sum : Int
  deriving DecidableEq, Repr

/-- Learning of one axis (R183, R184): the move in progress, whether it is spoilt, the moves of the cycle that
reached PDONE, those of a cycle whose record is still to be written, and the updates due at the next start gate. -/
structure LearnSt where
  cur : List LearnCell := []
  spoilt : Bool := false
  good : List LearnCell := []
  due : List LearnCell := []
  apply : Bool := false
  deriving DecidableEq, Repr

/-- KEEP (R173, R174): whether the power stage is reported unpowered, and what held when it was lost. -/
structure KeepSt where
  unpowered : Bool := false
  lost : Option Bool := none
  kres : Nat := 0
  deriving DecidableEq, Repr

/-- What a run of AX_BASE asks of the lane when its result is merged (R195, R165, R253, R196): passes to squash (1 those
being built, 2 all), an attention, a stop of the doorway, the hypothesis and stage a commit took, a yield of cause 04h, the
events of the tick that R442 shows, bits 0 to 5 as in AFLAGS and 6 for a commit, the host's and the sequencer's command that
it judged, with their return codes, and whether it judged a write to AXIS_ACC or AXIS_JERK. -/
structure AxOut where
  squash : Nat := 0
  attn : Bool := false
  doorStop : Bool := false
  took : Option (Nat × Nat) := none
  yield4 : Bool := false
  evts : Nat := 0
  judged : Option (AxCmd × Nat) := none
  ordered : Option (AxCmd × Nat) := none
  acc : Bool := false
  deriving DecidableEq, Repr

/-- A result accepted while an older one still waits for its merge: what both ask is asked, and the newer answer stands. -/
def AxOut.join (o w : AxOut) : AxOut :=
  { squash := max o.squash w.squash, attn := o.attn || w.attn, doorStop := o.doorStop || w.doorStop, took := w.took <|> o.took
    yield4 := o.yield4 || w.yield4, evts := o.evts ||| w.evts, judged := w.judged <|> o.judged
    ordered := w.ordered <|> o.ordered, acc := o.acc || w.acc }

/-- What stays of it once the lane has carried it out: the events, until the merge has shown them to the doorway's cycle
(R442). -/
def AxOut.done (o : AxOut) : AxOut := { evts := o.evts }

/-- What AX_BASE keeps of one axis from tick to tick (its context block), and shows the host as one merge (R148). -/
structure AxisSt where
  hall : HallSt := {}
  edge : EdgeSt := {}
  prof : ProfSt := {}
  amp : AmpSt := {}
  cmp : Vector CmpSlot 4 := Vector.replicate 4 {}
  lim : Vector LimIn 4 := Vector.replicate 4 {}
  frames : Nat := 0
  hom : HomSt := {}
  obs : ObsSt := {}
  learn : LearnSt := {}
  keep : KeepSt := {}
  res : Vector Word 4 := Vector.replicate 4 0
  fit : Vector Bool 4 := Vector.replicate 4 false
  out : AxOut := {}
  cmpEvent : Bool := false
  deriving DecidableEq, Repr

/-- AXIS_CMDST and AXIS_PTGT, and the commands that wait for a start gate (R150, R151). `prevCfg` is the configuration before
the writes of the present gate, by which the commands of that gate are judged (R178). -/
structure AxisCmdSt where
  ptgt : BitVec 32 := 0
  seq : BitVec 8 := 0
  rc : Nat := 0
  ownhost : Bool := false
  hostCmd : Option AxCmd := none
  seqCmd : Option AxCmd := none
  accWrite : Bool := false
  hold : Bool := false
  prevCfg : Option AxisCfg := none
  deriving DecidableEq, Repr

/-- One axis of a lane: the merged block, which kernels and the host read, the block its task is computing, one that the finish
line has accepted and not merged yet (R113, R118), and its commands. -/
structure Axis where
  cur : AxisSt := {}
  work : Option AxisSt := none
  acc : Option AxisSt := none
  cmd : AxisCmdSt := {}
  deriving DecidableEq, Repr

/-- The record of one Schuss stage (R191, R192). -/
structure StageRec where
  x : F32 := 0
  v : F32 := 0
  fc : F32 := 0
  spdec : Nat := 0
  fpk : Nat := 0
  reld : Nat := 0
  pko : Bool := false
  deriving DecidableEq, Repr

/-- A pass of one hypothesis (R190): its anchor tick, the constants converted at the anchor (R191, R516), among them the drag
entries of the move direction with the span and scale that find their cells, the running
model and reference (positions and speed along the motion), the stages computed, and a fault held back (R196). -/
structure Pass where
  anchor : Nat := 0
  stagel : Nat := 1
  neg : Bool := false
  kh : F32 := 0
  khReg : Nat := 1
  kb : F32 := 0
  ff : F32 := 0
  fceil : F32 := 0
  m : F32 := 0
  drag : Vector Nat 64 := Vector.replicate 64 0
  xspan : Nat := 0
  cpmm : Nat := 0
  xc : F32 := 0
  x : F32 := 0
  v : F32 := 0
  fc : F32 := 0
  ref : ProfSt := {}
  stages : List StageRec := []
  fault : Option PageFault := none
  deriving DecidableEq, Repr

/-- One hypothesis of one axis (R190 to R197, R206): the pass being built, a pass whose last stage is still to merge, the
newest complete pass, whether a stage task is queued, what a stage task has computed and not delivered, and of the pass that
waits the tick in which the task of its last stage started, and whether it has merged. -/
structure Hyp where
  hq : Bool := false
  hrdy : Bool := false
  hflt : Bool := false
  build : Option Pass := none
  full : Option Pass := none
  done : Option Pass := none
  stageDue : Bool := false
  work : Option Pass := none
  fullFrom : Option Nat := none
  fullIn : Bool := false
  hstg : Nat := 0
  hage : Nat := 0x3FF
  fpred : Nat := 0
  hthit : Nat := 0xFFFF
  hspdec : Nat := 0
  hfpk : Nat := 0
  deriving DecidableEq, Repr

end Sys2Proof.Machine
end

