-- ==== Sys2Proof/Machine/DoorState.lean ====
section
/-! DEFINITION. What a lane holds for one doorway and for the slalom schedule (chapter 7). Every default is the
field's reset value. -/

namespace Sys2Proof.Machine

/-- DSTATE (R211). -/
inductive DState
  | none | locked | unlock | stepOut | opening | openSt | warning | closing | locking | stepIn | obstr | reopen
  | stopped | fault | service
  deriving DecidableEq, Repr

/-- Configuration of one doorway, class ST (R229, R232). An absent axis is `none` and reads 1Fh. -/
structure DwayCfg where
  defd : Bool := false
  right : Bool := false
  paired : Bool := false
  autoopen : Bool := false
  btnsrc : Bool := false
  chime : Nat := 0
  leaf0 : Option Nat := none
  leaf1 : Option Nat := none
  stepax : Option Nat := none
  lchLamp : Nat := 0xFF
  lchChime : Nat := 0xFF
  lchLock : Nat := 0xFF
  warn : Nat := 0
  rwarn : Nat := 0
  dwell : Nat := 0
  cltgt : Nat := 0
  istart : Nat := 0
  reopmax : Nat := 0
  reopmode : Bool := false
  reopd : Nat := 0
  lockto : Nat := 0
  lockrty : Nat := 0
  open0 : Int := 0
  open1 : Int := 0
  stepOut : Int := 0
  deriving DecidableEq, Repr

/-- Car-wide settings of DWAY, class ST (R228, R232). -/
structure CarCfg where
  cap : Nat := 0
  spacing : Nat := 0
  supg : Nat := 0
  iqui : Nat := 0
  disto : Nat := 0
  deriving DecidableEq, Repr

/-- The flags, counts and results of one doorway that the host reads (R232). -/
structure DwayFlags where
  clmiss : Bool := false
  lockf : Bool := false
  obstr : Bool := false
  stepf : Bool := false
  egrstop : Bool := false
  lastcl : Nat := 0
  wait : Nat := 0
  reopn : Nat := 0
  lockn : Nat := 0
  misses : Nat := 0
  deriving DecidableEq, Repr

/-- A command that a sequencer gives an axis (R150, R210). -/
structure AxOrder where
  axis : Nat
  code : Nat
  target : Int := 0
  deriving DecidableEq, Repr

/-- What a run of the sequencer asks of the lane when its result is merged: orders to axes, yields as (cause, axis, detail),
attentions of DWAY, a change of OWNHOST, a disagreement found, a cycle that began or ended (END of R441), and the host's
command that it judged with its return code. -/
structure DoorOut where
  orders : List AxOrder := []
  yields : List (Nat × Nat × Nat) := []
  attn : Bool := false
  own : Option Bool := none
  disag : Bool := false
  began : Bool := false
  ended : Option Nat := none
  answer : Option ((Nat × BitVec 8) × Option Nat) := none
  deriving DecidableEq, Repr

/-- A result accepted while an older one still waits for its merge. -/
def DoorOut.join (o w : DoorOut) : DoorOut :=
  { orders := o.orders ++ w.orders, yields := o.yields ++ w.yields, attn := o.attn || w.attn, own := w.own <|> o.own
    disag := o.disag || w.disag, began := o.began || w.began, ended := w.ended <|> o.ended, answer := w.answer <|> o.answer }

/-- Times of one doorway sequencer, as tick numbers: when it entered its state, W (R227), the start and length of the
WARNING, the end of a lock pulse, its last order, its request, its last grant, and the step's PDONE in STEPIN. -/
structure DoorTimes where
  since : Nat := 0
  w : Option Nat := none
  w0 : Nat := 0
  warnLen : Nat := 0
  pulse : Option Nat := none
  issued : Option Nat := none
  req : Nat := 0
  grant : Option Nat := none
  stepDone : Option Nat := none
  deriving DecidableEq, Repr

/-- The inside of one doorway sequencer. `after` is the state to take once the axes rest, `moved` that the move of the
present state was ordered, `noPosHeld` that NOPOS stays until the doorway leaves STOPPED (R219), `second` the leaves on the
second move of R214, `decided` that OBSTR holds, `lastClose` the one further close of R215, `stepMove` that REOPEN moves the
step; the rest is what it saw in the tick before. -/
structure DwaySt where
  st : DState := .none
  waitg : Bool := false
  releff : Bool := false
  nopos : Bool := false
  noPosHeld : Bool := false
  stepskip : Bool := false
  flags : DwayFlags := {}
  times : DoorTimes := {}
  lockOn : Bool := false
  lampOn : Bool := false
  chimeOn : Bool := false
  heldOpen : Bool := false
  after : Option DState := none
  moved : Bool := false
  second : List Nat := []
  decided : Bool := false
  lastClose : Bool := false
  stepMove : Bool := false
  logged : Bool := false
  btn : Nat := 0
  egr : Bool := false
  egrWait : Bool := false
  started : Bool := false
  cycle : Bool := false
  dis : Nat := 0
  disSeen : Bool := false
  out : DoorOut := {}
  deriving DecidableEq, Repr

/-- One doorway of a lane: merged block, block being computed, block accepted and not merged yet, and the host command that
waits for its gate. -/
structure Dway where
  cur : DwaySt := {}
  work : Option DwaySt := none
  acc : Option DwaySt := none
  seq : BitVec 8 := 0
  rc : Nat := 0
  cmd : Option (Nat × BitVec 8) := none
  deriving DecidableEq, Repr

/-- A budgeted move (R225): its doorway and axes, the tick and ISTART of its grant, and whether the grant was returned. -/
structure Budget where
  doorway : Nat
  axes : List Nat
  tick : Nat := 0
  istart : Nat := 0
  returned : Bool := false
  deriving DecidableEq, Repr

/-- The slalom schedule (R224 to R226, R232). `overCap` says that ISUM exceeded CAP in the last tick, and `budSeen` that
this excess has set BUDERR; an episode of cause 01h holds its axis, its log slot and its peak. `granted` are the grants of
this run, to act at the merge, as (doorway, ticks waited). -/
structure Slalom where
  isum : Nat := 0
  alloc : Nat := 0
  waiting : Nat := 0
  lastgr : Nat := 0
  grants : Nat := 0
  caphold : Bool := false
  buderr : Bool := false
  overCap : Bool := false
  budSeen : Bool := false
  buderrNow : Bool := false
  capAxis : Option Nat := none
  capSlot : Nat := 0
  capPeak : Nat := 0
  capNew : Bool := false
  lastGrantTick : Option Nat := none
  budgets : List Budget := []
  granted : List (Nat × Nat) := []
  deriving DecidableEq, Repr

/-- The car summary of a lane that is not derived from the doorways (R232). -/
structure CarSt where
  disag : Bool := false
  deriving DecidableEq, Repr

end Sys2Proof.Machine
end

