-- ==== Sys2Proof/Machine/RingState.lean ====
section
/-! DEFINITION. The glide rings (chapter 8): the bricks, each ring's line and repeat store, and what a lane holds for
each ring. Every default is the field's reset value. -/

namespace Sys2Proof.Machine

/-- What a brick's bridge does (R239, R251). -/
inductive Bridge | off | run | short
  deriving DecidableEq, Repr

/-- A down record (R239). -/
structure DownRec where
  seq : Nat := 0
  mode : Nat := 0
  hold : Bool := false
  clrsafe : Bool := false
  addr : Nat := 0
  amp : Nat := 0
  deriving DecidableEq, Repr

/-- A brick's slot, configuration and table banks (R245, R247). -/
structure BrickCfg where
  slot : Option Nat := none
  desc : BrickDesc := {}
  configured : Bool := false
  safeMode : Nat := 0
  form : Nat := 0
  dly : Nat := 0
  bank0 : List Byte := []
  bank1 : List Byte := []
  armed : Option Nat := none
  ack : Nat := 0
  deriving DecidableEq, Repr

/-- A power brick (R242 to R255). `taken` is the record it will apply at its next apply instant; `got` that it
received a frame for that instant; `heard` that a valid header came since its last local gate, `saw` that any frame did,
`judged` that the miss of this tick is counted. `bridge` is what mode or brick-safe mode asks of the bridge; the references are
in 1/32,767 amplitude unit, `refC` that of the three-phase form. -/
structure Brick where
  cfg : BrickCfg := {}
  lastSeq : Option Nat := none
  taken : Option DownRec := none
  got : Bool := false
  heard : Bool := false
  saw : Bool := false
  judged : Bool := false
  hdrMiss : Nat := 0
  missRun : Nat := 0
  dnerr : Nat := 0
  safe : Bool := false
  bridge : Bridge := .off
  mode : Nat := 0
  addr : Nat := 0
  amp : Nat := 0
  bflt : Nat := 0
  smp : BrickSample := {}
  seqe : Nat := 0
  held : Bool := false
  tbase : Word := 0
  refA : Int := 0
  refB : Int := 0
  refC : Int := 0
  deriving DecidableEq, Repr

/-- TYPE of a frame header (R238). -/
inductive FType | cyclic | enum | desc | config | push | arm | loopT | beacon
  deriving DecidableEq, Repr

/-- The hardware of one ring behind the multiplexer: its bricks, the frame and the BEACON on its line this tick, and the
repeat store of its output stage (R237, R254, R255). `typ` is what kind of frame the output stage sent at the last gate,
none where it sent only idle. -/
structure RingHw where
  bricks : Vector Brick 6 := Vector.replicate 6 {}
  line : List Byte := []
  typ : Option FType := none
  bcn : List Byte := []
  last : Option (List Byte) := none
  reps : Nat := 0
  repNow : Bool := false
  deriving DecidableEq, Repr

/-- STATE of GLID_RSTAT (R260). -/
inductive RState | off | bringUp | running | broken | rejoining | fault
  deriving DecidableEq, Repr

/-- A decoded up record (R239), its edges extended to timebase values. -/
structure UpRec where
  seqe : Nat := 0
  stat : Nat := 0
  hst : Nat := 0
  ovf : Bool := false
  din : Nat := 0
  ia : Int := 0
  ib : Int := 0
  vdc : Nat := 0
  edges : List (Time × Nat) := []
  temp : Nat := 0
  bflt : Nat := 0
  dnerr : Nat := 0
  latch : Time := 0
  deriving DecidableEq, Repr

/-- A command sent to an axis, kept until the frames that answer it have come back (R179). -/
structure SentCmd where
  seq : Nat
  addr : Nat
  tdNeg : Bool
  deriving DecidableEq, Repr

/-- What the lane holds of one brick slot (GLID_BST to GLID_BERR, R260). `inb` is the record of this tick's frame, absent
when it brought none, and `up` the one that tasks read from the next gate on (R36), with the command in force at the brick
for each (R179); `cmdReady` that AX_BASE has computed its first command since bring-up (R246); `cleared` that OFF with
CLRSAFE went out since SAFE was last seen off (R253). -/
structure SlotSt where
  stat : Nat := 0
  bflt : Nat := 0
  temp : Nat := 0
  dnerr : Nat := 0
  vendor : Nat := 0
  model : Nat := 0
  ifs : Nat := 0
  lag : Nat := 0
  fwd : Nat := 0
  serial : Word := 0
  missup : Nat := 0
  safecnt : Nat := 0
  dly : Nat := 0
  inb : Option UpRec := none
  up : Option UpRec := none
  missRun : Nat := 0
  cmdReady : Bool := false
  sfhold : Bool := false
  cleared : Option Nat := none
  sent : List SentCmd := []
  inForce : Option SentCmd := none
  force : Option SentCmd := none
  deriving DecidableEq, Repr

/-- Table bytes to send: MASK, OFF and the bytes (R241, R247). -/
structure TableBlk where
  mask : Nat
  off : Nat
  data : List Byte
  deriving DecidableEq, Repr

/-- The bring-up machine of one ring (R246): its step (0 while no bring-up runs), the idle ticks of step 1, what the
runs of steps 1 to 4 found as (RTD, serial numbers), the PUSH blocks still to send, and whether a RESCAN began it. -/
structure BringUp where
  step : Nat := 0
  ticks : Nat := 0
  rescan : Bool := false
  prev : List (Nat × List Word) := []
  pushes : List TableBlk := []
  deriving DecidableEq, Repr

/-- What a lane holds of one ring (R256, R257, R260). `due` says that the tick just past was one of up data; `ahead` that
the ring was brought up for the shadow structure, the running stream not using it (R249). -/
structure LaneRing where
  st : RState := .off
  nfound : Nat := 0
  brkat : Nat := 7
  buerr : Nat := 0
  rbrk : Bool := false
  rej : Bool := false
  upcrc : Nat := 0
  noret : Nat := 0
  beacons : Nat := 0
  hdrerr : Nat := 0
  rtd : Nat := 0
  eoft : Nat := 0
  slots : Vector SlotSt 6 := Vector.replicate 6 {}
  built : Option (List Byte) := none
  got : Bool := false
  due : Bool := false
  ahead : Bool := false
  noRetRun : Nat := 0
  goodRun : Nat := 0
  bu : BringUp := {}
  svc : List TableBlk := []
  deriving DecidableEq, Repr

end Sys2Proof.Machine
end

