-- ==== Sys2Proof/Machine/SafetyState.lean ====
section
/-! DEFINITION. The safety path (chapter 9), its safe connections (chapter 10) and the configuration store with the
seal record (chapter 2). Every default is the field's reset value. -/

namespace Sys2Proof.Machine

/-- STATE of SAFE_FN (R272). -/
inductive FnState | unused | start | run | demand | rstwait | fault
  deriving DecidableEq, Repr

/-- One technology's evaluation of one function (R272 to R276): its state and fault code, how long its channels have
disagreed in ms, whether both were low together since the fault began, and whether a reset was accepted since then. -/
structure FnEval where
  st : FnState := .start
  code : Nat := 0
  discMs : Nat := 0
  bothLow : Bool := false
  resetSeen : Bool := false
  deriving DecidableEq, Repr

/-- One safety function (R271 to R276, R295): both evaluations and the counts. Of a TWOHAND function, whether both buttons
have been low since the last operation and when each rose; of a RESET function, when its press began. Times are ms of the
safety core's oscillator. -/
structure SafeFn where
  sc : FnEval := {}
  rf : FnEval := {}
  demands : Nat := 0
  lastdm : Nat := 0
  faults : Nat := 0
  disagMs : Nat := 0
  armed : Bool := false
  rise1 : Option Nat := none
  rise2 : Option Nat := none
  press : Option Nat := none
  deriving DecidableEq, Repr

/-- A test pulse in progress (R281): the switch it is on, high side or low, and what its readback showed. -/
structure TestPulse where
  high : Bool
  rb : PulseReadback
  deriving DecidableEq, Repr

/-- One safety output (R278 to R282, R295). `hon` and `lon` are the standing commands of the two switches, `edmOn` the state
of the output that EDMIN is watched for, `edmLeft` the ms left for it to change, `fresh` that a switch was commanded since
the last scan, `slot` the test frame of the last slot of its pulse schedule. -/
structure SafeOut where
  hon : Bool := false
  lon : Bool := false
  hrb : Bool := false
  lrb : Bool := false
  testing : Option TestPulse := none
  ocode : Nat := 0
  edmOn : Bool := false
  edmLeft : Option Nat := none
  tests : Nat := 0
  nextHigh : Bool := false
  slot : Option Nat := none
  reactr : Nat := 0
  reacts : Nat := 0
  fresh : Bool := false
  deriving DecidableEq, Repr

/-- CSTATE of NET_CONN (R311). -/
inductive ConnState | unused | wait | valid | invalid | ackwait | producing
  deriving DecidableEq, Repr

/-- One safe connection (R305, R309 to R313, R319). Times are ms of the safety core's oscillator; `wdNew` says that a frame was
accepted since the last scan. -/
structure Conn where
  st : ConnState := .unused
  permit : Bool := false
  payload : List Byte := []
  code : Nat := 0
  rcnt : Nat := 0
  seq : Word := 0
  origin : Bool := false
  started : Bool := false
  crcerr : Nat := 0
  dup : Nat := 0
  ageerr : Nat := 0
  invcnt : Nat := 0
  wdMs : Nat := 0
  wdNew : Bool := false
  crcTimes : List Nat := []
  deriving DecidableEq, Repr

/-- What the safety core reports to the lanes at a start gate (R189, R209): for each axis and doorway, whether an edge or
curtain is active or interrupted (bit 0) and whether one is faulted (bit 1). -/
structure Report where
  zspd : Bool := false
  rell : Bool := false
  relr : Bool := false
  loops : BitVec 12 := 0
  egr : BitVec 12 := 0
  edges : Vector Nat 24 := Vector.replicate 24 0
  curts : Vector Nat 12 := Vector.replicate 12 0
  sperm : BitVec 16 := 0
  outon : BitVec 6 := 0
  tract : Bool := false
  deriving DecidableEq, Repr

/-- What the SAFE block, NET_CONN and TBAD show of a completed scan (R294, R319). -/
structure SafeView where
  scrun : Bool := false
  refrun : Bool := false
  sclost : Bool := false
  reflost : Bool := false
  sealtr : Bool := false
  vslow : Bool := false
  tbad : Bool := false
  scan : Nat := 0
  slev : BitVec 32 := 0
  rlev : BitVec 32 := 0
  cross : BitVec 32 := 0
  stuck : BitVec 32 := 0
  rep : Report := {}
  fns : Vector SafeFn 16 := Vector.replicate 16 { sc := { st := .unused }, rf := { st := .unused } }
  outs : Vector SafeOut 6 := Vector.replicate 6 {}
  conns : Vector Conn 64 := Vector.replicate 64 {}
  deriving DecidableEq, Repr

/-- A safety command taken from a mailbox that answers at a later scan (R293, R402). -/
structure SafeCmd where
  src : SafeSrc
  code : Nat
  seq : BitVec 16
  words : List Word
  deriving DecidableEq, Repr

/-- The safety core and the referee's half of the safety path (R263 to R287): class MR. `time` is the safety core's
oscillator in ms. `frameOn` says that a test frame has begun, `fhigh` and `rhigh` which inputs were high since its start,
`patOk` and `rOk` which inputs passed a whole frame since they last went low, `patBad` which deviated in this frame, `chk`
which are under an input check, `sspan` and `rspan` the length in µs of each input's last low run until it was recognised.
`sealSec` are the payloads of the SAFETY and REFEREE sections they evaluate, `chkv` and `refChkv` the check values each
holds, `sealtr` that the traction interlock is released, `tbHist` the timebase at the last scans, newest first, `view` the last
completed scan as the lanes' registers show it. -/
structure SafetyCore where
  scrun : Bool := false
  refrun : Bool := false
  sclost : Bool := false
  reflost : Bool := false
  vslow : Bool := false
  scan : Nat := 0
  time : Nat := 0
  slev : BitVec 32 := 0
  rlev : BitVec 32 := 0
  cross : BitVec 32 := 0
  stuck : BitVec 32 := 0
  frame : Nat := 0
  frameOn : Bool := false
  fhigh : BitVec 32 := 0
  rhigh : BitVec 32 := 0
  patOk : BitVec 32 := 0
  rOk : BitVec 32 := 0
  patBad : BitVec 32 := 0
  chk : BitVec 32 := 0
  sspan : Vector Nat 32 := Vector.replicate 32 0
  rspan : Vector Nat 32 := Vector.replicate 32 0
  fns : Vector SafeFn 16 := Vector.replicate 16 { sc := { st := .unused }, rf := { st := .unused } }
  outs : Vector SafeOut 6 := Vector.replicate 6 {}
  rell : Bool := false
  relr : Bool := false
  conns : Vector Conn 64 := Vector.replicate 64 {}
  inbox : List (Nat × List Byte) := []
  tbad : Bool := false
  tbHist : List Time := []
  cmds : List SafeCmd := []
  slotMs : Nat := 0
  sealSec : Option (List Byte × List Byte) := none
  chkv : Word := 0
  refChkv : Word := 0
  sealtr : Bool := false
  rep : Report := {}
  view : SafeView := {}
  deriving DecidableEq, Repr

end Sys2Proof.Machine
end

