-- ==== Sys2Proof/Machine/LaneState.lean ====
section
/-! DEFINITION. What a lane holds beside its axes, doorways and rings: scheduler, stream, host port, mailboxes, memory,
DMA, network, redundancy, ledger, health and power, each by reset class. Every default is the field's reset value. -/

namespace Sys2Proof.Machine

/-- A section of a stream image (R56). -/
structure Section where
  typ : Nat
  inst : Nat := 0
  sflags : Nat := 0
  payload : List Byte := []
  deriving DecidableEq, Repr

/-- A stream image: its 64-byte header and its sections in order (R55). -/
structure Image where
  hdr : List Byte := []
  secs : List Section := []
  deriving DecidableEq, Repr

/-- Task classes (R103), highest first. -/
inductive Cls | b | c | g | s | l | p
  deriving DecidableEq, Repr

/-- Where a task is (R108 to R118); `stopped` until the next start gate by a fault of an access (R372). -/
inductive TaskPos
  | waiting
  | running (pod blade : Nat)
  | arrived (pod blade : Nat)
  | stopped
  deriving DecidableEq, Repr

/-- One task of one context (R108). `noThief` are the Blades (pod, Blade) that an abandoned migration keeps from it this
tick (R112), `started` the tick in which a Blade first took it, `late` says that its miss of the cut-off is counted (R120),
`drop` that its result is discarded when it completes (R327), `lines` the result lines it delivered. -/
structure Task where
  ctx : Nat
  cls : Cls
  home : Nat
  pos : TaskPos := .waiting
  stolen : Bool := false
  preempted : Bool := false
  noThief : List (Nat × Nat) := []
  fromTick : Nat := 0
  started : Option Nat := none
  late : Bool := false
  drop : Bool := false
  lines : Nat := 0
  deriving DecidableEq, Repr

/-- The last accepted task of a context (SCHD_CTXRUN, class ST). -/
structure CtxRun where
  pod : Nat := 0
  blade : Nat := 0
  stolen : Bool := false
  preempted : Bool := false
  late : Nat := 0
  deriving DecidableEq, Repr

/-- The scheduler of a lane (R108 to R126), class LN. `utils` are the last 16 measures of use; what the next judgement of
the step counts is `gLate` (a task of class G ran past its gate, or a ring's axes missed after the last judgement) and
`sLate`; `missNow` says that a deadline was missed in this tick, `merged` is the merge set of the tick, `cLate` its late
class C, `window` that the tick's merge is still to come, `onTime` the contexts whose result of this tick is merged,
`carried` the result lines of the contexts of classes S, L and P merged, `wrote` the contexts whose block was written back
since the last data segment was made up (R323); `cyc` and `thefts` are the last fabric cycle in which a Blade came free, and
the steals made in it. -/
structure Sched where
  step : Nat := 0
  nextStep : Nat := 0
  raises : Nat := 0
  slackLast : Nat := 0
  slackMin : Nat := 0xFFFF
  utils : List Nat := []
  pred : Nat := 0
  capUnits : Nat := 0
  used : Nat := 0
  lastcyc : Nat := 0
  maxcyc : Nat := 0
  steals : Nat := 0
  preempts : Nat := 0
  lastSteals : Nat := 0
  lastPreempts : Nat := 0
  migflt : Nat := 0
  sqflt : Nat := 0
  tasks : List Task := []
  gated : BitVec 8 := 0
  quar : Option Nat := none
  qdepth : Vector Nat 8 := Vector.replicate 8 0
  freq : Vector Nat 8 := Vector.replicate 8 0
  calm : Nat := 0
  gLate : Bool := false
  sLate : Bool := false
  missNow : Bool := false
  merged : List Nat := []
  cLate : List Nat := []
  window : Bool := false
  onTime : List Nat := []
  carried : List (Nat × Nat) := []
  wrote : List Nat := []
  cyc : Option Nat := none
  thefts : List (Task × Nat × Nat) := []
  deriving DecidableEq, Repr

/-- MOD_STATUS and MOD_DEADLINE fields of class LN (R44, R47), and for each island the last tick whose start gate it missed
(R34). -/
structure ModLN where
  dlmiss : Bool := false
  gateloss : Bool := false
  gateMiss : Vector (Option Nat) 16 := Vector.replicate 16 none
  misscnt : Nat := 0
  lastax : Nat := 0
  missRun : Nat := 0
  deriving DecidableEq, Repr

/-- ROLE of MOD_STATUS (R44). -/
inductive Role | active | sync | unsync | degraded | starting
  deriving DecidableEq, Repr

/-- A host write accepted and not yet in effect (R41, R381): address and words. -/
structure HostWrite where
  addr : Nat
  words : List Word
  deriving DecidableEq, Repr

/-- HOST registers of class LN (R408). -/
structure HostLN where
  ign : Bool := false
  wcrcBad : Bool := false
  wlen : Bool := false
  rcrc : Bool := false
  fmt : Bool := false
  lockwr : Bool := false
  abort : Bool := false
  reqerr : Bool := false
  remrd : Bool := false
  mode3 : Bool := false
  igncnt : Nat := 0
  rejcnt : Nat := 0
  wcrc : BitVec 16 := 0
  wcount : Nat := 0
  attn : BitVec 17 := 0
  swrun : Bool := false
  swflt : Bool := false
  swfcnt : Nat := 0
  deriving DecidableEq, Repr

/-- A result slot's request (HOST_RREQ and PEND, class LN). -/
structure ResReq where
  raddr : Nat := 0
  rlen : Nat := 0
  rtgt : Bool := false
  pend : Bool := false
  reqseq : BitVec 16 := 0
  deriving DecidableEq, Repr

/-- A result slot's content (R389 to R392), class —; VALID and CONSUMED are part of it. -/
structure ResSlot where
  seq : BitVec 16 := 0
  len : Nat := 0
  valid : Bool := false
  consumed : Bool := false
  rstat : Nat := 0
  data : Vector Word 16 := Vector.replicate 16 0
  deriving DecidableEq, Repr

/-- A mailbox: header, acknowledge register, body and staging (R394, R395), class —. -/
structure Mbox where
  stamp : Word := 0
  seq : BitVec 16 := 0
  len : Nat := 0
  full : Bool := false
  coll : Bool := false
  startno : BitVec 8 := 0
  rc : BitVec 16 := 0
  aseq : BitVec 16 := 0
  body : Vector Word 16 := Vector.replicate 16 0
  staging : Vector Word 16 := Vector.replicate 16 0
  deriving DecidableEq, Repr

/-- MBX_MSTAT (R410), class LN. -/
structure MStat where
  msgnew : Bool := false
  acknew : Bool := false
  coll : Bool := false
  lenerr : Bool := false
  permerr : Bool := false
  ackerr : Bool := false
  noreach : Bool := false
  collcnt : Nat := 0
  deriving DecidableEq, Repr

/-- STATE of STRM_STATUS (R74). -/
inductive StrmState | empty | checking | building | running | liveStaging | liveReady | rejected
  deriving DecidableEq, Repr

/-- STRM registers of class LN (R74, R75), and the image being built in shadow. -/
structure StrmLN where
  st : StrmState := .empty
  done : Bool := false
  liveend : Bool := false
  lenerr : Bool := false
  code : Nat := 0
  sect : Nat := 0
  typ : Nat := 0
  off : Nat := 0
  page : Nat := 0
  shadow : Option Image := none
  partImg : Option Image := none
  built : Bool := false
  liveFrom : Time := 0
  storeDue : Bool := false
  deriving DecidableEq, Repr

/-- A DMA channel (R362 to R369, R375), class LN. `words` are descriptor words 0 to 4 in force, `regs` the host's
registers; `fetch` that the next burst fetches the chained descriptor at `curva`, `justRes` that the next burst is the first
after a pre-emption, `preRun` that this run was pre-empted. -/
structure DmaCh where
  regs : Vector Word 5 := Vector.replicate 5 0
  words : Vector Word 5 := Vector.replicate 5 0
  st : Nat := 0
  fcode : Nat := 0
  resumable : Bool := false
  done : Bool := false
  flt : Bool := false
  pres : Bool := false
  rej : Bool := false
  precnt : Nat := 0
  off : Nat := 0
  curva : Nat := 0
  tag : Nat := 0
  fetch : Bool := false
  lastPre : Nat := 0
  justRes : Bool := false
  preRun : Bool := false
  deriving DecidableEq, Repr

/-- MMU and DMA registers of class LN (R375). -/
structure DmaLN where
  chs : Vector DmaCh 8 := Vector.replicate 8 {}
  lenerr : Bool := false
  faults : Nat := 0
  apflt : Bool := false
  eccue : Bool := false
  eccce : Nat := 0
  suppr : Nat := 0
  lastKey : Option (Nat × Nat × Word × Nat) := none
  lastKeyTick : Nat := 0
  deriving DecidableEq, Repr

/-- MMU_APER (R359), class MR. -/
structure Aper where
  en : Bool := false
  wr : Bool := false
  dom : Nat := 0
  vbase : Nat := 0
  deriving DecidableEq, Repr

/-- A log's position (MOD_YLOG_HEAD, MMU_FHEAD), class MR. -/
structure LogHead where
  next : Nat := 0
  count : Nat := 0
  ovr : Nat := 0
  deriving DecidableEq, Repr

/-- A yield log entry (R53). -/
structure YEntry where
  tick : Word := 0
  broken : Nat := 0
  served : Nat := 0
  ctx : Nat := 0
  axis : Option Nat := some 0
  shadow : Bool := false
  cause : Nat := 0
  seq : Word := 0
  detail : Word := 0
  deriving DecidableEq, Repr

/-- A fault record (R370). -/
structure FRec where
  code : Nat := 0
  origin : Nat := 0
  wr : Bool := false
  spec : Bool := false
  resumable : Bool := false
  pres : Bool := false
  ctx : Nat := 0
  dom : Nat := 0
  va : Nat := 0
  offset : Nat := 0
  req : Word := 0
  tick : Word := 0
  seq : Word := 0
  aux1 : Word := 0
  aux2 : Word := 0
  deriving DecidableEq, Repr

/-- An Ethernet interface of a lane (R298 to R300, R319). ARP entries hold address, MAC and the timebase value at which they
expire. -/
structure EthLN where
  link : Bool := false
  spd : Nat := 0
  rxdisc : Nat := 0
  txerr : Nat := 0
  arp : List (Word × List Byte × Nat) := []
  polled : Option Nat := none
  pollDue : Bool := false
  deriving DecidableEq, Repr

/-- A CAN FD controller of a lane (R307, R319). -/
structure CanLN where
  st : Nat := 0
  tec : Nat := 0
  other : Nat := 0
  busoff : Nat := 0
  deriving DecidableEq, Repr

/-- The PTP slave of a lane (R301), times in 10 ns: the Sync that waits for its Follow_Up (source, sequence, arrival), the
correspondence of the last one (master time, timebase), the mean path delay, and the Delay_Req that is out (sequence, timebase
at which it left). -/
structure PtpSt where
  sync : Option (List Byte × Nat × Int) := none
  pair : Option (Int × Int) := none
  delay : Int := 0
  reqSeq : Nat := 0
  req : Option (Nat × Int) := none
  deriving DecidableEq, Repr

/-- NET registers of class LN (`fresh`: the next Sync is the first of a lock attempt), the safe-frame queue, and the frames
this lane has handed to its interfaces since the last start gate (interface as PATH bit number). `rx` is what came in for
NET_IO since then, and `handed` what NET_IO has been handed in this tick: datagrams and CAN frames with their interface
(R323, R327). -/
structure NetLN where
  tsync : Nat := 0
  ofs : Int := 0
  rate : Int := 0
  tofs : BitVec 64 := 0
  goodSyncs : Nat := 0
  fresh : Bool := true
  lastSync : Time := 0
  ptp : PtpSt := {}
  eths : Vector EthLN 2 := Vector.replicate 2 {}
  cans : Vector CanLN 2 := Vector.replicate 2 {}
  qdrop : Nat := 0
  queue : List (Nat × List Byte) := []
  tunreq : Nat := 0
  tundrop : Nat := 0
  tx : List (Nat × List Byte) := []
  rx : List (Nat × List Byte) := []
  handed : List (Nat × List Byte) := []
  deriving DecidableEq, Repr

/-- The accepted blocks of all contexts of a lane: what an epoch's data segment keeps in step (R323, R326). -/
structure Blocks where
  axes : Vector AxisSt 24 := Vector.replicate 24 {}
  dways : Vector DwaySt 12 := Vector.replicate 12 {}
  slalom : Slalom := {}
  hyps : Vector (Vector Hyp 4) 24 := Vector.replicate 24 (Vector.replicate 4 {})
  deriving DecidableEq, Repr

/-- A sample of a trace (R446): the tick it was taken in, and its 16 bytes. -/
abbrev TraceSample := Nat × List Byte

/-- A capture buffer at the end of its cycle, where TRIG kept it (R445, R446). -/
structure TraceBuf where
  nax : Nat := 1
  samples : List TraceSample := []
  tdec : Nat := 100
  wrap : Bool := false
  trig : Nat := 0
  deriving DecidableEq, Repr

/-- A record that waits for its LEDGER task (R438, R448): a cycle of a doorway that ended in a tick, with its body and its
trace, and the samples that each axis learns from; or an event. -/
inductive LedEntry
  | cycle (doorway tick : Nat) (body : List Byte) (trace : Option TraceBuf)
      (learn : List (Nat × List LearnCell))
  | event (code detail tick : Nat) (tend : BitVec 64)
  deriving DecidableEq, Repr

/-- Where the ledger of the active lane stands, with its pending queue, as an epoch carries it beside its records (R447). -/
structure LedMarks where
  nextseq : Word := 1
  upseq : Word := 1
  lost : Nat := 0
  tnext : Nat := 0
  tseq : Nat := 0
  pend : List LedEntry := []
  deriving DecidableEq, Repr

/-- The merge segment header (R324), with the contexts of the result lines that the segment carries and their number. -/
structure MergeHdr where
  tick : Nat := 0
  livecmt : Bool := false
  first : Bool := false
  cold : Bool := false
  step : Nat := 0
  dlen : Nat := 0
  carry : Nat := 0
  mset : List Nat := []
  img : Word := 0
  carried : List (Nat × Nat) := []
  deriving DecidableEq, Repr

/-- An epoch (R323, R324): the gate segment's writes and datagrams; the merge header; the lines of context blocks in the
data segment as context, line and bytes, those left for a later one, and what the blocks hold; the drag maps that changed by
learning (R183, R207); yield log entries and cycle records; and the ledger's position and the ARP caches it carries (R300,
R447). -/
structure Epoch where
  hdr : MergeHdr := {}
  writes : List HostWrite := []
  nets : List (Nat × List Byte) := []
  lines : List (Nat × Nat × List Byte) := []
  left : List (Nat × Nat) := []
  blocks : Blocks := {}
  ylog : List YEntry := []
  recs : List (Nat × List Byte) := []
  marks : LedMarks := {}
  arps : Vector (List (Word × List Byte × Nat)) 2 := Vector.replicate 2 []
  maps : List (Nat × Vector DragCell 64) := []
  deriving DecidableEq, Repr

/-- Lane redundancy fields of class LN (R345). Of a standby: whether the gate segment of this tick came, the merge segment's
header, whether this tick is extrapolated, the epoch in flight and the sealed one that waits for its gate, the epochs
unsealed in a row, the ticks of the last epoch sealed and of the last one judged, the clean shadow ticks of the join (R341),
whether a restart point came after the bulk copy, whether the sync link is lost and when it was last retried, and what the
last sealed epoch carried of the step and the ARP caches. Of the active lane: FIRST and COLD of its epochs (R324), the epoch
made up at the merge, the lines deferred to the next, and the axes whose drag map changed by learning at this tick's gate
(R183). -/
structure RedLN where
  stale : Bool := false
  extrap : Bool := false
  shmiss : Bool := false
  epdisc : Nat := 0
  extrapn : Nat := 0
  rptick : Nat := 0
  pairs : BitVec 4 := 0
  jstate : Nat := 0
  jticks : Nat := 0
  linkloss : Nat := 0
  bulkleft : Nat := 0
  gateSeg : Bool := false
  mergeSeg : Option MergeHdr := none
  exNow : Bool := false
  inflight : Option Epoch := none
  sealedEp : Option Epoch := none
  unsealedRun : Nat := 0
  sealedTick : Nat := 0
  judged : Option Nat := none
  clean : Nat := 0
  rpFresh : Bool := false
  linkDown : Bool := false
  linkTry : Time := 0
  sealStep : Nat := 0
  sealArps : Vector (List (Word × List Byte × Nat)) 2 := Vector.replicate 2 []
  firstEp : Bool := false
  coldEp : Bool := false
  epochOut : Option Epoch := none
  deferred : List (Nat × Nat) := []
  learned : List Nat := []
  deriving DecidableEq, Repr

/-- What a joining lane stores of a tick (R341): the decoded up data of its brick slots, and the gate and merge segments. -/
structure JoinTick where
  tick : Nat := 0
  ups : List (Option UpRec) := []
  writes : List HostWrite := []
  nets : List (Nat × List Byte) := []
  hdr : Option MergeHdr := none
  deriving DecidableEq, Repr

/-- The checkpoint and the two epoch receive buffers of a standby (R326), and the join store of 64 ticks (R341), which nothing
clears: class —. `next` is the buffer that the next epoch takes. -/
structure RedKeep where
  store : List JoinTick := []
  check : Blocks := {}
  buf0 : Option Epoch := none
  buf1 : Option Epoch := none
  next : Bool := false
  deriving DecidableEq, Repr

/-- What the ledger gathers of one axis in a cycle (R442). -/
structure CycAx where
  obstn : Nat := 0
  pos0 : Int := 0
  lastPos : Int := 0
  travel : Nat := 0
  vpk : Nat := 0
  fpkm : Int := 0
  epk : Int := 0
  amppk : Nat := 0
  aflags : Nat := 0
  bflt : Nat := 0
  tempmx : Int := -128
  vdcmin : Nat := 0xFFFF
  dnLast : Nat := 0
  dnMiss : Nat := 0
  upMiss : Nat := 0
  satt : Nat := 0
  dragN : Nat := 0
  dragSum : Int := 0
  deriving DecidableEq, Repr

/-- A cycle in progress (R436, R445); `ending` is how, when and at what train time it has ended, until the merge of that tick is
complete. -/
structure Cycle where
  tkstart : Nat := 0
  tstart : BitVec 64 := 0
  waitt : Nat := 0
  trig : Nat := 0
  sw : Bool := false
  cold : Bool := false
  yielded : Bool := false
  held : Bool := false
  axs : Vector CycAx 3 := Vector.replicate 3 {}
  samples : List TraceSample := []
  wrap : Bool := false
  lastSample : Option Nat := none
  tdec : Nat := 100
  ending : Option (Nat × Nat × BitVec 64) := none
  deriving DecidableEq, Repr

/-- LEDG registers of class LN (R455), cycles in progress, entries due and the pending queue. -/
structure LedgLN where
  scan : Bool := true
  mirgap : Bool := false
  nearfull : Bool := false
  lenerr : Bool := false
  sending : Nat := 0
  sendSeq : Word := 0
  autoSeqs : List Word := []
  sentAt : Option Nat := none
  nextseq : Word := 1
  upseq : Word := 1
  lost : Nat := 0
  tnext : Nat := 0
  tseq : Nat := 0
  tovr : Nat := 0
  deflost : Nat := 0
  dropped : Nat := 0
  torncnt : Nat := 0
  cycles : Vector (Option Cycle) 12 := Vector.replicate 12 none
  due : List LedEntry := []
  pend : List LedEntry := []
  recent : List (Nat × List Byte) := []
  deriving DecidableEq, Repr

/-- An entry of a health table (R464, R465): unit and the LIFE stamps of its transients, newest first. -/
structure HEntry where
  unit : Word := 0
  stamps : List Nat := []
  deriving DecidableEq, Repr

/-- HLTH fields of class LN (R471), the check queue, the check each pod has taken, the units whose check the host ordered and
no error joined, and the lasting segments. Of the segment check under way: LOOP frames judged, one out now, the tick of the
last, and the first failing hop. -/
structure HlthLN where
  degr : Bool := false
  why : Nat := 0
  seglast : Bool := false
  lchk : Bool := false
  lcpass : Bool := false
  passes : Nat := 0
  fails : Nat := 0
  qdrop : Nat := 0
  lasterr : Word := 0
  queue : List Word := []
  cur : List (Nat × Word) := []
  ordered : List Word := []
  tbusy : BitVec 16 := 0
  segs : List Word := []
  calm : Nat := 0
  lcSince : Bool := false
  causes : List Nat := []
  loops : Nat := 0
  loopOut : Bool := false
  loopAt : Option Nat := none
  loopHop : Option Nat := none
  deriving DecidableEq, Repr

/-- PWR fields of class LN (R490): `layFrom` is the tick in which layover was entered, `waking` is the event that
wakes the pods. -/
structure PwrLN where
  layover : Bool := false
  layrej : Bool := false
  ctlrej : Bool := false
  wakewhy : Nat := 0
  wakes : Nat := 0
  layFrom : Nat := 0
  waking : Option WakeWhy := none
  deriving DecidableEq, Repr

/-- The reports of the safety core as a lane has them (R277); `same` counts the start gates since their last change (R342). -/
structure RptLN where
  rep : Report := {}
  rptok : Bool := false
  missed : Nat := 0
  same : Nat := 0
  deriving DecidableEq, Repr

/-- An island of a lane (R33, R34): its copy of the timebase, the tick it is in, and whether it started that tick itself
because no start gate came. -/
structure Island where
  copy : Time := 0
  tick : Nat := 0
  own : Bool := false
  deriving DecidableEq, Repr

/-- Everything of a lane that a lane reset returns to its reset value (class LN). `on` says that the lane has started, `offAt`
when its own reset came; `writes` wait for the next start gate, `applied` took effect at the last one. -/
structure LaneLN where
  on : Bool := false
  offAt : Time := 0
  role : Role := .starting
  mod : ModLN := {}
  host : HostLN := {}
  rreq : Vector ResReq 4 := Vector.replicate 4 {}
  mstat : Vector MStat 16 := Vector.replicate 16 {}
  writes : List HostWrite := []
  applied : List HostWrite := []
  strm : StrmLN := {}
  sched : Sched := {}
  axes : Vector Axis 24 := Vector.replicate 24 {}
  hyps : Vector (Vector Hyp 4) 24 := Vector.replicate 24 (Vector.replicate 4 {})
  dways : Vector Dway 12 := Vector.replicate 12 {}
  slalom : Slalom := {}
  slalomWork : Option Slalom := none
  slalomAcc : Option Slalom := none
  car : CarSt := {}
  rings : Vector LaneRing 4 := Vector.replicate 4 {}
  dma : DmaLN := {}
  net : NetLN := {}
  red : RedLN := {}
  ledg : LedgLN := {}
  hlth : HlthLN := {}
  pwr : PwrLN := {}
  rpt : RptLN := {}
  ylDue : List YEntry := []
  ylLive : List (Nat × Nat) := []
  ylSeen : List (Nat × Nat) := []
  loadCmds : Option (List (Bool × Nat)) := none
  islands : Vector Island 16 := Vector.replicate 16 {}
  deriving DecidableEq, Repr

/-- Fields of a lane of class MR. `view` is the safety core's latest report as the SAFE and NET blocks show it (R294, R319). -/
structure LaneMR where
  ynew : Bool := false
  ylog : LogHead := {}
  target : Nat := 0
  noreach : Bool := false
  shfloor : Nat := 0
  ctxsel : Nat := 0
  attnmsk : BitVec 17 := 0x1FFFF
  store : Bool := false
  plugchg : Bool := false
  stored : Bool := false
  liveto : Nat := 10
  fhead : LogHead := {}
  mfnew : Bool := false
  domsel : Nat := 0
  apers : Vector Aper 4 := Vector.replicate 4 {}
  ovrnew : Bool := false
  lastnew : Bool := false
  tsel : Nat := 0
  wakeport : Nat := 0
  wakeif0 : Bool := false
  wakeif1 : Bool := false
  view : SafeView := {}
  deriving DecidableEq, Repr

/-- Fields of a lane of class ST: the running stream and every field that it sets and the host may tune. -/
structure LaneST where
  run : Option Image := none
  livecnt : Nat := 0
  slackmin : Nat := 0
  axes : Vector AxisCfg 24 := Vector.replicate 24 {}
  dways : Vector DwayCfg 12 := Vector.replicate 12 {}
  car : CarCfg := {}
  ctxrun : Vector CtxRun 256 := Vector.replicate 256 {}
  tdec : Nat := 100
  trig : Nat := 0x0FFF
  deriving DecidableEq, Repr

/-- A bank's rows (R457, R461, R466, R472), class —: the test row, the rows remapped with the row that holds their content, the
rows retired, and whether a row became lasting that found no replacement (R467). -/
structure BankSt where
  test : Nat := 512
  maps : List (Nat × Nat) := []
  gone : List Nat := []
  short : Bool := false
  deriving DecidableEq, Repr

/-- The replacement rows that are free (R457). -/
def BankSt.spares (b : BankSt) : List Nat :=
  ((List.range 10).map (513 + ·)).filter fun r => r != b.test && !(b.maps.any fun m => m.2 == r) && !b.gone.contains r

/-- SPUSED, and NOTEST: no further row of the bank can be checked (R461, R471). -/
def BankSt.spused (b : BankSt) : Nat := 10 - b.spares.length
def BankSt.notest (b : BankSt) : Bool := b.spares.isEmpty

/-- The row that holds the content of row r of the map. -/
def BankSt.rowOf (b : BankSt) (r : Nat) : Nat := ((b.maps.find? fun m => m.1 == r).map Prod.snd).getD r

/-- The row of the map whose content row r holds, if any. -/
def BankSt.holds (b : BankSt) (r : Nat) : Option Nat :=
  match b.maps.find? fun m => m.2 == r with
  | some m => some m.1
  | none => if r < 512 && b.rowOf r == r then some r else none

/-- Row r is retired (R461, R466, R472). A row of the map that failed its check gives its content to the test row, and the
next free replacement row becomes the test row; one that passed, or a replacement row, gives it to the next free replacement
row. -/
def BankSt.retire (b : BankSt) (r : Nat) (failed : Bool) : BankSt :=
  if b.gone.contains r then b
  else
    let c := { b with gone := r :: b.gone }
    match b.holds r, c.spares with
    | some q, n :: _ =>
      let ms := b.maps.filter fun m => m.1 != q
      if failed && r < 512 then { c with maps := (q, b.test) :: ms, test := n } else { c with maps := (q, n) :: ms }
    | some _, [] => { c with short := true }
    | none, n :: _ => if r == b.test then { c with test := n } else c
    | none, [] => c

/-- What a lane holds through every reset (class —): logs, mailboxes, result slots, memory, ledger and health marks,
and retirements. Memory, and the scratch of the 64 Blades at 16 KB each, are sorted lists of cells; an unlisted byte reads as 0
(log entry 4). -/
structure LaneKeep where
  ylog : Vector YEntry 128 := Vector.replicate 128 {}
  yseq : Nat := 0
  flog : Vector FRec 64 := Vector.replicate 64 {}
  fseq : Nat := 0
  hstart : BitVec 8 := 0
  slots : Vector ResSlot 4 := Vector.replicate 4 {}
  boxes : Vector Mbox 16 := Vector.replicate 16 {}
  swno : BitVec 8 := 0
  mem : List Host.Cell := []
  scratch : List Host.Cell := []
  seqhw : Word := 0
  losthw : Nat := 0
  fmtbase : Word := 0
  life : Nat := 0
  table : List HEntry := []
  retired : List (Word × Nat) := []
  tevict : Nat := 0
  banks : Vector BankSt 16 := Vector.replicate 16 {}
  lcause : Nat := 1
  lcount : Nat := 1
  fenced : Vector (BitVec 8) 8 := Vector.replicate 8 0
  red : RedKeep := {}
  deriving DecidableEq, Repr

/-- One lane, by reset class (R16). -/
structure Lane where
  ln : LaneLN := {}
  mr : LaneMR := {}
  st : LaneST := {}
  keep : LaneKeep := {}
  tbhi : Word := 0
  deriving DecidableEq, Repr

end Sys2Proof.Machine
end

