-- ==== Sys2Proof/Machine/Stream.lean ====
section
/-! DEFINITION. The Fraluys stream as data (chapter 2): an image's bytes as header and sections, the fields of every
section by the manual's byte offsets, the check value and its fold. -/

namespace Sys2Proof.Machine

/-- The bytes of a section header up to its check (R56). -/
def Section.head (s : Section) : List Byte :=
  toLE 2 s.typ ++ toLE 1 s.inst ++ toLE 1 s.sflags ++ toLE 4 s.payload.length ++ zeros 4

/-- A section as it stands in an image: header with SCRC, then payload (R56). -/
def Section.bytes (s : Section) : List Byte :=
  s.head ++ toLE 4 (crc32c (s.head ++ s.payload)).toNat ++ s.payload

/-- The image's bytes, header and sections in order (R55, R75). -/
def Image.bytes (i : Image) : List Byte := i.hdr ++ i.secs.flatMap Section.bytes

/-- IMGCRC (R75). -/
def Image.crc (i : Image) : Word := crc32c i.bytes

/-- The sections found from an offset on, at most fuel of them; the lengths are judged elsewhere. -/
def parseSecs : Nat → List Byte → List Section
  | 0, _ => []
  | fuel + 1, bs =>
    if bs.length < 16 then []
    else
      let len := le32 bs 4
      { typ := le16 bs 0, inst := byteAt bs 2, sflags := byteAt bs 3, payload := slice bs 16 len } ::
        parseSecs fuel (bs.drop (16 + len))

/-- The image that bytes hold. -/
def parseImage (bs : List Byte) : Image :=
  { hdr := bs.take 64, secs := parseSecs (le16 bs 12) ((bs.take (le32 bs 8)).drop 64) }

/-- The section of a type and instance. -/
def Image.find (i : Image) (typ inst : Nat) : Option Section :=
  i.secs.find? (fun s => s.typ == typ && s.inst == inst)

/-- The payload of a section; empty where the image has none, so that every field of it reads as 0. -/
def Image.sec (i : Image) (typ : Nat) (inst : Nat := 0) : List Byte :=
  ((i.find typ inst).map Section.payload).getD []

/-- Header fields (R55). -/
def Image.epoch (i : Image) : Nat := le16 i.hdr 4
def Image.flags (i : Image) : Nat := le16 i.hdr 14
def Image.part (i : Image) : Nat := le16 i.hdr 16
def Image.persona (i : Image) : Nat := le32 i.hdr 28

/-- The bytes that the check value covers: the SAFETY section, header and payload, then the REFEREE section (R77). The
section header is the 16 bytes of R56. -/
def Image.sealedBytes (i : Image) : List Byte :=
  let h := fun (t : Nat) => match i.find t 0 with
    | some s => s.bytes
    | none => []
  h 0x10 ++ h 0x11

/-- The check value (R78). -/
def Image.chkv (i : Image) : Word := crc32c i.sealedBytes

/-- The fold of a check value (R78). -/
def foldOf (c : Word) : BitVec 16 := (c >>> 16).setWidth 16 ^^^ c.setWidth 16

/-- IDENT BASE (R60). -/
def Image.base (i : Image) : Nat := le32 (i.sec 1) 0

/-- An axis record of AXES (R61). -/
structure AxisRec where
  axis : Nat
  ring : Nat
  slot : Nat
  role : Nat
  motor : Nat
  doorway : Nat
  side : Nat
  table : Nat
  cpmm : Nat
  poles : Nat
  keep : Nat
  deriving DecidableEq, Repr

/-- The records of AXES. -/
def Image.axisRecs (i : Image) : List AxisRec :=
  let p := i.sec 2
  (List.range (min (le32 p 0) 24)).map fun k =>
    let o := 4 + 16 * k
    { axis := byteAt p o, ring := byteAt p (o + 1), slot := byteAt p (o + 2), role := byteAt p (o + 3),
      motor := byteAt p (o + 4), doorway := byteAt p (o + 5), side := byteAt p (o + 6), table := byteAt p (o + 7),
      cpmm := le16 p (o + 8), poles := byteAt p (o + 10), keep := byteAt p (o + 11) }

/-- The bytes of the AXES record of axis n, for the comparison of R149. -/
def Image.axisBytes (i : Image) (n : Nat) : List Byte :=
  let p := i.sec 2
  (((List.range (min (le32 p 0) 24)).map (fun k => slice p (4 + 16 * k) 16)).find? (fun r => byteAt r 0 == n)).getD []

/-- The record of axis n. -/
def Image.axisRec (i : Image) (n : Nat) : Option AxisRec := i.axisRecs.find? (fun r => r.axis == n)

/-- PODS (R107). -/
def Image.fence (i : Image) (p : Nat) : Nat := byteAt (i.sec 3) p
def Image.slackmin (i : Image) : Nat := le16 (i.sec 3) 8

/-- A context record of CTXT (R105). -/
structure CtxRec where
  ctx : Nat
  typ : Nat
  home : Nat
  flags : Nat
  index : Nat
  hyp : Nat
  dom : Nat
  kernel : Nat
  ptab : Nat
  ptlen : Nat
  bsize : Nat
  budget : Nat
  deriving DecidableEq, Repr

/-- The context records of CTXT. -/
def Image.ctxs (i : Image) : List CtxRec :=
  let p := i.sec 4
  (List.range (min (le32 p 0) 256)).map fun k =>
    let o := 4 + 24 * k
    { ctx := byteAt p o, typ := byteAt p (o + 1), home := byteAt p (o + 2), flags := byteAt p (o + 3),
      index := byteAt p (o + 4), hyp := byteAt p (o + 5), dom := byteAt p (o + 6), kernel := le16 p (o + 8),
      ptab := le16 p (o + 10), ptlen := le16 p (o + 12), bsize := le16 p (o + 14), budget := le32 p (o + 16) }

/-- The record of context c. -/
def Image.ctx (i : Image) (c : Nat) : Option CtxRec := i.ctxs.find? (fun r => r.ctx == c)

/-- The context ID of a type, index and hypothesis; 0 when there is none. -/
def Image.ctxId (i : Image) (typ index : Nat) (hyp : Nat := 0) : Nat :=
  ((i.ctxs.find? (fun r => r.typ == typ && r.index == index && r.hyp == hyp)).map CtxRec.ctx).getD 0

/-- The class of a context type (R103): B for AXBASE, DOOR, SLALOM and HOSTCMD; C for RING, LOADCMD and EPOCH; G for
NETIO; S for SCHUSS; L for LEDGER; P for PATROL and SHADOW. -/
def clsOf (typ : Nat) : Cls :=
  if typ = 2 then .s
  else if typ = 6 ∨ typ = 7 ∨ typ = 8 then .c
  else if typ = 9 then .g
  else if typ = 10 then .l
  else if typ = 11 ∨ typ = 12 then .p
  else .b

/-- The code of a class in SCHD_CTXINFO (R126). -/
def Cls.code : Cls → Nat
  | .b => 0
  | .c => 1
  | .g => 2
  | .s => 3
  | .l => 4
  | .p => 5

/-- A domain record of MMU (R354). -/
structure DomRec where
  npages : Nat
  ptoff : Nat
  reach : Nat
  host : Bool
  hostwr : Bool
  pods : Nat
  deriving DecidableEq, Repr

/-- Domain d of MMU (R353, R354). -/
def Image.dom (i : Image) (d : Nat) : DomRec :=
  let p := i.sec 5
  let o := 16 + 16 * d
  { npages := le16 p o, ptoff := le16 p (o + 2), reach := le32 p (o + 4), host := bitOf (byteAt p (o + 8)) 0,
    hostwr := bitOf (byteAt p (o + 8)) 1, pods := byteAt p (o + 10) }

/-- Page entries: their number and entry k (R351, R353). -/
def Image.nent (i : Image) : Nat := le16 (i.sec 5) 0
def Image.entry (i : Image) (k : Nat) : Nat := le32 (i.sec 5) (592 + 4 * k)

/-- Channel record c: owner, context, priority, domain (R355). -/
def Image.chOwner (i : Image) (c : Nat) : Nat := byteAt (i.sec 5) (528 + 8 * c)
def Image.chCtx (i : Image) (c : Nat) : Nat := byteAt (i.sec 5) (529 + 8 * c)
def Image.chPrio (i : Image) (c : Nat) : Nat := byteAt (i.sec 5) (530 + 8 * c)
def Image.chDom (i : Image) (c : Nat) : Nat := byteAt (i.sec 5) (531 + 8 * c)

/-- MBOX record m: sender kinds and tunnel interfaces (R405). -/
def Image.kinds (i : Image) (m : Nat) : Nat := byteAt (i.sec 6) (8 * m + 1)
def Image.netif (i : Image) (m : Nat) : Nat := byteAt (i.sec 6) (8 * m + 2)

/-- LANDS record m: function, unit (R494). -/
def Image.landFunc (i : Image) (m : Nat) : Nat := byteAt (i.sec 7) (4 * m + 1)
def Image.landUnit (i : Image) (m : Nat) : Nat := byteAt (i.sec 7) (4 * m + 2)

/-- LOADG: enabled channels and the record of channel k (R432). -/
def Image.chen (i : Image) : Nat := le32 (i.sec 8) 0
def Image.loadByte (i : Image) (k b : Nat) : Nat := byteAt (i.sec 8) (16 + 8 * k + b)

/-- The bytes of the LOADG record of channel k with its chime record, for the comparison of R430. -/
def Image.loadRec (i : Image) (k : Nat) : List Byte :=
  slice (i.sec 8) (16 + 8 * k) 8 ++ (if 28 ≤ k then slice (i.sec 8) (272 + 16 * (k - 28)) 16 else []) ++
    [BitVec.ofNat 8 (b2n (bitOf i.chen k))]

/-- GLIDE (R258): enabled rings, number of bricks of a ring, brick records and tables. -/
def Image.ringen (i : Image) (r : Nat) : Bool := bitOf (byteAt (i.sec 9) 0) r
def Image.nb (i : Image) (r : Nat) : Nat := byteAt (i.sec 9) (16 + 4 * r)
def Image.brickOff (r s : Nat) : Nat := 32 + 16 * (r * 6 + s)
def Image.brickUsed (i : Image) (r s : Nat) : Bool := byteAt (i.sec 9) (Image.brickOff r s) != 0
def Image.brickSafe (i : Image) (r s : Nat) : Nat := byteAt (i.sec 9) (Image.brickOff r s + 1)
def Image.brickForm (i : Image) (r s : Nat) : Nat := byteAt (i.sec 9) (Image.brickOff r s + 2)
def Image.brickVendor (i : Image) (r s : Nat) : Nat := le16 (i.sec 9) (Image.brickOff r s + 4)
def Image.brickModel (i : Image) (r s : Nat) : Nat := le16 (i.sec 9) (Image.brickOff r s + 6)
def Image.brickIfsMin (i : Image) (r s : Nat) : Nat := le16 (i.sec 9) (Image.brickOff r s + 8)
def Image.tabPresent (i : Image) (t : Nat) : Bool := byteAt (i.sec 9) (416 + 8 * t) != 0
def Image.tabForm (i : Image) (t : Nat) : Nat := byteAt (i.sec 9) (417 + 8 * t)
def Image.tabCrc (i : Image) (t : Nat) : Nat := le32 (i.sec 9) (420 + 8 * t)

/-- Where table t's bytes begin: 8192 bytes for each present table, in index order (R258). -/
def Image.tabOff (i : Image) (t : Nat) : Nat := 480 + 8192 * (idxs t i.tabPresent).length

/-- The bytes of table t. -/
def Image.table (i : Image) (t : Nat) : List Byte := slice (i.sec 9) (i.tabOff t) 8192

/-- Entry a of table t (R244). -/
def Image.tabEntry (i : Image) (t a : Nat) : Int := sgn 16 (le16 (i.sec 9) (i.tabOff t + 2 * (a % 4096)))

/-- The axis that a ring position carries. -/
def Image.axisAt (i : Image) (r s : Nat) : Option AxisRec := i.axisRecs.find? (fun a => a.ring == r && a.slot == s)

/-- DWAY records (R228, R229): their number, and the offset of the record of doorway d. -/
def Image.dwayCount (i : Image) : Nat := min (le32 (i.sec 10) 0) 12
def Image.dwayOff (i : Image) (d : Nat) : Option Nat :=
  ((List.range i.dwayCount).map (fun k => 16 + 48 * k)).find? (fun o => byteAt (i.sec 10) o == d)

/-- The defined doorways, ascending. -/
def Image.doorways (i : Image) : List Nat := idxs 12 (fun d => (i.dwayOff d).isSome)

/-- NET (R315). -/
def Image.ifen (i : Image) : Nat := byteAt (i.sec 13) 0
def Image.ethOff (e : Nat) : Nat := 8 + 32 * e
def Image.mac (i : Image) (e : Nat) : List Byte := slice (i.sec 13) (Image.ethOff e) 6
def Image.prefixLen (i : Image) (e : Nat) : Nat := byteAt (i.sec 13) (Image.ethOff e + 7)
def Image.ipaddr (i : Image) (e : Nat) : Nat := le32 (i.sec 13) (Image.ethOff e + 8)
def Image.gw (i : Image) (e : Nat) : Nat := le32 (i.sec 13) (Image.ethOff e + 12)
def Image.vid (i : Image) (e : Nat) : Nat := le16 (i.sec 13) (Image.ethOff e + 16)
def Image.pcp (i : Image) (e : Nat) : Nat := byteAt (i.sec 13) (Image.ethOff e + 18)
def Image.ttl (i : Image) (e : Nat) : Nat := byteAt (i.sec 13) (Image.ethOff e + 19)
def Image.ethSpeed (i : Image) (e : Nat) : Nat := byteAt (i.sec 13) (Image.ethOff e + 6)
def Image.ptpMode (i : Image) : Nat := byteAt (i.sec 13) 104
def Image.ptpDomain (i : Image) : Nat := byteAt (i.sec 13) 105
def Image.ptpIfs (i : Image) : Nat := byteAt (i.sec 13) 106
def Image.sarpIp (i : Image) (j : Nat) : Nat := le32 (i.sec 13) (136 + 16 * j)
def Image.sarpMac (i : Image) (j : Nat) : List Byte := slice (i.sec 13) (140 + 16 * j) 6
def Image.sarpIf (i : Image) (j : Nat) : Nat := byteAt (i.sec 13) (146 + 16 * j)
def Image.trOff (k : Nat) : Nat := 392 + 16 * k
def Image.trPath (i : Image) (k : Nat) : Nat := byteAt (i.sec 13) (Image.trOff k)
def Image.trPcp (i : Image) (k : Nat) : Nat := byteAt (i.sec 13) (Image.trOff k + 1)
def Image.trPort (i : Image) (k : Nat) : Nat := le16 (i.sec 13) (Image.trOff k + 2)
def Image.trIp (i : Image) (k : Nat) : Nat := le32 (i.sec 13) (Image.trOff k + 4)
def Image.trCan (i : Image) (k : Nat) : Nat := le32 (i.sec 13) (Image.trOff k + 8)
def Image.tunEn (i : Image) : Bool := byteAt (i.sec 13) 1416 != 0
def Image.tunIfs (i : Image) : Nat := byteAt (i.sec 13) 1417
def Image.tunPort (i : Image) : Nat := le16 (i.sec 13) 1418
def Image.tunSrc (i : Image) (k : Nat) : Nat := le32 (i.sec 13) (1420 + 4 * k)

/-- LEDG (R453). -/
def Image.ledFormat (i : Image) : Nat := byteAt (i.sec 14) 0
def Image.ledTdec (i : Image) : Nat := byteAt (i.sec 14) 1
def Image.ledTrig (i : Image) : Nat := le16 (i.sec 14) 2
def Image.colIp (i : Image) : Nat := le32 (i.sec 14) 4
def Image.colPort (i : Image) : Nat := le16 (i.sec 14) 8
def Image.colIf (i : Image) : Nat := byteAt (i.sec 14) 10
def Image.autoSend (i : Image) : Bool := byteAt (i.sec 14) 11 != 0

/-- A function record of SAFETY (R289). -/
structure FnRec where
  typ : Nat
  ch1 : Nat
  ch2 : Nat
  tp1 : Nat
  tp2 : Nat
  rstmode : Nat
  target : Nat
  dmask : Nat
  disc : Nat
  synct : Nat
  rstmask : Nat
  deriving DecidableEq, Repr

/-- Function record f of a SAFETY payload (R288, R289). -/
def fnRec (p : List Byte) (f : Nat) : FnRec :=
  let o := 16 + 16 * f
  { typ := byteAt p (o + 1), ch1 := byteAt p (o + 2), ch2 := byteAt p (o + 3), tp1 := byteAt p (o + 4),
    tp2 := byteAt p (o + 5), rstmode := byteAt p (o + 6), target := byteAt p (o + 7), dmask := le16 p (o + 8),
    disc := le16 p (o + 10), synct := le16 p (o + 12), rstmask := le16 p (o + 14) }

/-- Function record f of a REFEREE payload (R291), in the same shape. -/
def refFnRec (p : List Byte) (f : Nat) : FnRec :=
  let o := 8 + 8 * f
  { typ := byteAt p o, ch1 := byteAt p (o + 1), ch2 := byteAt p (o + 2), tp1 := byteAt p (o + 3),
    tp2 := byteAt p (o + 4), rstmode := byteAt p (o + 5), target := 0, dmask := 0, disc := le16 p (o + 6), synct := 0,
    rstmask := 0 }

/-- An output record of SAFETY (R290). -/
structure OutRec where
  role : Nat
  edmin : Nat
  edmt : Nat
  fmask : Nat
  cmask : Nat
  deriving DecidableEq, Repr

/-- Output record o of a SAFETY payload (R288, R290). -/
def outRec (p : List Byte) (o : Nat) : OutRec :=
  let b := 272 + 16 * o
  { role := byteAt p (b + 1), edmin := byteAt p (b + 2), edmt := byteAt p (b + 3), fmask := le16 p (b + 4),
    cmask := le64 p (b + 8) }

/-- FMASK of output o in a REFEREE payload (R291). -/
def refOutMask (p : List Byte) (o : Nat) : Nat := le16 p (136 + 8 * o + 2)
def refOutRole (p : List Byte) (o : Nat) : Nat := byteAt p (136 + 8 * o + 1)

/-- TOP and NCONN of a SAFETY payload (R288). -/
def safeTop (p : List Byte) : Nat := le16 p 4
def safeNconn (p : List Byte) : Nat := min (le32 p 8) 64

/-- A connection record of SAFETY (R314). -/
structure ConnRec where
  produce : Bool
  cnum : Nat
  plen : Nat
  src : Nat
  period : Nat
  wdto : Nat
  agemax : Nat
  seqwin : Nat
  reint : Nat
  manual : Bool
  permf : Nat
  deriving DecidableEq, Repr

/-- Connection record k of a SAFETY payload (R314). -/
def connRec (p : List Byte) (k : Nat) : ConnRec :=
  let o := 368 + 32 * k
  { produce := byteAt p (o + 1) == 1, cnum := byteAt p (o + 2), plen := byteAt p (o + 3), src := le32 p (o + 4),
    period := le16 p (o + 8), wdto := le16 p (o + 10), agemax := le16 p (o + 12), seqwin := byteAt p (o + 14),
    reint := byteAt p (o + 15) % 16, manual := bitOf (byteAt p (o + 15)) 4, permf := byteAt p (o + 16) }

/-- CID of a connection: SRC XOR (CNUM × 20h) (R303). -/
def ConnRec.cid (c : ConnRec) : Word := BitVec.ofNat 32 c.src ^^^ BitVec.ofNat 32 (c.cnum * 0x20)

/-- Step 1 of merging a live image (R87): each section it carries replaces the running one of its TYPE and INST, or
joins in order. -/
def insertSec (s : Section) : List Section → List Section
  | [] => [s]
  | t :: ts =>
    if t.typ == s.typ && t.inst == s.inst then s :: ts
    else if s.typ < t.typ ∨ (s.typ = t.typ ∧ s.inst < t.inst) then s :: t :: ts
    else t :: insertSec s ts

/-- A header for these sections: the running one with EPOCH the higher of the two, PARTIAL 0, and TOTLEN, NSECT and HCRC
formed anew (log entry 17). -/
def mergedHdr (run live : Image) (secs : List Section) : List Byte :=
  let tot := 64 + (secs.map (fun s => 16 + s.payload.length)).sum
  let h := slice run.hdr 0 4 ++ toLE 2 (max run.epoch live.epoch) ++ slice run.hdr 6 2 ++ toLE 4 tot ++
    toLE 2 secs.length ++ slice run.hdr 14 46
  h ++ toLE 4 (crc32c h).toNat

/-- The merged full image (R87, R92). -/
def Image.merge (run live : Image) : Image :=
  let secs := live.secs.foldl (fun acc s => insertSec s acc) run.secs
  { hdr := mergedHdr run live secs, secs := secs }

end Sys2Proof.Machine
end

