-- ==== Sys2Proof/Machine/Memory.lean ====
section
/-! DEFINITION. A lane's memory (chapter 12): bytes by physical address in one canonical form, the regions of the
physical map, and translation through the MMU. -/

namespace Sys2Proof.Machine

/-- A lane's memory: cells by strictly rising address, none holding the byte an unlisted address reads as. -/
abbrev Memory := List Host.Cell

/-- What an unlisted byte reads as (log entry 4). -/
def Memory.blank : Byte := 0

/-- The canonical form. -/
def Memory.wf : Memory → Bool
  | [] => true
  | (_, v) :: [] => v != Memory.blank
  | (a, v) :: (b, w) :: rest => v != Memory.blank && decide (a < b) && Memory.wf ((b, w) :: rest)

/-- The byte at an address. -/
def Memory.get : Memory → Nat → Byte
  | [], _ => Memory.blank
  | (a, v) :: rest, x => if a = x then v else Memory.get rest x

/-- Write one byte, keeping the canonical form: a blank byte is removed, never listed. -/
def Memory.put : Memory → Nat → Byte → Memory
  | [], x, v => if v = Memory.blank then [] else [(x, v)]
  | (a, w) :: rest, x, v =>
    if x < a then (if v = Memory.blank then (a, w) :: rest else (x, v) :: (a, w) :: rest)
    else if x = a then (if v = Memory.blank then rest else (x, v) :: rest)
    else (a, w) :: Memory.put rest x v

/-- Write bytes at consecutive addresses. -/
def Memory.write (m : Memory) (x : Nat) : List Byte → Memory
  | [] => m
  | v :: vs => Memory.write (m.put x v) (x + 1) vs

/-- The n bytes from an address on. -/
def Memory.read (m : Memory) (x n : Nat) : List Byte := (List.range n).map (fun k => m.get (x + k))

/-- Bases of the regions of R347 that the model names. -/
def stagingBase : Nat := 0x00100000
def mramBase : Nat := 0x01000000
def traceBase : Nat := 0x01C00000
def romBase : Nat := 0x02000000
def kparmBase : Nat := 0x02040000

/-- The address lies in the kernel ROM (R347). -/
def isRom (a : Nat) : Bool := romBase ≤ a && a < kparmBase

/-- The address lies in SRAM, where ECC is judged (R347, R348). -/
def isSram (a : Nat) : Bool := a < 0x00800000

/-- A physical byte: the kernel ROM's content is the free value Config.kernelRom (log entry 5). -/
def physByte (m : Memory) (a : Nat) : Byte := if isRom a then Config.kernelRom (a - romBase) else m.get a

/-- Who asks for a translation (R352). -/
inductive Requester
  | context (dom : Nat)
  | steward
  | host
  deriving DecidableEq, Repr

/-- R352: may the requester read, or write, domain d? -/
def mayName (i : Image) (r : Requester) (d : Nat) (wr : Bool) : Bool :=
  match r with
  | .steward => true
  | .context own => own == d || bitOf (i.dom own).reach d
  | .host => if wr then (i.dom d).hostwr else (i.dom d).host

/-- R350: the physical address of VA in domain d, or the fault code 1, 2 or 4. -/
def translate (i : Image) (d va : Nat) (wr : Bool) : Except Nat Nat :=
  let p := va % 2 ^ 24 / 4096
  let dr := i.dom d
  if dr.npages ≤ p then .error 4
  else
    let e := i.entry (dr.ptoff + p)
    if !bitOf e 20 then .error 1
    else if (if wr then !bitOf e 22 else !bitOf e 21) then .error 2
    else .ok (fld e 0 20 * 4096 + va % 4096)

end Sys2Proof.Machine
end

