-- ==== Sys2Proof/Machine/PowerDie.lean ====
section
/-! DEFINITION. The power die and its 32 load channels (chapter 14): class MR, with the LOADG settings of class ST.
Every default is the field's reset value. -/

namespace Sys2Proof.Machine

/-- Settings of one channel (R432, R435), class ST. -/
structure LoadCfg where
  enabled : Bool := false
  gang : Nat := 0
  leader : Nat := 0
  ilatch : Nat := 0
  retry : Nat := 0
  rtint : Nat := 0
  pwmf : Nat := 0
  mode : Nat := 0
  olen : Bool := false
  offdg : Bool := false
  doors : List Nat := []
  deriving DecidableEq, Repr

/-- A chime record (R432). -/
structure ChimeRec where
  f1 : Nat := 0
  f2 : Nat := 0
  f3 : Nat := 0
  d1 : Nat := 0
  d2 : Nat := 0
  d3 : Nat := 0
  pause : Nat := 0
  cduty : Nat := 0
  deriving DecidableEq, Repr

/-- Why a gang that is commanded on is not conducting (R425 to R428). -/
inductive Hold | none | latchOff | thermal
  deriving DecidableEq, Repr

/-- One load channel (R412 to R431). `cmdOn` and `cmdDuty` are the command last accepted by the power die, `onNow`
that the gang conducts (or switches), `left` the remaining retry interval in ticks while one runs or is held, `quiet` the ticks
since the last latch-off event, `limAge` the ticks since LIMIT was last set, `isum` the gang's current, `toneAge` the ticks of
the present tone or pause, `offAge` those since the gang was last on. -/
structure LoadCh where
  on : Bool := false
  duty : Nat := 0
  cmdOn : Bool := false
  cmdDuty : Nat := 0
  dutyUse : Nat := 0
  pwmfUse : Nat := 0
  onNow : Bool := false
  hold : Hold := .none
  latched : Bool := false
  left : Option Nat := none
  limit : Bool := false
  limAge : Option Nat := none
  oc : Bool := false
  tsd : Bool := false
  olon : Bool := false
  oloff : Bool := false
  shortb : Bool := false
  ownerr : Bool := false
  tlatch : Bool := false
  retleft : Nat := 0
  events : Nat := 0
  isense : Nat := 0
  isum : Nat := 0
  tj : Nat := 0
  tone : Nat := 0
  toneAge : Nat := 0
  offAge : Nat := 0
  quiet : Nat := 0
  clamped : Bool := false
  deriving DecidableEq, Repr

/-- A supply group (R412, R418, R435). -/
structure LoadGrp where
  vload : Nat := 0
  guv : Bool := false
  up : Bool := false
  goc : Bool := false
  gsum : Nat := 0
  deriving DecidableEq, Repr

/-- The power die. `out` says that the channels were turned off for want of a command (R28). -/
structure PowerDie where
  nocmd : Bool := false
  out : Bool := false
  cmdage : Nat := 0
  chs : Vector LoadCh 32 := Vector.replicate 32 {}
  cfg : Vector LoadCfg 32 := Vector.replicate 32 {}
  chimes : Vector ChimeRec 4 := Vector.replicate 4 {}
  grps : Vector LoadGrp 4 := Vector.replicate 4 {}
  deriving DecidableEq, Repr

end Sys2Proof.Machine
end

