-- ==== Sys2Proof/Machine/State.lean ====
section
/-! DEFINITION. The state of the SK2460 as a block, its reset state, and the reasons a command could stop. -/

namespace Sys2Proof.Machine

/-- No command of this block ends in a fault: the manual leaves no result open (R6), so this set is empty. -/
inductive Fault
  deriving DecidableEq, Repr

/-- Why a command has no meaning. Safe: nothing can be proved of a refused command's effect. -/
inductive Refusal
  /-- Raised by exec for a row of the table that the model does not cover; safe. -/
  | notModelled (mnemonic : String)
  deriving DecidableEq, Repr

/-- What a lane reports to the referee at 22 µs (R329). -/
structure LaneReport where
  here : Bool := false
  tick : Nat := 0
  built : BitVec 4 := 0
  fcrc : Word := 0
  role : Role := .starting
  degr : Bool := false
  quiet : Bool := false
  img : BitVec 16 := 0
  deriving DecidableEq, Repr

/-- The referee's redundancy registers (R345) and what it remembers of the lanes: class MR. `token` says that some lane
holds the token, `busyFrom` the tick in which HBUSY rose for a cold takeover, `frameBad` that the active frame of this tick
is invalid, `divFrom` when a divergence test began, `divSwitch` that its outcome is a hot switch-over, `revAt` when REVPEND
was set, `clean` the clean sealed epochs of lane A, `lost` the lanes whose heartbeat is lost, `hba` and `hbb` when each last
came, `gapDue` that the gap of the last move of the token is not settled yet, `skipFrame` that the lane which loses the
token builds no more frame and the next one repeats (R343). -/
structure Referee where
  token : Bool := false
  owner : LaneId := .a
  rolea : Role := .starting
  roleb : Role := .starting
  parked : Bool := false
  revpend : Bool := false
  divtest : Bool := false
  cold : Bool := false
  switched : Bool := false
  dcode : Nat := 0
  dtick : Nat := 0
  lastgap : Nat := 0
  switches : Nat := 0
  colds : Nat := 0
  divtests : Nat := 0
  clean : Nat := 0
  lapass : Bool := false
  revAt : Time := 0
  swreq : Bool := false
  mism : Nat := 0
  repa : LaneReport := {}
  repb : LaneReport := {}
  lost : BitVec 2 := 0
  hba : Option Time := none
  hbb : Option Time := none
  gapDue : Bool := false
  skipFrame : Bool := false
  busyFrom : Nat := 0
  frameBad : Bool := false
  divFrom : Time := 0
  divA : Option Bool := none
  divB : Option Bool := none
  divSwitch : Bool := false
  deriving DecidableEq, Repr

/-- Power, clock and reset fields of the module of class MR (R490). `pressed` holds a recognised press of RQRSTB. -/
structure PwrMR where
  xloss : Bool := false
  xevt : Bool := false
  slewing : Bool := false
  rqpend : Bool := false
  rqsince : Time := 0
  rqdeny : Bool := false
  rqstuck : Bool := false
  rqfailc : Bool := false
  deriving DecidableEq, Repr

/-- A slot of the configuration store (R66). -/
structure StoreSlot where
  bytes : List Byte := []
  crc : Word := 0
  seq : Nat := 0
  valid : Bool := false
  deriving DecidableEq, Repr

/-- The seal record (R85). -/
structure SealRec where
  chkv : Word := 0
  fold : BitVec 16 := 0
  epoch : Nat := 0
  imgcrc : Word := 0
  time : Time := 0
  count : Nat := 0
  crc : Word := 0
  wdrawn : Bool := false
  deriving DecidableEq, Repr

/-- What the module holds through every reset (class —): the configuration store with the seal record, the safety core's
input table, lasting inputs and start number, and the reset causes. -/
structure ModKeep where
  slot0 : StoreSlot := {}
  slot1 : StoreSlot := {}
  sealRec : SealRec := {}
  plug : BitVec 16 := 0
  inputs : List HEntry := []
  inLast : BitVec 32 := 0
  scno : BitVec 8 := 1
  mcause : Nat := 1
  mcount : Nat := 1
  deriving DecidableEq, Repr

/-- Clocks, lands and lines of class PO and the levels at the lands: the timebase, the last start gate, TBLOCK, the supply
readings, the supplies that are low, whether a reset is held and whether it is a power-on reset, GLID_MUX's REPTOT, the MX
outputs and when PPS rose, the PHY resets that are driven, the levels of the seal lands, whether the last three samples of
them agree (R79), when the last reset of R478 was released, and when the last reset of any kind was (R385). -/
structure Lines where
  now : Time := 0
  gate : Time := 0
  tblock : Bool := false
  vmain : Nat := 0
  vio : Nat := 0
  vsafe : Nat := 0
  vsout : Nat := 0
  low : List Rail := []
  inReset : Bool := true
  po : Bool := true
  reptot : Nat := 0
  mx : Vector Bool 8 := Vector.replicate 8 false
  phyRst : Vector Bool 2 := Vector.replicate 2 true
  ppsFrom : Time := 0
  plugLevel : BitVec 16 := 0
  plugGood : Bool := true
  freeAt : Time := 0
  busyAt : Time := 0
  deriving DecidableEq, Repr

/-- The causes that hold HBUSY high (R385), and the last transaction's answer on HMISO (none: high impedance). -/
structure HostPort where
  busyWrite : Bool := false
  busyReset : Bool := true
  busyLoad : Bool := false
  busySwitch : Bool := false
  busyCold : Bool := false
  busyQuiet : Bool := false
  hmiso : Option (List Byte) := none
  deriving DecidableEq, Repr

/-- The whole block, and the commands that wait, first in first out. -/
structure State where
  part : Part := .sk2460
  lines : Lines := {}
  port : HostPort := {}
  laneA : Lane := {}
  laneB : Lane := {}
  ref : Referee := {}
  sc : SafetyCore := {}
  pwr : PwrMR := {}
  pd : PowerDie := {}
  rings : Vector RingHw 4 := Vector.replicate 4 {}
  keep : ModKeep := {}
  pending : List Instr := []
  deriving DecidableEq, Repr

/-- The module at the instant a power-on reset has taken effect (R16, R478, R482): every field of classes PO, MR, LN and
ST at its reset value, every field of class — as shipped (log entry 8), no token assigned and HBUSY high. -/
def State.reset : State := {}

end Sys2Proof.Machine
end

