-- ==== Sys2Proof/Machine/Blades.lean ====
section
/-! DEFINITION. Task queues, Blades with their scratch, context blocks in memory, stealing and pre-emption of one lane
(chapter 3). -/

namespace Sys2Proof.Machine

/-- The running image of a lane; the empty one where no stream runs. -/
def Lane.img (x : Lane) : Image := x.st.run.getD {}

/-- A stream is loaded and running on the lane (STRLOAD). -/
def Lane.running (x : Lane) : Bool := x.st.run.isSome

/-! ### Context blocks and scratch (R96, R98, R101, R113, R116) -/

/-- Bytes left in a span of n bytes: a location for which nothing is written keeps its content. -/
def Memory.overlay (m : Memory) (base n : Nat) (f : Nat → Option Byte) : Memory :=
  (List.range n).foldl (fun m i => match f i with
    | some v => m.put (base + i) v
    | none => m) m

/-- Where the block of a context lies: in the 64 KB store of its home pod, in ascending order of context IDs (R101, R347). -/
def Image.blockBase (i : Image) (r : CtxRec) : Nat :=
  0x10000 * r.home + 0x800 * ((i.ctxs.filter fun k => k.home == r.home && decide (k.ctx < r.ctx)).length % 32)

/-- A context's block is written back in tick t (R113, R116). -/
def Lane.storeBlock (x : Lane) (l : LaneId) (t ctx : Nat) : Lane :=
  match x.img.ctx ctx with
  | some r =>
    let m := Memory.overlay x.keep.mem (x.img.blockBase r) (min 0x800 r.bsize) (Config.blockByte l ctx t)
    let wrote := x.ln.sched.wrote
    { x with
      keep := { x.keep with mem := m }
      ln := { x.ln with sched := { x.ln.sched with wrote := if wrote.contains ctx then wrote else wrote ++ [ctx] } } }
  | none => x

/-- A task that runs on Blade b of pod p leaves what it writes in the 16 KB of scratch there; the rest is as the task before it
left it (R98). -/
def Lane.useScratch (x : Lane) (l : LaneId) (t ctx p b : Nat) : Lane :=
  let m := Memory.overlay x.keep.scratch (0x4000 * (8 * p + b)) 0x4000 (Config.scratchByte l (8 * p + b) ctx t)
  { x with keep := { x.keep with scratch := m } }

/-! ### Queues (R103, R108, R109, R114) -/

/-- The classes, highest first. -/
def clsOrder : List Cls := [.b, .c, .g, .s, .l, .p]

/-- The queue of class c in pod p, head first. -/
def Sched.queue (q : Sched) (p : Nat) (cl : Cls) : List Task :=
  q.tasks.filter fun t => t.home == p && t.cls == cl && t.pos == .waiting

/-- The Blade that a task whose result has arrived ran on. -/
def Task.arrived? (t : Task) : Option (Nat × Nat) :=
  match t.pos with
  | .arrived p b => some (p, b)
  | _ => none

/-- A task of the context waits or runs. -/
def Sched.pending (q : Sched) (ctx : Nat) : Bool := q.tasks.any fun t => t.ctx == ctx && t.arrived?.isNone

/-- Blade b of pod p is fenced (R107, R114). -/
def Lane.fencedBlade (x : Lane) (p b : Nat) : Bool :=
  bitOf (x.img.fence p) b || (vget x.keep.fenced 0 p).getLsbD b

/-- The pod has no Blade that takes tasks, or its island is power-gated. -/
def Lane.podDown (x : Lane) (p : Nat) : Bool :=
  x.ln.sched.gated.getLsbD p || (List.range 8).all fun b => x.fencedBlade p b

/-- A context that runs only in its home pod has no Blade there (R114). -/
def Lane.stranded (x : Lane) (r : CtxRec) : Bool := bitOf r.flags 1 && x.podDown r.home

/-- A task changed in place. -/
def modTask (ts : List Task) (t : Task) (f : Task → Task) : List Task := ts.map fun u => if u == t then f u else u

/-- Into the queue of its class in its home pod, at the place its context ID gives it (R112). -/
def insertTask (t : Task) : List Task → List Task
  | [] => [t]
  | u :: us =>
    if u.home == t.home && u.cls == t.cls && u.pos == .waiting && decide (t.ctx < u.ctx) then t :: u :: us
    else u :: insertTask t us

/-- A task that ran on a Blade that is fenced goes back to the head of its class in its home queue (R114). -/
def abandonBlade (ts : List Task) (p b : Nat) : List Task :=
  let hit := ts.filter (fun t => t.pos == .running p b)
  let rest := ts.filter (fun t => t.pos != .running p b)
  hit.map (fun t => { t with pos := .waiting, stolen := false, started := none }) ++ rest

/-! ### Blades (R107, R109) -/

/-- The Blade runs a task. -/
def Sched.busy (q : Sched) (p b : Nat) : Bool := q.tasks.any fun t => t.pos == .running p b

/-- The Blade may take tasks: neither fenced, gated nor in quarantine. -/
def Lane.bladeUp (x : Lane) (p b : Nat) : Bool :=
  !x.fencedBlade p b && !x.ln.sched.gated.getLsbD p && x.ln.sched.quar != some (8 * p + b)

/-- A class-P task is all that a Blade in quarantine takes: the PATROL task of its pod (R462). -/
def Lane.quarTask (x : Lane) (p b : Nat) : Option Task :=
  if x.ln.sched.quar == some (8 * p + b) && !x.ln.sched.gated.getLsbD p then
    x.ln.sched.tasks.find? fun t => t.home == p && t.pos == .waiting && (x.img.ctx t.ctx).any fun r => r.typ == 11
  else none

/-- The head task of the highest class waiting in the Blade's own pod (R109). -/
def Sched.ownTask (q : Sched) (p : Nat) : Option Task := clsOrder.findSome? fun cl => (q.queue p cl).head?

/-- The tail task of a class in another pod that this Blade may steal (R109, R112). -/
def Lane.tailOf (x : Lane) (p b r : Nat) (cl : Cls) : Option Task :=
  match (x.ln.sched.queue r cl).getLast? with
  | some t =>
    if ((x.img.ctx t.ctx).any fun k => bitOf k.flags 0) && !t.noThief.contains (p, b) then some t else none
  | none => none

/-- The task of a class that the Blade steals (R109): from the pod with the most tasks of it, the lowest pod on equal counts. -/
def Lane.stealOf (x : Lane) (p b : Nat) (cl : Cls) : Option Task :=
  let pods := idxs 8 fun r => r != p && (x.tailOf p b r cl).isSome
  let n := fun r => (x.ln.sched.queue r cl).length
  match pods.find? fun r => pods.all fun k => n k ≤ n r with
  | some r => x.tailOf p b r cl
  | none => none

/-- The task that the Blade steals: of the highest class that it can. -/
def Lane.stealTask (x : Lane) (p b : Nat) : Option Task := clsOrder.findSome? fun cl => x.stealOf p b cl

/-- A Blade takes a task in tick t. -/
def Lane.take (x : Lane) (l : LaneId) (t : Nat) (k : Task) (p b : Nat) (stolen : Bool) : Lane :=
  let q := x.ln.sched
  let ts := modTask q.tasks k fun u => { u with pos := .running p b, stolen := stolen, started := some (u.started.getD t) }
  let x := { x with ln := { x.ln with sched := { q with
    tasks := ts, steals := if stolen then satInc 0x3FF q.steals else q.steals } } }
  x.useScratch l t k.ctx p b

/-! ### Pre-emption (R103, R115, R116) -/

/-- No Blade of the lane that takes tasks is free. -/
def Lane.noneFree (x : Lane) : Bool :=
  (List.range 64).all fun k => !x.bladeUp (k / 8) (k % 8) || x.ln.sched.busy (k / 8) (k % 8)

/-- A task of class c waits that some Blade could run. -/
def Sched.waits (q : Sched) (cl : Cls) : Bool := q.tasks.any fun t => t.cls == cl && t.pos == .waiting

/-- The waiting task of class c that a Blade would take, and whether it steals it. -/
def Lane.wouldTake (x : Lane) (p b : Nat) (cl : Cls) : Option (Task × Bool) :=
  match (x.ln.sched.queue p cl).head? with
  | some t => some (t, false)
  | none => (x.stealOf p b cl).map fun t => (t, true)

/-- The task that pre-emption for class c stops (R115): of the lowest class below it, on the highest pod and Blade, among the
Blades that could run a waiting task of class c. -/
def Lane.victim (x : Lane) (cl : Cls) (below : List Cls) : Option (Task × Nat × Nat) :=
  (clsOrder.reverse.filter below.contains).findSome? fun v =>
    ((List.range 64).reverse).findSome? fun k =>
      if x.bladeUp (k / 8) (k % 8) && (x.wouldTake (k / 8) (k % 8) cl).isSome then
        (x.ln.sched.tasks.find? fun t => t.cls == v && t.pos == .running (k / 8) (k % 8)).map fun t => (t, k / 8, k % 8)
      else none

/-- A task is pre-empted (R116): its registers and scratch go into its block, and it returns to the head of its class in its
home queue. -/
def Lane.preempt (x : Lane) (l : LaneId) (t : Nat) (k : Task) : Lane :=
  let q := x.ln.sched
  let ts := { k with pos := .waiting, stolen := false, preempted := true } :: q.tasks.filter fun u => u != k
  let x := { x with ln := { x.ln with sched := { q with tasks := ts, preempts := satInc 0x3FF q.preempts } } }
  x.storeBlock l t k.ctx

/-- Pre-emption for one waiting task of class c, of the classes below it (R115): the freed Blade takes that task at once. -/
def Lane.preemptOne (x : Lane) (l : LaneId) (t : Nat) (cl : Cls) (below : List Cls) : Lane :=
  if !x.ln.sched.waits cl || !x.noneFree then x
  else match x.victim cl below with
    | none => x
    | some (v, p, b) => match x.wouldTake p b cl with
      | some (k, stolen) => (x.preempt l t v).take l t k p b stolen
      | none => x

/-- Pre-emption for every waiting task of a class; at most 64 Blades can be freed. -/
def Lane.preemptAll (x : Lane) (l : LaneId) (t : Nat) (cl : Cls) (below : List Cls) : Lane :=
  (List.range 64).foldl (fun x _ => x.preemptOne l t cl below) x

/-- What a task has computed and not delivered is lost (R113, R114, R117). -/
def LaneLN.dropOf (x : LaneLN) (r : CtxRec) : LaneLN :=
  if r.typ = 1 then { x with axes := vmod x.axes r.index fun a => { a with work := none } }
  else if r.typ = 2 then { x with hyps := vmod x.hyps r.index fun v => vmod v r.hyp fun h => { h with work := none } }
  else if r.typ = 3 then { x with dways := vmod x.dways r.index fun d => { d with work := none } }
  else if r.typ = 4 then { x with slalomWork := none }
  else x

/-- A Blade is fenced while it runs a task (R114): the task is abandoned and waits again, and one of class B pre-empts at once
where no Blade is free (R115). -/
def Lane.abandon (x : Lane) (l : LaneId) (t p b : Nat) : Lane :=
  let hit := x.ln.sched.tasks.filter fun k => k.pos == .running p b
  let ln := hit.foldl (fun (y : LaneLN) k => ((x.img.ctx k.ctx).map y.dropOf).getD y) x.ln
  let x := { x with ln := { ln with sched := { ln.sched with tasks := abandonBlade ln.sched.tasks p b } } }
  x.preemptAll l t .b [.g, .s, .l, .p]

end Sys2Proof.Machine
end

