-- ==== Sys2Proof/Machine/Ops.lean ====
section
/-! DEFINITION. The named operations over the state that every family shares: reaching a lane and its parts, tasks and
addresses, attention, the yield log, the fault log, ledger events, the check queue and mailbox delivery. -/

namespace Sys2Proof.Machine

/-! ### Reaching a part of the state -/

/-- Lane l. -/
def State.lane (s : State) : LaneId → Lane
  | .a => s.laneA
  | .b => s.laneB

/-- Lane l replaced. -/
def State.setLane (s : State) (l : LaneId) (x : Lane) : State :=
  match l with
  | .a => { s with laneA := x }
  | .b => { s with laneB := x }

/-- Lane l changed by f. -/
def State.modLane (s : State) (l : LaneId) (f : Lane → Lane) : State := s.setLane l (f (s.lane l))

/-- Both lanes changed by f. -/
def State.modLanes (s : State) (f : Lane → Lane) : State := { s with laneA := f s.laneA, laneB := f s.laneB }

/-- The fields of lane l of class LN, MR, ST or — changed by f. -/
def State.modLN (s : State) (l : LaneId) (f : LaneLN → LaneLN) : State := s.modLane l fun x => { x with ln := f x.ln }
def State.modMR (s : State) (l : LaneId) (f : LaneMR → LaneMR) : State := s.modLane l fun x => { x with mr := f x.mr }
def State.modST (s : State) (l : LaneId) (f : LaneST → LaneST) : State := s.modLane l fun x => { x with st := f x.st }
def State.modKeep (s : State) (l : LaneId) (f : LaneKeep → LaneKeep) : State :=
  s.modLane l fun x => { x with keep := f x.keep }

/-- Axis n of a lane's registers, with the default past the last axis. -/
def Lane.axis (x : Lane) (n : Nat) : Axis := vget x.ln.axes {} n
def Lane.acfg (x : Lane) (n : Nat) : AxisCfg := vget x.st.axes {} n
def Lane.dway (x : Lane) (d : Nat) : Dway := vget x.ln.dways {} d
def Lane.dcfg (x : Lane) (d : Nat) : DwayCfg := vget x.st.dways {} d
def Lane.ring (x : Lane) (r : Nat) : LaneRing := vget x.ln.rings {} r
def Lane.hyp (x : Lane) (n h : Nat) : Hyp := vget (vget x.ln.hyps (Vector.replicate 4 {}) n) {} h

def LaneLN.modAxis (x : LaneLN) (n : Nat) (f : Axis → Axis) : LaneLN := { x with axes := vmod x.axes n f }
def LaneLN.modDway (x : LaneLN) (d : Nat) (f : Dway → Dway) : LaneLN := { x with dways := vmod x.dways d f }
def LaneLN.modRing (x : LaneLN) (r : Nat) (f : LaneRing → LaneRing) : LaneLN := { x with rings := vmod x.rings r f }
def LaneLN.modHyp (x : LaneLN) (n h : Nat) (f : Hyp → Hyp) : LaneLN :=
  { x with hyps := vmod x.hyps n fun v => vmod v h f }
def LaneRing.modSlot (x : LaneRing) (k : Nat) (f : SlotSt → SlotSt) : LaneRing := { x with slots := vmod x.slots k f }

/-- Axis, doorway, ring or hypothesis of lane l changed by f. -/
def State.modAxis (s : State) (l : LaneId) (n : Nat) (f : Axis → Axis) : State := s.modLN l (·.modAxis n f)
def State.modDway (s : State) (l : LaneId) (d : Nat) (f : Dway → Dway) : State := s.modLN l (·.modDway d f)
def State.modRing (s : State) (l : LaneId) (r : Nat) (f : LaneRing → LaneRing) : State := s.modLN l (·.modRing r f)
def State.modHyp (s : State) (l : LaneId) (n h : Nat) (f : Hyp → Hyp) : State := s.modLN l (·.modHyp n h f)

/-- The ring hardware, or one of its bricks, changed by f. -/
def State.modHw (s : State) (r : Nat) (f : RingHw → RingHw) : State := { s with rings := vmod s.rings r f }
def State.modBrick (s : State) (r b : Nat) (f : Brick → Brick) : State :=
  s.modHw r fun h => { h with bricks := vmod h.bricks b f }
def State.hw (s : State) (r : Nat) : RingHw := vget s.rings {} r
def State.brick (s : State) (r b : Nat) : Brick := vget (s.hw r).bricks {} b

/-- The safety core, the referee or the power die changed by f. -/
def State.modSc (s : State) (f : SafetyCore → SafetyCore) : State := { s with sc := f s.sc }
def State.modRef (s : State) (f : Referee → Referee) : State := { s with ref := f s.ref }
def State.modPd (s : State) (f : PowerDie → PowerDie) : State := { s with pd := f s.pd }
def State.modPort (s : State) (f : HostPort → HostPort) : State := { s with port := f s.port }
def State.modLines (s : State) (f : Lines → Lines) : State := { s with lines := f s.lines }
def State.modModKeep (s : State) (f : ModKeep → ModKeep) : State := { s with keep := f s.keep }

/-- Every block of an axis changed: the merged one, and those being computed or waiting for their merge. -/
def Axis.both (a : Axis) (f : AxisSt → AxisSt) : Axis :=
  { a with cur := f a.cur, work := a.work.map f, acc := a.acc.map f }

/-- The block of an axis, of a doorway or of slalom as its last accepted task left it (R113). -/
def Axis.block (a : Axis) : AxisSt := a.acc.getD a.cur
def Dway.block (d : Dway) : DwaySt := d.acc.getD d.cur
def LaneLN.slalomBlock (x : LaneLN) : Slalom := x.slalomAcc.getD x.slalom

/-- The newest block of an axis, or of a doorway: the one being computed where there is one. -/
def Axis.newest (a : Axis) : AxisSt := a.work.getD a.block
def Dway.newest (d : Dway) : DwaySt := d.work.getD d.block

/-- Every block of a doorway changed. -/
def Dway.both (d : Dway) (f : DwaySt → DwaySt) : Dway :=
  { d with cur := f d.cur, work := d.work.map f, acc := d.acc.map f }

/-! ### Time, token, stream -/

/-- The present tick number (R32). -/
def State.tick (s : State) : Nat := s.lines.gate.toNat / 2500 % 2 ^ 32

/-- A copy of the timebase goes to a value, and holds where it is ahead of it: it never counts backwards (R33). -/
def Island.reach (x : Island) (v : Time) : Island := if x.copy.toNat < v.toNat then { x with copy := v } else x

/-- A start gate arrives: the copy is corrected to the token's value plus the delivery delay, and the island's tick starts. -/
def Island.gate (x : Island) (i : Nat) (g : Time) : Island :=
  { x.reach (g + BitVec.ofNat 64 (Config.deliveryDelay i)) with tick := g.toNat / 2500 % 2 ^ 32, own := false }

/-- Between start gates the copy counts from the island's own clock. -/
def Island.run (x : Island) (i : Nat) (g : Time) (elapsed : Nat) : Island :=
  x.reach (g + BitVec.ofNat 64 (Config.deliveryDelay i + Config.islandCount i g elapsed))

/-- No start gate came: the island starts its own tick from its local copy (R34). -/
def Island.ownTick (x : Island) (i : Nat) (g : Time) : Island :=
  let x := x.run i g 250
  { x with tick := x.copy.toNat / 2500 % 2 ^ 32, own := true }

/-- The islands of a lane that has started, so far into the tick. -/
def Lane.islandsAt (x : Lane) (g : Time) (elapsed : Nat) : Lane :=
  if !x.ln.on then x
  else { x with ln := { x.ln with islands := x.ln.islands.mapFinIdx fun i v _ => v.run i g elapsed } }

/-- Time goes on within the tick, to an instant after its start gate: the copies of a lane's islands count with it. -/
def State.within (s : State) (l : LaneId) (elapsed : Nat) : State :=
  let v := s.lines.gate + BitVec.ofNat 64 elapsed
  let s := s.modLines fun x => { x with now := if x.now.toNat < v.toNat then v else x.now }
  s.modLane l (·.islandsAt s.lines.gate elapsed)

/-- Lane l holds the active token (R25). -/
def State.owns (s : State) (l : LaneId) : Bool := s.ref.token && s.ref.owner == l

/-- The image of lane l. -/
def State.img (s : State) (l : LaneId) : Image := (s.lane l).img

/-- The part number of this part (R43). -/
def partNumber : Part → Nat
  | .sk2460 => 0x2460
  | .sk2440 => 0x2440

/-- Axis n is fused off (R1). -/
def axFused (p : Part) (n : Nat) : Bool := p == .sk2440 && 16 ≤ n

/-- Load channel k is fused off (R1). -/
def lchFused (p : Part) (k : Nat) : Bool := p == .sk2440 && 24 ≤ k

/-- Lane number in an address (R7). -/
def laneNum : LaneId → Nat
  | .a => 0
  | .b => 1

/-- A Piste address the module generates (R7, R8, R9, R11): IDENT's fields, then lane, pod, blade and kind. -/
def pisteOf (i : Image) (lane pod blade kind : Nat) : Word :=
  BitVec.ofNat 32 (pack [(5, kind), (3, blade), (3, pod), (1, lane), (20, i.base / 4096)])

/-- Train time at a lane (R302). -/
def State.trainTime (s : State) (l : LaneId) : BitVec 64 := s.lines.now + (s.lane l).ln.net.tofs

/-- The lane's ROLE code (R44). -/
def Role.code : Role → Nat
  | .active => 0
  | .sync => 1
  | .unsync => 2
  | .degraded => 3
  | .starting => 4

/-! ### Attention, logs, events -/

/-- HOST_ATTN bit b of a lane is set (R388). -/
def LaneLN.raise (x : LaneLN) (b : Nat) : LaneLN :=
  { x with host := { x.host with attn := x.host.attn ||| BitVec.ofNat 17 (2 ^ b) } }

/-- An event that is a source of HATTN in block b of lane l. -/
def State.attn (s : State) (l : LaneId) (b : Nat) : State := s.modLN l (·.raise b)

/-- The same in both lanes, for a unit that belongs to neither. -/
def State.attnBoth (s : State) (b : Nat) : State := (s.attn .a b).attn .b b

/-- The sync link carries what one lane has for the other (R45, R400): both are out of reset and the link is up. -/
def State.linkUp (s : State) (l : LaneId) : Bool :=
  (s.lane l.other).ln.on && !(s.lane l.other).ln.red.linkDown && !(s.lane l).ln.red.linkDown

/-- Set a lane's ROLE, in the lane and in the referee's copy (R44, R345); a change to degraded raises HATTN. -/
def State.setRole (s : State) (l : LaneId) (r : Role) : State :=
  let was := (s.lane l).ln.role
  let s := s.modLN l fun x => { x with role := r }
  let s := s.modRef fun x => match l with
    | .a => { x with rolea := r }
    | .b => { x with roleb := r }
  if r = .degraded ∧ was ≠ .degraded then s.attnBoth 15 else s

/-- HATTN is high (R388): some unmasked attention bit of the lane holding the token is set, outside reset and park. -/
def State.hattn (s : State) : Bool :=
  s.ref.token && !s.lines.inReset &&
    ((s.lane s.ref.owner).ln.host.attn &&& (s.lane s.ref.owner).mr.attnmsk) != 0

/-- HBUSY is high for a cause of R385; in park the land is not driven and the host's pull-up holds it high. -/
def State.hbusy (s : State) : Bool :=
  s.port.busyWrite || s.port.busyReset || s.port.busyLoad || s.port.busySwitch || s.port.busyCold ||
    s.port.busyQuiet || s.ref.parked

/-- A log head after one more entry in a ring of n (R51, R371). -/
def LogHead.push (h : LogHead) (n : Nat) : LogHead :=
  { next := (h.next + 1) % n, count := if h.count < n then h.count + 1 else n,
    ovr := if h.count < n then h.ovr else satInc 0x7FFF h.ovr }

/-- Write an entry into a lane's yield log (R51, R53), with its SEQ and SHADOW, and set YNEW. -/
def Lane.ylogWrite (x : Lane) (e : YEntry) : Lane :=
  let e : YEntry := { e with seq := BitVec.ofNat 32 (x.keep.yseq + 1), shadow := x.ln.role != Role.active }
  let mark := fun (y : Cycle) => { y with yielded := true }
  let cycles := match e.axis with
    | some n => vmod x.ln.ledg.cycles (vget x.st.axes {} n).doorway (Option.map mark)
    | none => x.ln.ledg.cycles
  { x with
    keep := { x.keep with ylog := vmod x.keep.ylog x.mr.ylog.next (fun _ => e), yseq := x.keep.yseq + 1 }
    mr := { x.mr with ynew := true, ylog := x.mr.ylog.push 128 }
    ln := { x.ln.raise 0 with ylDue := x.ln.ylDue ++ [e], ledg := { x.ln.ledg with cycles := cycles } } }

/-- A lower rung yields (R50): an entry is appended when the episode of this cause and context begins; a tick in which
the yield persists only keeps the episode alive. -/
def Lane.yieldLog (x : Lane) (e : YEntry) : Lane :=
  let key := (e.cause, e.ctx)
  if x.ln.ylLive.contains key || x.ln.ylSeen.contains key then
    { x with ln := { x.ln with ylSeen := key :: x.ln.ylSeen } }
  else
    let x := x.ylogWrite e
    { x with ln := { x.ln with ylSeen := key :: x.ln.ylSeen } }

/-- The rungs of each cause: (BROKEN, SERVED) (R54). -/
def causeRungs (c : Nat) : Nat × Nat :=
  match c with
  | 1 => (5, 2)
  | 2 => (6, 2)
  | 3 => (6, 5)
  | 4 => (2, 1)
  | 5 => (7, 3)
  | 6 => (8, 3)
  | 7 => (7, 4)
  | 8 => (9, 4)
  | 9 => (4, 3)
  | _ => (6, 1)

/-- The entry of a cause, before its SEQ is known. -/
def yEntry (tick cause ctx : Nat) (axis : Option Nat) (detail : Nat) : YEntry :=
  { tick := BitVec.ofNat 32 tick, broken := (causeRungs cause).1, served := (causeRungs cause).2, ctx := ctx,
    axis := axis, cause := cause, detail := BitVec.ofNat 32 detail }

/-- Yield on lane l in the present tick. -/
def State.yield (s : State) (l : LaneId) (cause ctx : Nat) (axis : Option Nat) (detail : Nat) : State :=
  s.modLane l (·.yieldLog (yEntry s.tick cause ctx axis detail))

/-- A ledger event of this tick (R443): it waits for the LEDGER task of the next. -/
def State.event (s : State) (l : LaneId) (code detail : Nat) : State :=
  s.modLN l fun x => { x with ledg := { x.ledg with due := x.ledg.due ++ [.event code detail s.tick (s.trainTime l)] } }

/-- The same on both lanes. -/
def State.eventBoth (s : State) (code detail : Nat) : State := (s.event .a code detail).event .b code detail

/-! ### Patrol checks and the health table -/

/-- Type of a unit identity (R457). -/
def unitType (u : Word) : Nat := fld u.toNat 28 4

/-- Place of a type in the queue's order: lane, relay point, Blade, SRAM row, ring segment (R459). -/
def typeRank (t : Nat) : Nat := if t = 5 then 0 else if t = 4 then 1 else if t = 2 then 2 else if t = 1 then 3 else 4

/-- Into the queue behind every unit of its type or an earlier one (R459). -/
def insertCheck (u : Word) : List Word → List Word
  | [] => [u]
  | v :: vs => if typeRank (unitType u) < typeRank (unitType v) then u :: v :: vs else v :: insertCheck u vs

/-- COUNT of an entry: the stamps within the last 86,400 s of LIFE (R464). -/
def HEntry.count (e : HEntry) (life : Nat) : Nat := (e.stamps.filter (fun t => life < t + 86400 || life == t + 86400)).length

/-- The newest stamp of an entry. -/
def HEntry.newest (e : HEntry) : Nat := e.stamps.headD 0

/-- A table after a transient of a unit (R464, R465), and whether an entry in use was evicted. -/
def tableAdd (t : List HEntry) (life : Nat) (u : Word) : List HEntry × Bool :=
  let fresh : HEntry := { unit := u, stamps := [life] }
  match t.findIdx? (fun e => e.unit == u) with
  | some i => (t.modify i (fun e => { e with stamps := (life :: e.stamps).take 8 }), false)
  | none =>
    match t.findIdx? (fun e => e.unit == 0) with
    | some i => (t.set i fresh, false)
    | none =>
      if t.length < 256 then (t ++ [fresh], false)
      else match t.findIdx? (fun e => e.count life == 0) with
        | some i => (t.set i fresh, false)
        | none =>
          let oldest := (t.map HEntry.newest).foldl min (t.headD {}).newest
          match t.findIdx? (fun e => e.newest == oldest) with
          | some i => (t.set i fresh, true)
          | none => (t, false)

/-- The unit's entry, if any. -/
def tableFind (t : List HEntry) (u : Word) : Option HEntry := t.find? (fun e => e.unit == u)

/-- The table without a unit: its entry becomes free. -/
def tableDrop (t : List HEntry) (u : Word) : List HEntry := t.map fun e => if e.unit == u then {} else e

/-- The first cause of R467 that applies, recorded; the lane declares itself degraded, and a rise raises HATTN. -/
def State.degrade (s : State) (l : LaneId) (why : Nat) : State :=
  let h := (s.lane l).ln.hlth
  let s := s.modLN l fun x => { x with hlth := { x.hlth with
    degr := true, why := if x.hlth.degr then x.hlth.why else why,
    causes := if x.hlth.causes.contains why then x.hlth.causes else x.hlth.causes ++ [why]
    lcSince := x.hlth.lcSince && why != 1 } }
  let s := if (s.lane l).ln.role == .active || (s.lane l).ln.role == .starting then s
    else s.setRole l .degraded
  if h.degr then s else s.attn l 4

/-- The class-B contexts of a stream and the sum of their BUDGET (R106, R467). -/
def bContexts (i : Image) : List CtxRec := i.ctxs.filter (fun c => clsOf c.typ == .b)

/-- The number of unfenced Blades of a lane. -/
def Lane.freeBlades (x : Lane) : Nat :=
  ((List.range 64).filter (fun k => !x.fencedBlade (k / 8) (k % 8))).length

/-- Cause 2 of R467 holds: the class-B contexts outnumber the unfenced Blades, or their budget exceeds 80 % of the 6,480
cycles each completes. -/
def Lane.bOverload (x : Lane) : Bool :=
  x.freeBlades < (bContexts x.img).length ||
    4 * (x.freeBlades * 6480) < 5 * ((bContexts x.img).map CtxRec.budget).sum

/-- The unit becomes lasting (R466), by a check that failed or by its transients: it leaves the table, a retirement record is
written where it is permanent, and its type's action is taken. -/
def State.lasting (s : State) (l : LaneId) (u : Word) (failed : Bool) : State :=
  let t := unitType u
  let s := s.modKeep l fun k => { k with table := tableDrop k.table u }
  let record := (t == 1 || t == 2 || t == 4)
  let s := if record then s.modKeep l fun k =>
      if k.retired.length < 192 then { k with retired := k.retired ++ [(u, k.life)] } else k
    else s
  let s := (s.modMR l fun m => { m with lastnew := true }).attn l 4
  if t = 1 then
    let b := fld u.toNat 24 4
    let s := s.modKeep l fun k => { k with banks := vmod k.banks b fun x => x.retire (fld u.toNat 0 10) failed }
    if (vget (s.lane l).keep.banks {} b).short then s.degrade l 3 else s
  else if t = 2 then
    let p := fld u.toNat 3 3
    let b := fld u.toNat 0 3
    let s := s.modKeep l fun k => { k with fenced := vmod k.fenced p (fun m => m ||| BitVec.ofNat 8 (2 ^ b)) }
    let s := s.modLane l fun x => x.abandon l s.tick p b
    if (s.lane l).bOverload then s.degrade l 2 else s
  else if t = 3 then
    (s.modLN l fun x => { x with hlth := { x.hlth with
      seglast := true
      segs := if x.hlth.segs.contains u then x.hlth.segs else x.hlth.segs ++ [u] } }).attn l 4
  else if t = 4 then s.degrade l 5
  else if t = 5 then s.degrade l 4
  else s

/-- A transient of a unit (R464): its entry takes the LIFE stamp, and the eighth makes it lasting. -/
def State.transient (s : State) (l : LaneId) (u : Word) : State :=
  let k := (s.lane l).keep
  let (t, ev) := tableAdd k.table k.life u
  let s := s.modKeep l fun k => { k with table := t, tevict := if ev then satInc 0xFF k.tevict else k.tevict }
  match tableFind t u with
  | some e => if 8 ≤ e.count k.life then s.lasting l u false else s
  | none => s

/-- An error queues a patrol check of its unit (R458, R459): it joins one that is queued or under check, or is dropped
when 64 wait and then counts as a transient. -/
def State.queueCheck (s : State) (l : LaneId) (u : Word) : State :=
  let s := s.modLN l fun x => { x with hlth := { x.hlth with
    lasterr := u, ordered := x.hlth.ordered.filter fun v => v != u } }
  let h := (s.lane l).ln.hlth
  if h.queue.contains u || h.cur.any (fun c => c.2 == u) then s
  else if 64 ≤ h.queue.length then
    (s.modLN l fun x => { x with hlth := { x.hlth with qdrop := satInc 0xFFFF x.hlth.qdrop } }).transient l u
  else if unitType u == 1 && (vget (s.lane l).keep.banks {} (fld u.toNat 24 4)).notest then s.transient l u
  else s.modLN l fun x => { x with hlth := { x.hlth with queue := insertCheck u x.hlth.queue } }

/-- Unit identities (R457). -/
def sramUnit (bank row : Nat) : Word := BitVec.ofNat 32 (pack [(10, row), (14, 0), (4, bank), (4, 1)])
def bladeUnit (pod blade : Nat) : Word := BitVec.ofNat 32 (pack [(3, blade), (3, pod), (22, 0), (4, 2)])
def segUnit (ring hop : Nat) : Word := BitVec.ofNat 32 (pack [(3, hop), (1, 0), (2, ring), (22, 0), (4, 3)])
def relayUnit (i : Nat) : Word := BitVec.ofNat 32 (pack [(8, i), (20, 0), (4, 4)])
def laneUnit (l : LaneId) : Word := BitVec.ofNat 32 (pack [(1, laneNum l), (27, 0), (4, 5)])
def inputUnit (i : Nat) : Word := BitVec.ofNat 32 (pack [(5, i), (23, 0), (4, 6)])

/-! ### Fault records -/

/-- Write a fault record (R370, R371): not when the same ORIGIN, CODE, REQ and page is the newest record and no tick
without it has passed. -/
def State.faultRec (s : State) (l : LaneId) (r : FRec) : State :=
  let key := (r.origin, r.code, r.req, 4096 * r.dom + r.va / 4096)
  let d := (s.lane l).ln.dma
  if d.lastKey == some key && s.tick ≤ d.lastKeyTick + 1 then
    s.modLN l fun x => { x with dma := { x.dma with suppr := satInc 0xFFFF x.dma.suppr, lastKeyTick := s.tick } }
  else
    let s := s.modLane l fun x =>
      let r := { r with seq := BitVec.ofNat 32 (x.keep.fseq + 1), tick := BitVec.ofNat 32 s.tick }
      { x with
        keep := { x.keep with flog := vmod x.keep.flog x.mr.fhead.next (fun _ => r), fseq := x.keep.fseq + 1 }
        mr := { x.mr with mfnew := true, fhead := x.mr.fhead.push 64 }
        ln := { x.ln with dma := { x.ln.dma with lastKey := some key, lastKeyTick := s.tick } } }
    s.attn l 12

/-- The SRAM row that holds the word at a physical address (R347, R457): its own, or the one that it is remapped to. -/
def LaneKeep.rowAt (k : LaneKeep) (pa : Nat) : Word :=
  let b := pa / 0x80000
  sramUnit b ((vget k.banks {} b).rowOf (pa % 0x80000 / 0x400))

/-- The SRAM row that holds the page entry read for VA of domain d (R347, R458): entries lie from 0018_0000h on, after the
592 bytes of R353. -/
def Lane.entryUnit (x : Lane) (d va : Nat) : Word :=
  x.keep.rowAt (0x00180000 + 592 + 4 * ((x.img.dom d).ptoff + va % 2 ^ 24 / 4096))

/-! ### Mailboxes -/

/-- Deliver a post (R395, R397): header and body in one step; a post to a FULL mailbox overwrites it. -/
def Mbox.deliver (b : Mbox) (stamp : Word) (startno : BitVec 8) (words : List Word) : Mbox :=
  { b with
    stamp := stamp
    seq := b.seq + 1
    len := words.length
    full := true
    coll := b.full || b.coll
    startno := startno
    body := (words.zipIdx).foldl (fun v p => vmod v p.2 (fun _ => p.1)) b.body }

/-- An event wakes both lanes from layover (R487); the first one is recorded. -/
def State.wake (s : State) (why : WakeWhy) : State :=
  s.modLanes fun x => if x.ln.pwr.layover then
    { x with ln := { x.ln with pwr := { x.ln.pwr with waking := some (x.ln.pwr.waking.getD why) } } } else x

/-- A delivery into mailbox m of lane l, with the receiver's events (R397, R399). -/
def State.deliver (s : State) (l : LaneId) (m : Nat) (stamp : Word) (startno : BitVec 8) (words : List Word) : State :=
  let was := (vget (s.lane l).keep.boxes {} m).full
  let s := s.modKeep l fun k => { k with boxes := vmod k.boxes m (·.deliver stamp startno words) }
  let s := s.modLN l fun x => { x with mstat := vmod x.mstat m fun q =>
    { q with
      collcnt := if was then satInc 0xFF q.collcnt else q.collcnt
      coll := q.coll || (was && (m == 0 || m == 2))
      msgnew := q.msgnew || m == 1 || m == 3 } }
  let s := if was && (m == 0 || m == 2) then s.attn l 2 else s
  let s := if m == 1 || m == 3 then s.attn l 2 else s
  s.wake .post

/-- An acknowledgement (R398): accepted when the mailbox is FULL and ASEQ is its SEQ; otherwise ACKERR. -/
def State.ack (s : State) (l : LaneId) (m : Nat) (rc aseq : BitVec 16) : State :=
  let b := vget (s.lane l).keep.boxes {} m
  if b.full && b.seq == aseq then
    let s := s.modKeep l fun k => { k with boxes := vmod k.boxes m fun b =>
      { b with full := false, coll := false, rc := rc, aseq := aseq } }
    if m == 0 || m == 2 then
      (s.modLN l fun x => { x with mstat := vmod x.mstat m fun q => { q with acknew := true } }).attn l 2
    else s
  else s.modLN l fun x => { x with mstat := vmod x.mstat m fun q => { q with ackerr := true } }

/-! ### Schuss passes -/

/-- What a squash of hypothesis passes leaves (R195): no pass, and no stage due. -/
def Hyp.squash (h : Hyp) : Hyp :=
  { h with build := none, full := none, done := none, work := none, fullFrom := none, fullIn := false, hrdy := false,
           hflt := false, hstg := 0, hage := 0x3FF, stageDue := false, hspdec := 0, hfpk := 0, fpred := 0, hthit := 0xFFFF }

/-- The hypothesis holds a pass that an event would discard. -/
def Hyp.hasPass (h : Hyp) : Bool := h.build.isSome || h.full.isSome || h.done.isSome

/-- The held-back faults in the passes of a hypothesis (R196). -/
def Hyp.faults (h : Hyp) : Nat :=
  b2n ((h.build.bind Pass.fault).isSome) + b2n ((h.full.bind Pass.fault).isSome) + b2n ((h.done.bind Pass.fault).isSome)

/-- SQCNT and SQFCNT of an axis, and SQFLT of its lane, count a squash of n hypotheses and f held-back faults. -/
def LaneLN.countSquash (x : LaneLN) (n cnt f : Nat) : LaneLN :=
  let x := x.modAxis n fun a => a.both fun c => { c with obs := { c.obs with flags := { c.obs.flags with
    sqcnt := satAdd 0xFFFF c.obs.flags.sqcnt cnt, sqfcnt := satAdd 0xFFFF c.obs.flags.sqfcnt f } } }
  { x with sched := { x.sched with sqflt := satAdd 0xFFFF x.sched.sqflt f } }

/-- Squash every pass of an axis (R195). -/
def LaneLN.squashAll (x : LaneLN) (n : Nat) : LaneLN :=
  let hs := vget x.hyps (Vector.replicate 4 {}) n
  let cnt := (hs.toList.filter Hyp.hasPass).length
  let f := (hs.toList.map Hyp.faults).sum
  let x := (List.range 4).foldl (fun x h => x.modHyp n h Hyp.squash) x
  x.countSquash n cnt f

/-- Squash the passes being built of an axis, as at pre-arm (R195). -/
def LaneLN.squashBuilds (x : LaneLN) (n : Nat) : LaneLN :=
  let hs := vget x.hyps (Vector.replicate 4 {}) n
  let cnt := (hs.toList.filter (·.build.isSome)).length
  let f := (hs.toList.map fun h => b2n ((h.build.bind Pass.fault).isSome)).sum
  let x := (List.range 4).foldl (fun x h => x.modHyp n h fun y => { y with build := none, work := none, stageDue := false }) x
  x.countSquash n cnt f

end Sys2Proof.Machine
end

