-- ==== Sys2Proof/Machine/Hall.lean ====
section
/-! DEFINITION. Hall tracking (chapter 4): sectors, counts, speed, standstill and interpolation, with the compare slots
that are judged on every count (R163 to R165). -/

namespace Sys2Proof.Machine

/-- The sector of a Hall state under a tracking mode; none for an invalid state, or where there is no sensor (R128, R145). -/
def sectorOf (hmode st : Nat) : Option Nat :=
  if hmode = 2 then none
  else if hmode = 1 then
    match st % 4 with
    | 0 => some 0
    | 1 => some 1
    | 3 => some 2
    | _ => some 3
  else
    match st % 8 with
    | 1 => some 0
    | 3 => some 1
    | 2 => some 2
    | 6 => some 3
    | 4 => some 4
    | 5 => some 5
    | _ => none

/-- What a change of sector means: none moved, a count of k in ascending or descending order, or a skip (R129, R145). -/
inductive Moved
  | none
  | count (k : Nat) (asc : Bool)
  | skip
  deriving DecidableEq, Repr

/-- The table of R129, and that of R145 for a quadrature pair. -/
def movedBy (hmode last new : Nat) : Moved :=
  if hmode = 1 then
    match (new + 4 - last) % 4 with
    | 0 => .none
    | 1 => .count 1 true
    | 3 => .count 1 false
    | _ => .skip
  else
    match (new + 6 - last) % 6 with
    | 0 => .none
    | 1 => .count 1 true
    | 5 => .count 1 false
    | 2 => .count 2 true
    | 4 => .count 2 false
    | _ => .skip

/-- POSQ lowered from valid to suspect (R130, R131). -/
def PosQ.lower : PosQ → PosQ
  | .valid => .suspect
  | q => q

/-- The code of POSQ (R147). -/
def PosQ.code : PosQ → Nat
  | .invalid => 0
  | .suspect => 1
  | .valid => 2

/-- The lower of two qualities of position. -/
def PosQ.least (p q : PosQ) : PosQ := if p.code < q.code then p else q

/-- A slot fires (R165): HIT is set, ARM cleared, and CTIME takes the time. -/
def CmpSlot.fire (c : CmpSlot) (time : Word) (late : Bool) : CmpSlot :=
  { c with hit := true, late := c.late || late, arm := false, ctime := time, behind := none }

/-- TRACK going from `before` to `after` crosses the slot in its direction (R164). -/
def CmpSlot.crossed (c : CmpSlot) (before after : Int) : Bool :=
  let x := c.cpos.toInt
  if c.cdir then decide (x < before) && decide (after ≤ x) else decide (before < x) && decide (x ≤ after)

/-- Judge every armed slot on one count (R164, R165). -/
def AxisSt.judgeSlots (a : AxisSt) (before after : Int) (time : Word) : AxisSt :=
  let hits := fun (c : CmpSlot) => c.arm && c.behind == some false && c.crossed before after
  let fired := a.cmp.toList.filter hits
  { a with
    cmp := a.cmp.map (fun c => if hits c then c.fire time false else c)
    cmpEvent := a.cmpEvent || fired.any (fun c => c.act == 2)
    out := { a.out with attn := a.out.attn || fired.any (fun c => c.act == 1) } }

/-- Add counts to RAW and TRACK (R133, R134), and judge the compare slots. -/
def AxisSt.addCounts (a : AxisSt) (k : Int) (time : Word) : AxisSt :=
  let before := a.hall.track.toInt
  let h := { a.hall with raw := a.hall.raw + BitVec.ofInt 16 k, track := a.hall.track + BitVec.ofInt 32 k }
  AxisSt.judgeSlots { a with hall := h } before (before + k) time

/-- A skip (R130). DIR and STILL stay: a skip has no direction, which R139 takes from the first edge (DEDUCED, log entry 65). -/
def AxisSt.skip (a : AxisSt) (sec : Nat) : AxisSt :=
  { a with
    hall := { a.hall with hskip := true, posq := a.hall.posq.lower, sector := some sec, nots := true }
    edge := { a.edge with skipcnt := satInc 0xFF a.edge.skipcnt, ntsEdges := 0 } }

/-- The interval from the newest timestamped edge to one at `te`, none where it spans a standstill (R137, R138). -/
def AxisSt.ival (c : HallCfg) (a : AxisSt) (te : Time) : Option Nat :=
  match a.edge.tEdge with
  | some t0 =>
    let dt := te.toNat - t0.toNat
    if a.hall.still || c.spdto * 100000 < dt then none else some dt
  | none => none

/-- A timestamped edge with d = 3: a skip, and the newest edge (R130, R137, R138). -/
def AxisSt.timedSkip (c : HallCfg) (a : AxisSt) (te : Time) (sec : Nat) : AxisSt :=
  let a' := a.skip sec
  { a' with edge := { a'.edge with tEdge := some te, edget := te.setWidth 32, edgei := (a.ival c te).getD 0 } }

/-- The magnitude of the speed of R137 over an interval, before its limit. -/
def spdMag (cpmm k dt : Nat) : Nat := if cpmm * dt = 0 then 32768 else k * 10 ^ 11 / (cpmm * dt)

/-- A timestamped edge of k counts (R129, R137 to R142). Where NOTS stands and the second edge comes after a standstill, it
is no pair with the first: SPD is held and NOTS stays set until the next one (DEDUCED); the intervals measured before NOTS
do not count in the larger of the last two, since the edges that the lack of timestamps hides lie between (DEDUCED, log
entry 65). -/
def AxisSt.timedEdge (c : HallCfg) (a : AxisSt) (te : Time) (k : Nat) (asc : Bool) (sec : Nat) : AxisSt :=
  let neg := asc == c.hdir
  let a := a.addCounts (if neg then -(k : Int) else k) (te.setWidth 32)
  let iv := a.ival c te
  let dt := iv.getD 0
  let first := iv.isNone || !a.edge.seen || (a.hall.nots && a.edge.ntsEdges == 0)
  let h := { a.hall with sector := some sec, dirNeg := neg, still := false }
  let e := { a.edge with
    tEdge := some te
    edget := te.setWidth 32
    seen := true
    negForm := neg
    negOrder := !asc }
  if first then
    { a with
      hall := { h with spd := if a.hall.nots then h.spd else 0 }
      edge := { e with edgei := 0, ivals := [], f := 0, ntsEdges := 1 } }
  else
    let m := spdMag c.cpmm k dt
    { a with
      hall := { h with
        spd := (if neg then -1 else 1) * ((min m 32767 : Nat) : Int)
        spdsat := h.spdsat || 32767 < m
        nots := false }
      edge := { e with edgei := dt, ivals := (dt :: a.edge.ivals).take 2, ntsEdges := 2 } }

/-- One edge record (R129 to R132). -/
def AxisSt.edgeRecord (c : HallCfg) (a : AxisSt) (er : Time × Nat) : AxisSt :=
  match sectorOf c.hmode er.2 with
  | none => { a with hall := { a.hall with hinv := true } }
  | some sec =>
    match a.hall.sector with
    | none => { a with hall := { a.hall with sector := some sec } }
    | some last =>
      match movedBy c.hmode last sec with
      | .none => a
      | .skip => a.timedSkip c er.1 sec
      | .count k asc => a.timedEdge c er.1 k asc sec

/-- A count taken from the latched state, with no timestamp (R129, R141). -/
def AxisSt.untimed (c : HallCfg) (a : AxisSt) (k : Nat) (asc : Bool) (sec : Nat) (latch : Time) : AxisSt :=
  let neg := asc == c.hdir
  let a := a.addCounts (if neg then -(k : Int) else k) (latch.setWidth 32)
  { a with
    hall := { a.hall with sector := some sec, dirNeg := neg, nots := true }
    edge := { a.edge with negForm := neg, negOrder := !asc, ntsEdges := 0 } }

/-- The latched state after the edge records (R129, R131). -/
def AxisSt.latched (c : HallCfg) (a : AxisSt) (st : Nat) (latch : Time) : AxisSt :=
  let shown := if c.hmode = 1 then st % 4 else st % 8
  let a := { a with hall := { a.hall with hstate := shown } }
  match sectorOf c.hmode st with
  | none => { a with hall := { a.hall with hinv := true }, edge := { a.edge with invRun := a.edge.invRun + 1 } }
  | some sec =>
    let a := { a with edge := { a.edge with invRun := 0 } }
    match a.hall.sector with
    | none => { a with hall := { a.hall with sector := some sec } }
    | some last =>
      match movedBy c.hmode last sec with
      | .none => a
      | .skip => a.skip sec
      | .count k asc => a.untimed c k asc sec latch

/-- HFLT (R131): the latched state has been invalid for INVMAX ticks. -/
def AxisSt.hfltDue (c : HallCfg) (a : AxisSt) : Bool := c.hmode == 0 && 0 < a.edge.invRun && c.invmax ≤ a.edge.invRun

/-- HFLT is set and POSQ lowered (R131), where R173 does not keep it until the power stage returns (log entry 43). -/
def AxisSt.setHflt (a : AxisSt) : AxisSt :=
  let kept := a.keep.unpowered && a.keep.lost == some true
  { a with hall := { a.hall with hflt := true, posq := if kept then a.hall.posq else a.hall.posq.lower } }

/-- STILL is due (R138): the latch gate lies more than SPDTO after the newest edge. -/
def AxisSt.stillDue (c : HallCfg) (a : AxisSt) (latch : Time) : Bool :=
  match a.edge.tEdge with
  | some te => !a.hall.still && te.toNat + c.spdto * 100000 < latch.toNat
  | none => false

/-- STILL is set; SPD and V4 read 0 (R138). -/
def AxisSt.setStill (a : AxisSt) : AxisSt := { a with hall := { a.hall with still := true, spd := 0, v4 := 0 } }

/-- The interpolation term (R142). -/
def AxisSt.interp (a : AxisSt) (latch : Time) : Nat :=
  if !a.edge.seen then 128
  else if a.hall.still || a.hall.nots then a.edge.f
  else
    match a.edge.tEdge, a.edge.ivals with
    | some te, d :: ds =>
      let di := ds.foldl max d
      if di = 0 then 255 else min 255 (256 * (latch.toNat - te.toNat) / di)
    | _, _ => a.edge.f

/-- PI from TRACK, f and the form in force (R142). -/
def piOf (track : Int) (f : Nat) (neg : Bool) : Int := if neg then 256 * (track + 1) - f else 256 * track + f

/-- ELPOS from the last valid sector, f and the form in force (R143). -/
def elposOf (c : HallCfg) (sec f : Nat) (desc : Bool) : Nat :=
  if desc then (256 * (sec + 1) + 1536 - f + c.hofs) % 1536 else (256 * sec + f + c.hofs) % 1536

/-- V4 over four ticks (R144), limited to ±32,767. -/
def v4Of (cpmm : Nat) (d : Int) : Int := clampI (-32767) 32767 (truncDiv (d * 10 ^ 7) (256 * (cpmm : Int)))

/-- PI, f, ELPOS and V4 of this tick (R142 to R145). -/
def AxisSt.refresh (c : HallCfg) (a : AxisSt) (latch : Time) : AxisSt :=
  let f := a.interp latch
  let pi := if c.hmode = 0 then piOf a.hall.track.toInt f a.edge.negForm else 256 * a.hall.track.toInt
  let v4 := if a.hall.still then 0
    else match a.edge.piHist with
      | [_, _, _, p4] => v4Of c.cpmm (pi - p4)
      | _ => 0
  { a with
    hall := { a.hall with v4 := v4 }
    edge := { a.edge with
      f := f
      pi := pi
      piHist := (pi :: a.edge.piHist).take 4
      elpos := if c.hmode = 0 then elposOf c (a.hall.sector.getD 0) f a.edge.negOrder else 0 } }

/-- What a record's invalid states and overflow mark set (R131, R132): an invalid state anywhere in it counts once for the
tick. -/
def AxisSt.hallErrs (c : HallCfg) (a : AxisSt) (u : UpRec) : AxisSt :=
  let bad := c.hmode == 0 && (((u.edges.map (fun e => e.2)) ++ [u.hst]).any (fun x => (sectorOf 0 x).isNone))
  { a with
    hall := { a.hall with hinv := a.hall.hinv || bad, edgeovr := a.hall.edgeovr || u.ovf }
    edge := { a.edge with
      invcnt := if bad then satInc 0xFF a.edge.invcnt else a.edge.invcnt
      ovrcnt := if u.ovf then satInc 0xFF a.edge.ovrcnt else a.edge.ovrcnt } }

/-- One up record's Hall data (R127 to R132): edge records in timestamp order, then the latched state. The record that brings a
power stage back moves no count by its edges (`counts` false, R173). -/
def AxisSt.hallRecord (c : HallCfg) (a : AxisSt) (u : UpRec) (counts : Bool) : AxisSt :=
  let a := if counts then u.edges.foldl (AxisSt.edgeRecord c) a else a
  (a.latched c u.hst u.latch).hallErrs c u

/-- A record of an axis whose power stage is reported unpowered (R173): TRACK and the last valid sector are kept; the state
shows, invalid states and OVF count, and an axis without a last valid sector takes it (R129, R131, R132). -/
def AxisSt.hallKept (c : HallCfg) (a : AxisSt) (u : UpRec) : AxisSt :=
  let new := sectorOf c.hmode u.hst
  let a := { a with
    hall := { a.hall with hstate := (if c.hmode = 1 then u.hst % 4 else u.hst % 8), sector := a.hall.sector <|> new }
    edge := { a.edge with invRun := if new.isNone then a.edge.invRun + 1 else 0 } }
  a.hallErrs c u

/-- A missed up frame (R141): SPD is held and NOTS set. A tick without up data has no latched state, so it neither goes on with
the run of R131 nor ends it (DESIGN CHOICE, log entry 65). -/
def AxisSt.hallMissed (a : AxisSt) : AxisSt :=
  { a with
    hall := { a.hall with nots := true }
    edge := { a.edge with misscnt := satInc 0xFF a.edge.misscnt, ntsEdges := 0 } }

/-- Slots that were behind when armed fire at the next start gate (R164), and newly armed ones are judged. -/
def AxisSt.armTick (a : AxisSt) (gate : Time) : AxisSt :=
  let due := fun (c : CmpSlot) => c.arm && c.behind == some true
  let fired := a.cmp.toList.filter due
  { a with
    cmp := a.cmp.map (fun c => if due c then c.fire (gate.setWidth 32) true else c)
    cmpEvent := a.cmpEvent || fired.any (fun c => c.act == 2)
    out := { a.out with attn := a.out.attn || fired.any (fun c => c.act == 1) } }

/-- The slot is behind at its arming tick (R164). -/
def CmpSlot.isBehind (c : CmpSlot) (track : Int) : Bool :=
  if c.cdir then decide (track ≤ c.cpos.toInt) else decide (c.cpos.toInt ≤ track)

/-- Position in 0.1 mm (R135). -/
def posOf (cpmm : Nat) (track : Int) : Int := (track * 1000 + (cpmm / 2 : Nat)) / (cpmm : Int)

/-- POS of an axis. -/
def AxisSt.pos (c : HallCfg) (a : AxisSt) : Int := posOf c.cpmm a.hall.track.toInt

/-- The record of the newest frame, or its absence (R127 to R132, R141); a power stage reported unpowered keeps the position. -/
def AxisSt.hallTake (c : HallCfg) (a : AxisSt) (up : Option UpRec) (expected counts : Bool) : AxisSt :=
  match up with
  | some u => if a.keep.unpowered then a.hallKept c u else a.hallRecord c u counts
  | none => if expected then a.hallMissed else a

/-- Hall tracking of one tick with a sensor (R36, R127 to R144). STILL is judged in every tick, also in one whose up data
did not come: its latch gate stands all the same (DESIGN CHOICE, log entry 65). -/
def AxisSt.hallTick (c : HallCfg) (a : AxisSt) (up : Option UpRec) (expected counts : Bool) (latch : Time) : AxisSt :=
  let a := a.hallTake c up expected counts
  let a := if a.stillDue c latch then a.setStill else a
  AxisSt.refresh c { a with edge := { a.edge with tickAt := some latch } } latch

/-- STILL is due in the tick of a latch gate by what is known then (R138): AX_BASE has taken the tick's record, or the
record that waits for it brings no edge. -/
def AxisSt.stillNow (c : HallCfg) (a : AxisSt) (up : Option UpRec) (latch : Time) : Bool :=
  a.stillDue c latch && (a.edge.tickAt == some latch || (a.hallTake c up false true).stillDue c latch)

end Sys2Proof.Machine
end

