-- ==== Sys2Proof/Machine/Motion.lean ====
section
/-! DEFINITION. The profile, the commands and the amplitude of an axis (chapter 5), with the limit inputs and homing. -/

namespace Sys2Proof.Machine

/-! ### Units -/

/-- The step of the profile: 25 × 10⁻⁶ s (R153). -/
def dtF : F32 := F32.ofRat 25 1000000

/-- 0.1 mm as mm, and 0.1 mm/s as mm/s (R153). -/
def tenth (n : Int) : F32 := F32.ofRat n 10

/-- The sign factor of a direction. -/
def sgnF (neg : Bool) : F32 := F32.ofInt (if neg then -1 else 1)

/-- A position in 1/256 count as mm (R135, R155). -/
def mmOfPi (cpmm : Nat) (pi : Int) : F32 := if cpmm = 0 then 0 else F32.ofRat (pi * 100) (256 * cpmm)

/-- PR: the reference in 1/256 count (R155). -/
def prOf (cpmm : Nat) (p : F32) : Int := F32.roundScaled p (cpmm * 256) 100

/-- PREF, VREF and AREF (R155). -/
def ProfSt.pref (q : ProfSt) : Int := F32.roundScaled q.p 10 1
def ProfSt.vref (q : ProfSt) : Int := (if q.neg then -1 else 1) * F32.roundScaled q.v 10 1
def ProfSt.aref (q : ProfSt) : Int := (if q.neg then -1 else 1) * F32.roundScaled q.a 1 1

/-- PHASE (R176). -/
def Phase.code : Phase → Nat
  | .idle => 0
  | .accel => 1
  | .cruise => 2
  | .decel => 3
  | .stopping => 4

/-! ### The stop distance (R154) -/

/-- v² / (2 × DEC). -/
def dstopTrap (dec : Nat) (v : F32) : F32 := F32.div (F32.mul v v) (F32.mul (F32.ofInt 2) (F32.ofInt dec))

/-- Dsc(v) of R154, with DEC in mm/s² and JERK in mm/s³. -/
def dsc (dec jerk v : F32) : F32 :=
  if F32.le (F32.div (F32.mul dec dec) jerk) v then
    F32.add (F32.div (F32.mul v v) (F32.mul (F32.ofInt 2) dec)) (F32.div (F32.mul v dec) (F32.mul (F32.ofInt 2) jerk))
  else F32.mul v (F32.sqrt (F32.div v jerk))

/-- dstop(v, a) (R154). -/
def dstop (scurve : Bool) (dec jerkReg : Nat) (v a : F32) : F32 :=
  if !scurve then dstopTrap dec v
  else
    let d := F32.ofInt dec
    let j := F32.ofInt (10 * jerkReg)
    if F32.le a 0 then dsc d j v
    else
      F32.add
        (F32.add (dsc d j (F32.add v (F32.div (F32.mul a a) (F32.mul (F32.ofInt 2) j)))) (F32.div (F32.mul v a) j))
        (F32.div (F32.mul (F32.mul a a) a) (F32.mul (F32.ofInt 3) (F32.mul j j)))

/-- The deceleration in force, which DECUSE shows (R156). -/
def ProfSt.decNow (q : ProfSt) : Nat := if q.phase == .stopping then q.stopDec else q.decUse

/-- Toward a target by at most a step (R153). -/
def toward (a at' step : F32) : F32 :=
  if F32.lt a at' then F32.fmin (F32.add a step) at' else F32.fmax (F32.sub a step) at'

/-! ### The profile step (R153) -/

/-- The profile is at rest at a place. -/
def ProfSt.rest (q : ProfSt) (p : F32) : ProfSt := { q with p := p, v := 0, a := 0, phase := .idle, motion := .none, cstop := false, qstop := false }

/-- Begin a motion from standstill: the present values are taken, and pending ones with them (R156). -/
def ProfSt.begin (q : ProfSt) (c : MotCfg) (m : Motion) (neg scurve : Bool) (target : F32) : ProfSt :=
  { q with phase := .accel, motion := m, v := 0, a := 0, neg := neg, scurve := scurve, form := scurve, ptgt := target,
           accUse := c.acc, decUse := c.dec, jerkUse := c.jerk, qdecUse := c.qdec, accDefer := false, again := none,
           moved := true, lastNeg := neg, arrived := false, cstop := false, qstop := false }

/-- One profile step toward the target, with vmax in 0.1 mm/s (R153). A homing run has no target (R168). The target is
reached only by a step in DECEL; a move that reaches it sets PDONE, a stop does not (log entry 18). -/
def profStep (c : MotCfg) (vmaxReg : Nat) (q : ProfSt) : ProfSt :=
  if q.phase == .idle then q
  else
    let s := sgnF q.neg
    let free := q.motion == .homeRun && (q.phase == .accel || q.phase == .cruise)
    let stopping := q.phase == .stopping
    let sc := q.scurve
    let dec := q.decNow
    let vmax := tenth vmaxReg
    let jerk := F32.ofInt (10 * q.jerkUse)
    let r := F32.mul (F32.sub q.ptgt q.p) s
    let ph := if (q.phase == .accel || q.phase == .cruise) && !free &&
        F32.le r (F32.add (dstop sc q.decUse q.jerkUse q.v q.a) (F32.mul q.v dtF)) then .decel else q.phase
    let ph := if ph == .accel && F32.le vmax q.v then .cruise else ph
    let ramp := F32.div (F32.mul q.a q.a) (F32.mul (F32.ofInt 2) jerk)
    let at' : F32 :=
      if ph == .accel then
        (if sc && F32.le (F32.sub vmax q.v) ramp then 0 else F32.ofInt q.accUse)
      else if ph == .cruise then 0
      else (if sc && F32.le q.v ramp then 0 else F32.negate (F32.ofInt dec))
    let an := if sc then toward q.a at' (F32.mul jerk dtF) else at'
    let vn := F32.add q.v (F32.mul (F32.mul (F32.ofRat 1 2) (F32.add q.a an)) dtF)
    if (ph == .decel || ph == .stopping) && (F32.le vn 0 || F32.le r 0) then
      let q' := q.rest q.ptgt
      let q' := if q.motion == .move && !stopping then { q' with pdone := true, arrived := true } else q'
      match q.again with
      | some t =>
        let tf := tenth t
        { q' with again := none }.begin c .move (F32.lt tf q.ptgt) c.scurve tf
      | none => q'
    else
      let vn := if F32.lt vmax vn then vmax else vn
      { q with phase := ph, p := F32.add q.p (F32.mul (F32.mul (F32.mul s (F32.ofRat 1 2)) (F32.add q.v vn)) dtF),
               v := vn, a := an }

/-- A reference speed above a lower limit is brought down to it at QDEC, trapezoid, before the step goes on (R188, R189);
a stop under way keeps the rest of its distance. -/
def slowStep (c : MotCfg) (limReg : Nat) (q : ProfSt) : ProfSt :=
  let lim := tenth limReg
  let vn := F32.fmax lim (F32.sub q.v (F32.mul (F32.ofInt c.qdec) dtF))
  let p := F32.add q.p (F32.mul (F32.mul (F32.mul (sgnF q.neg) (F32.ofRat 1 2)) (F32.add q.v vn)) dtF)
  let a := if F32.le vn lim then (0 : F32) else F32.negate (F32.ofInt c.qdec)
  if q.phase == .stopping then
    { q with p := p, v := vn, a := a,
             ptgt := F32.add p (F32.mul (sgnF q.neg) (dstop q.scurve q.stopDec q.jerkUse vn 0)) }
  else { q with phase := .cruise, p := p, v := vn, a := a }

/-- The step of one tick under a speed limit, lower than VMAX where one acts (R153, R188, R189). -/
def profTick (c : MotCfg) (vmaxReg : Nat) (cap : Option Nat) (q : ProfSt) : ProfSt :=
  match cap with
  | some k =>
    if q.phase != .idle && F32.lt (tenth k) q.v then slowStep c k q else profStep c (min vmaxReg k) q
  | none => profStep c vmaxReg q

/-! ### Commands (R150 to R157) -/

/-- A stop of the profile at a deceleration (R154): the target is the stop distance ahead. -/
def ProfSt.stop (q : ProfSt) (dec : Nat) (scurve : Bool) (ph : Phase) : ProfSt :=
  if q.phase == .idle then q
  else
    let d := dstop scurve dec q.jerkUse q.v q.a
    { q with phase := ph, stopDec := dec, scurve := scurve, again := none, qstop := false, motion := .stop
             ptgt := F32.add q.p (F32.mul (sgnF q.neg) d) }

/-- STOP: at the DEC in force, with JERK when the move is an S-curve (R150, R157). During a QSTOP it does not lower the
deceleration (R152). -/
def ProfSt.stopCmd (q : ProfSt) : ProfSt :=
  if q.phase == .stopping && q.qstop then { q.stop (max q.decUse q.stopDec) false .stopping with qstop := true }
  else q.stop q.decUse q.form .stopping

/-- QSTOP, and a controlled stop: at the QDEC in force, trapezoid (R150, R157). -/
def ProfSt.qstopCmd (q : ProfSt) : ProfSt := { q.stop q.qdecUse false .stopping with qstop := true }

/-- A MOVE that is accepted (R152): from rest it begins; while moving it goes on when the new target lies ahead and can be
reached at DEC, else the profile stops at DEC and begins again from standstill. -/
def ProfSt.moveCmd (q : ProfSt) (c : MotCfg) (target : Int) : ProfSt :=
  let tf := tenth target
  if q.phase == .idle then q.begin c .move (F32.lt tf q.p) c.scurve tf
  else
    let r := F32.mul (F32.sub tf q.p) (sgnF q.neg)
    if F32.le (dstop q.form q.decUse q.jerkUse q.v q.a) r then
      { q with ptgt := tf, motion := .move, again := none, arrived := false, cstop := false, qstop := false, scurve := q.form,
               phase := if q.phase == .cruise then .cruise else .accel }
    else { (if q.phase == .stopping then q else q.stop q.decUse q.form .stopping) with again := some target, cstop := false }

/-- A homing sequence is running (R151, R168). -/
def HomSt.runs (h : HomSt) : Bool := h.st == .backOff || h.st == .approach || h.st == .settle

/-- The closing direction is negative (R168, R206). -/
def AxisCfg.closeNeg (c : AxisCfg) : Bool := c.obs.clneg

/-- The present motion is a closing (or extending) one. -/
def closingNow (c : AxisCfg) (a : AxisSt) : Bool := a.prof.phase != .idle && a.prof.neg == c.closeNeg

/-- A controlled stop (R150); during a snowplough it acts as a QSTOP does there (R200). One under way goes on. -/
def AxisSt.controlledStop (a : AxisSt) : AxisSt :=
  if a.obs.ostate == .braking then
    { a with prof := a.prof.stop (max a.obs.spdec a.prof.qdecUse) false .stopping |> fun q => { q with motion := .brake } }
  else if a.obs.ostate == .relief then
    { a with prof := a.prof.stop a.prof.qdecUse false .stopping |> fun q => { q with motion := .relief } }
  else if a.prof.phase == .stopping && a.prof.cstop && a.prof.qstop then a
  else { a with prof := { a.prof.qstopCmd with cstop := a.prof.phase != .idle } }

/-- The sequence ends with a fault code (R171): POSQ keeps the value it had when HOME took effect, and what lowered it
since stays. -/
def AxisSt.homFail (a : AxisSt) (code : Nat) : AxisSt :=
  { a with
    hom := { a.hom with st := .fault, hfault := code }
    hall := { a.hall with posq := a.hom.posq0.least a.hall.posq } }

/-- A homing abort (R171). -/
def AxisSt.homAbort (a : AxisSt) (code : Nat) : AxisSt := a.controlledStop.homFail code

/-- Counts of a position in 0.1 mm: HOFFC (R169). -/
def hoffc (cpmm : Nat) (p : Int) : Int := (p * cpmm + 500) / 1000

/-- The homing event (R169): TRACK, PR, PI, the stored PI values and p move by the offset, POSQ becomes valid, and every
compare slot's ARM clears. -/
def AxisSt.homEvent (c : AxisCfg) (a : AxisSt) (trackev : Int) : AxisSt :=
  let off := hoffc c.hall.cpmm c.hom.hoffp - trackev
  let mm := if c.hall.cpmm = 0 then (0 : F32) else F32.ofRat (off * 100) c.hall.cpmm
  { a with
    hall := { a.hall with track := a.hall.track + BitVec.ofInt 32 off, posq := .valid }
    edge := { a.edge with pi := a.edge.pi + 256 * off, piHist := a.edge.piHist.map (· + 256 * off) }
    amp := { a.amp with pr := a.amp.pr + 256 * off }
    prof := { a.prof with p := F32.add a.prof.p mm, ptgt := F32.add a.prof.ptgt mm }
    cmp := a.cmp.map (fun s => { s with arm := false, behind := none })
    hom := { a.hom with event := true } }

/-- Hall-only homing, judged at once (R168, R169, R171). -/
def AxisSt.hallOnly (c : AxisCfg) (a : AxisSt) : AxisSt :=
  let ok := a.hall.still && (sectorOf c.hall.hmode a.hall.hstate).isSome && (vget a.lim {} 2).deb
  if ok then
    let a := a.homEvent c a.hall.track.toInt
    { a with hom := { a.hom with st := .done, hdone := true } }
  else { a with hom := { a.hom with st := .fault, hfault := 8 } }

/-- HOME that is accepted (R168, R170). The homing profile is a trapezoid at the present ACC and DEC. -/
def AxisSt.homeCmd (c : AxisCfg) (a : AxisSt) : AxisSt :=
  let seq := c.hom.hseq
  let a := { a with hom := { a.hom with seq := seq, hfault := 0, ticks := 0, posq0 := a.hall.posq, event := false,
                                         backFrom := a.hall.track.toInt } }
  if seq = 5 then a.hallOnly c
  else
    let closing := seq = 1 ∨ seq = 3
    let refIn := if seq = 3 then 1 else 0
    let back := (seq = 3 ∨ seq = 4) ∧ (vget a.lim {} refIn).deb
    let neg := if closing then c.closeNeg else !c.closeNeg
    let neg := if back then !neg else neg
    { a with
      hom := { a.hom with st := if back then .backOff else .approach }
      prof := a.prof.begin c.mot .homeRun neg false a.prof.p }

/-- The return code of a command (R151), checks in their order; the target counts for MOVE. -/
def axRc (c : AxisCfg) (a : AxisSt) (owns host : Bool) (code : Nat) (target : Int) : Nat :=
  let snow := a.obs.ostate == .braking || a.obs.ostate == .relief
  let moveHome := code = 1 ∨ code = 4
  if host ∧ ¬ owns then 1
  else if 5 ≤ code then 7
  else if moveHome ∧ snow then 9
  else if code = 4 ∧ c.hom.hseq = 0 then 10
  else if moveHome ∧ a.hom.runs then 4
  else if code = 4 ∧ a.prof.phase ≠ .idle then 8
  else if (code = 1 ∨ (code = 4 ∧ c.hom.hseq ≠ 5)) ∧ a.keep.unpowered then 5
  else if code = 1 ∧ a.hall.posq ≠ .valid then 2
  else if code = 1 ∧ (target < -200000 ∨ 200000 < target) then 6
  else if code = 1 ∧ c.hom.lsstop ≠ 0 ∧
      (let neg := F32.lt (tenth target) a.prof.p
       (vget a.lim {} (if neg == c.closeNeg then 1 else 0)).deb = true) then 3
  else 0

/-- What an accepted command does (R150 to R152, R154, R168, R200): a STOP in a snowplough has no effect, a QSTOP acts as
R200 says, a MOVE or HOME ends OSTATE 6. -/
def AxisSt.axDo (c : AxisCfg) (a : AxisSt) (code : Nat) (target : Int) : AxisSt :=
  let snow := a.obs.ostate == .braking || a.obs.ostate == .relief
  let unhold := fun (x : AxisSt) =>
    let st := if x.obs.ostate == .held then .notEval else x.obs.ostate
    { x with obs := { x.obs with ostate := st, atPlat := false } }
  if code = 1 then
    let a := unhold a
    { a with prof := a.prof.moveCmd c.mot target, learn := { a.learn with cur := [], spoilt := false } }
  else if code = 2 then
    if snow then a else if a.hom.runs then a.homAbort 5 else { a with prof := a.prof.stopCmd }
  else if code = 3 then (if a.hom.runs then a.homAbort 5 else a.controlledStop)
  else if code = 4 then (unhold a).homeCmd c
  else a

/-! ### Acceleration values (R156, R157) -/

/-- The values of the registers come into force. -/
def ProfSt.use (q : ProfSt) (c : MotCfg) : ProfSt :=
  { q with accUse := c.acc, decUse := c.dec, jerkUse := c.jerk, qdecUse := c.qdec }

/-- At rest the values of the registers are in force, unless a write waits for the next move (R156). -/
def AxisSt.restValues (c : MotCfg) (a : AxisSt) : AxisSt :=
  if a.prof.phase == .idle && !a.prof.accDefer then { a with prof := a.prof.use c } else a

/-- A write of AXIS_ACC or AXIS_JERK that takes effect, judged against the profile; `c` holds the new register contents. -/
def AxisSt.accJudge (c : MotCfg) (a : AxisSt) : AxisSt :=
  let q := a.prof
  let use := q.use c
  let snow := a.obs.ostate == .braking || a.obs.ostate == .relief
  let q' :=
    if q.accDefer then q
    else if q.phase == .stopping || snow then { q with accDefer := true }
    else if q.phase == .decel then
      let r := F32.mul (F32.sub q.ptgt q.p) (sgnF q.neg)
      if F32.le (dstop q.scurve c.dec c.jerk q.v q.a) r then { use with phase := .cruise } else { q with accDefer := true }
    else use
  { a with prof := q' }

/-! ### Limit inputs (R166, R167) -/

/-- One sample of one input: the run of equal samples and, at a raw edge, the captured TRACK. -/
def LimIn.sample (i : LimIn) (v : Bool) (frame : Nat) (track : BitVec 32) : LimIn :=
  let edge := i.sampled && v != i.raw
  let start := edge || !i.sampled
  { i with
    raw := v
    sampled := true
    run := if start then 1 else i.run + 1
    cap := if start then track else i.cap
    edges := (if edge then frame :: i.edges else i.edges).filter (fun e => frame < e + 2000)
    tripped := false
    chatted := false }

/-- DEBIN is due to change (R166). -/
def LimIn.changeDue (i : LimIn) : Bool := i.sampled && i.raw != i.deb && 80 ≤ i.run

/-- DEBIN changes (R166). -/
def LimIn.change (i : LimIn) : LimIn := { i with deb := i.raw, tripped := true }

/-- More than 8 raw edges within 2000 frames, the newest in this one (R167). -/
def LimIn.chatDue (i : LimIn) (frame : Nat) : Bool := i.edges.head? == some frame && 8 < i.edges.length

/-- CHAT is set (R167). -/
def LimIn.setChat (i : LimIn) : LimIn := { i with chat := true, chatted := true }

/-- A debounced change to 1 in this tick: a trip (R168). -/
def LimIn.trips (i : LimIn) : Bool := i.tripped && i.deb

/-- An event of AFLAGS bit i (R442). -/
def AxisSt.mark (a : AxisSt) (i : Nat) : AxisSt := { a with out := { a.out with evts := a.out.evts ||| 2 ^ i } }

/-- The SK1120 limit-switch stop (R172): it acts on the trip of the limit in the direction of motion. -/
def AxisSt.limitStop (c : AxisCfg) (a : AxisSt) : AxisSt :=
  let i := if a.prof.neg == c.closeNeg then 1 else 0
  let snow := a.obs.ostate == .braking || a.obs.ostate == .relief
  if c.hom.lsstop = 0 ∨ a.hom.runs = true ∨ a.prof.phase = .idle ∨ snow = true ∨ (vget a.lim {} i).trips = false then a
  else if c.hom.lsstop = 1 then
    { a.mark 5 with prof := { a.prof.rest (mmOfPi c.hall.cpmm a.edge.pi) with lstop := true, again := none } }
  else { a.mark 5 with prof := { a.prof.stop c.hom.lsdec false .stopping with lstop := true } }

/-- DEBIN of input i changes, and the limit-switch stop follows (R166, R172). -/
def AxisSt.debChange (c : AxisCfg) (a : AxisSt) (i : Nat) : AxisSt :=
  AxisSt.limitStop c { a with lim := vmod a.lim i LimIn.change }

/-- The brick inputs of one tick (R166, R167, R172); a missed frame is no sample. -/
def AxisSt.limitsTick (c : AxisCfg) (a : AxisSt) (din : Option Nat) : AxisSt :=
  match din with
  | none => { a with lim := a.lim.map fun i => { i with tripped := false, chatted := false } }
  | some d =>
    let f := a.frames + 1
    let one := fun (i : LimIn) (v : Bool) =>
      let i := i.sample v f a.hall.track
      let i := if i.changeDue then i.change else i
      if i.chatDue f then i.setChat else i
    AxisSt.limitStop c { a with
      frames := f
      lim := a.lim.mapFinIdx fun k i _ => one i (bitOf d k) }

/-! ### Homing (R168 to R171) -/

/-- The selected sequence is of stop type (R168). -/
def HomSt.stopType (h : HomSt) : Bool := h.seq == 1 || h.seq == 2

/-- The limit that aborts the sequence with fault 1, and its reference input (R168). -/
def HomSt.opposite (h : HomSt) : Nat := if h.seq % 2 = 1 then 0 else 1
def HomSt.refInput (h : HomSt) : Nat := if h.seq = 3 then 1 else 0

/-- HTMO has run out (R168); `ticks` counts the ticks of the sequence from the one in which HOME took effect. -/
def AxisSt.homTimeoutDue (c : AxisCfg) (a : AxisSt) : Bool :=
  (a.hom.st == .backOff || a.hom.st == .approach) && c.hom.htmo * 40000 < a.hom.ticks

/-- The back-off has gone HBACK without a release (R170). -/
def AxisSt.backOffDue (c : AxisCfg) (a : AxisSt) : Bool :=
  a.hom.st == .backOff && a.prof.motion == .homeRun &&
    c.hom.hback * c.hall.cpmm < (a.hall.track.toInt - a.hom.backFrom).natAbs * 100

/-- The stop after a homing event or a back-off, at DEC (R169, R170). -/
def ProfSt.homStop (q : ProfSt) : ProfSt := { q.stop q.decUse false .decel with motion := .homeStop }

/-- Homing of one tick (R168 to R171), in the order of R178. An event of the tick in which HTMO ends still counts; a stop
sequence, whose event is a stall, is timed after the stall is judged. -/
def AxisSt.homTick (c : AxisCfg) (a : AxisSt) : AxisSt :=
  if !a.hom.runs then a
  else
    let a := { a with hom := { a.hom with ticks := a.hom.ticks + 1 } }
    let ref := vget a.lim {} a.hom.refInput
    if (vget a.lim {} 0).chatted || (vget a.lim {} 1).chatted then a.homAbort 2
    else if (vget a.lim {} a.hom.opposite).trips then a.homAbort 1
    else if a.hfltDue c.hall then a.homAbort 4
    else if a.hom.st == .approach && !a.hom.stopType && ref.trips then
      let a := a.homEvent c ref.cap.toInt
      { a with hom := { a.hom with st := .settle }, prof := a.prof.homStop }
    else if !a.hom.stopType && a.homTimeoutDue c then a.homAbort 3
    else if a.hom.st == .backOff then
      if a.prof.phase == .idle then
        { a with
          hom := { a.hom with st := .approach }
          prof := a.prof.begin c.mot .homeRun (if a.hom.seq = 3 then c.closeNeg else !c.closeNeg) false a.prof.p }
      else if ref.tripped && !ref.deb then { a with prof := a.prof.homStop }
      else if a.backOffDue c then a.homAbort 7
      else a
    else a

/-- HTMO of a stop sequence, after the stall of the tick (R168). -/
def AxisSt.homLate (c : AxisCfg) (a : AxisSt) : AxisSt :=
  if a.hom.stopType && a.homTimeoutDue c then a.homAbort 3 else a

/-- HDONE in the tick in which the profile of a reference sequence reaches rest (R169). -/
def AxisSt.homRest (a : AxisSt) : AxisSt :=
  if a.hom.st == .settle && a.prof.phase == .idle then { a with hom := { a.hom with st := .done, hdone := true } } else a

/-! ### Amplitude and address (R158 to R162) -/

/-- LEAD of a brushless axis (R158). -/
def leadOf (c : AxisCfg) (v4 : Int) : Int :=
  let es : Int := if c.hall.hdir then -1 else 1
  clampI (-(c.mot.leadmax : Int)) c.mot.leadmax (roundAway (es * v4 * c.hall.cpmm * c.mot.tlead * 4096) 6000000000)

/-- ADDR of a brushless axis (R158). -/
def brushlessAddr (c : AxisCfg) (elpos : Nat) (lead : Int) (tdNeg : Bool) : Nat :=
  let es : Int := if c.hall.hdir then -1 else 1
  (((elpos * 8 / 3 : Nat) + lead + es * (if tdNeg then -1 else 1) * 1024) % 4096).toNat

/-- Ceiling of the amplitude (R161). -/
def aceilOf (c : AxisCfg) (a : AxisSt) : Nat :=
  let x := if c.mot.kforce = 0 then c.mot.amax else min c.mot.amax (a.obs.flim * 4095 / c.mot.kforce)
  if a.hom.runs && a.hom.stopType then min x c.hom.hceil else x

/-- STEPU (R159): 32-bit two's complement. -/
def stepuOf (pr : Int) : Int := (BitVec.ofInt 32 (pr * 4)).toInt

/-- A stepper with no sensor (R145, R159). -/
def AxisCfg.blind (c : AxisCfg) : Bool := c.stepper && c.hall.hmode == 2

/-- Tracking of a stepper with no sensor (R145, R159), before the zones read its position. -/
def AxisSt.blindTick (c : AxisCfg) (a : AxisSt) : AxisSt :=
  if !c.blind then a else
  let track := stepuOf (prOf c.hall.cpmm a.prof.p) / 1024
  let pi := 256 * track
  let v := match a.edge.piHist with
    | [_, _, _, p4] => v4Of c.hall.cpmm (pi - p4)
    | _ => 0
  { a with
    hall := { a.hall with track := BitVec.ofInt 32 track, spd := v, v4 := v }
    edge := { a.edge with pi := pi, piHist := (pi :: a.edge.piHist).take 4 } }

/-- Amplitude, direction, address and the stall run of one tick (R158 to R162). -/
def AxisSt.ampTick (c : AxisCfg) (a : AxisSt) : AxisSt :=
  let pr := prOf c.hall.cpmm a.prof.p
  let blind := c.blind
  let e := pr - (if c.stepper then 256 * a.hall.track.toInt else a.edge.pi)
  let moving := a.prof.phase != .idle || a.hom.st == .approach
  let ff : Int := if moving then (if a.prof.neg then -1 else 1) * (c.mot.abase : Int) else 0
  let u := ff + (c.mot.kboost : Int) * e / 65536
  let ceil := aceilOf c a
  let mag := u.natAbs
  let amp :=
    if blind then min ceil (if moving then c.mot.abase else c.mot.ahold)
    else if moving then min ceil mag
    else min ceil (max c.mot.ahold mag)
  let td := if u < 0 then true else if 0 < u then false else if moving then a.amp.tdNeg else a.prof.lastNeg
  let sat := !blind && ceil ≤ mag
  let lead := if c.stepper then 0 else leadOf c a.hall.v4
  let stepu := if c.stepper then stepuOf pr else 0
  let run := if sat && a.hall.v4.natAbs ≤ c.mot.vstall then a.amp.stallRun + 1 else 0
  { a with amp := { a.amp with
    pr := pr
    ferr := e
    amp := amp
    aceil := ceil
    tdNeg := td
    sat := sat
    stallRun := run
    stallNow := false
    stallDone := 0 < run && a.amp.stallDone
    inpos := a.prof.phase == .idle && e.natAbs ≤ 256 * c.mot.inposw
    addr := if c.stepper then (stepu % 4096).toNat else brushlessAddr c a.edge.elpos lead td
    lead := lead
    stepu := stepu } }

/-- The run of R162 has NSTALL ticks, and no stall has been confirmed in it. -/
def AxisSt.stallDue (c : AxisCfg) (a : AxisSt) : Bool :=
  !c.blind && 0 < c.mot.nstall && decide (c.mot.nstall ≤ a.amp.stallRun) && !a.amp.stallDone

/-- A stall is confirmed (R162): homing takes it or aborts, the obstacle model decides on a closing move, a snowplough
runs on, and any other move makes a controlled stop. -/
def AxisSt.stallAct (c : AxisCfg) (a : AxisSt) : AxisSt :=
  let a := { a.mark 0 with amp := { a.amp with stall := true, stallNow := true, stallDone := true } }
  let snow := a.obs.ostate == .braking || a.obs.ostate == .relief
  if a.hom.runs then
    if !a.hom.stopType then a.homAbort 9
    else
      let a := a.homEvent c a.hall.track.toInt
      { a with
        prof := a.prof.rest (mmOfPi c.hall.cpmm a.edge.pi)
        hom := { a.hom with st := .done, hdone := true } }
  else if a.prof.phase == .idle || snow || closingNow c a then a
  else a.controlledStop

/-! ### KEEP (R173, R174) -/

/-- The brick reports its power stage unpowered (R173, R171, R208). -/
def AxisSt.powerLost (c : AxisCfg) (a : AxisSt) : AxisSt :=
  if a.keep.unpowered then a
  else
    let a := { a with keep := { a.keep with unpowered := true, lost := some (a.hall.still && c.mot.keep) } }
    let a := if a.hom.runs then a.homAbort 6 else a
    if a.obs.ostate == .braking || a.obs.ostate == .relief then
      { a with
        prof := a.prof.rest (mmOfPi c.hall.cpmm a.edge.pi)
        obs := { a.obs with ostate := .held, commitDue := none }
        out := { a.out with yield4 := true } }
    else a

/-- The power stage returns with a latched Hall state (R173, R174). -/
def AxisSt.powerBack (c : AxisCfg) (a : AxisSt) (hst : Nat) (latch : Time) : AxisSt :=
  if !a.keep.unpowered then a
  else
    let done := fun (x : AxisSt) (kres : Nat) =>
      { x with keep := { x.keep with unpowered := false, lost := none, kres := kres } }
    let sec := sectorOf c.hall.hmode hst
    let lower := done { a with hall := { a.hall with
      sector := if sec.isSome then sec else a.hall.sector, posq := a.hall.posq.lower } } 3
    if a.keep.lost == some true then
      if c.hall.hmode = 2 then done a 1
      else
        match sec, a.hall.sector with
        | some new, some last =>
          match movedBy c.hall.hmode last new with
          | .none => done a 1
          | .count 1 asc => done (a.untimed c.hall 1 asc new latch) 2
          | _ => lower
        | _, _ => lower
    else
      done { a with
        hall := { a.hall with posq := .invalid, sector := if sec.isSome then sec else a.hall.sector }
        edge := { a.edge with seen := false, f := 128, negForm := false, negOrder := false } } 4

/-! ### The end of a move under R253 -/

/-- A record showing SAFE or FLT ends the move at once at the measured position, and a homing run with fault 6 (R253,
R171); the doorway stops. -/
def AxisSt.brickStop (c : AxisCfg) (a : AxisSt) : AxisSt :=
  let moving := a.prof.phase != .idle
  let a := if a.hom.runs then a.homAbort 6 else a
  if !moving then a
  else
    let snow := a.obs.ostate == .braking || a.obs.ostate == .relief
    { a with
      prof := { a.prof.rest (mmOfPi c.hall.cpmm a.edge.pi) with again := none }
      obs := { a.obs with ostate := if snow then .held else a.obs.ostate, commitDue := none }
      out := { a.out with doorStop := true } }

end Sys2Proof.Machine
end

