-- ==== Sys2Proof/Machine/Obstacle.lean ====
section
/-! DEFINITION. Obstacle detection, the Schuss run-ahead, the snowplough and drag learning (chapter 6). -/

namespace Sys2Proof.Machine

/-! ### Geometry and limits (R180, R182, R188) -/

/-- The sign of the move direction. -/
def AxisSt.s (a : AxisSt) : Int := if a.prof.neg then -1 else 1

/-- The move direction is the closing (or extending) one of CLDIR. -/
def dirClosing (c : AxisCfg) (a : AxisSt) : Bool := a.prof.neg == c.obs.clneg

/-- c of R182. -/
def closeSign (c : AxisCfg) : Int := if c.obs.clneg then -1 else 1

/-- G, the remaining gap (R182). -/
def gapOf (c : AxisCfg) (a : AxisSt) : Int := closeSign c * (c.obs.closepos - a.pos c.hall)

/-- ZONE of a gap (R182). A step has no seal and no gap zone: R202 demands SEALZ, SEALGAP and EDGEGAP 0 of it, and names
contacts that only an evaluated extending move can have (DEDUCED, log entry 66). -/
def zoneOf (c : AxisCfg) (g : Int) : Nat := if c.isStep then 0 else if (c.obs.sealz : Int) < g then 0 else if (c.obs.sealgap : Int) < g then 1 else 2

/-- The cell of a track position for a map span (R180). -/
def cellAt (xspan : Nat) (track : Int) : Nat := if xspan = 0 then 0 else (clampI 0 63 (track * 64 / (xspan : Int))).toNat

/-- The cell of a track position of an axis (R180). -/
def cellOf (c : AxisCfg) (track : Int) : Nat := cellAt c.snow.xspan track

/-- The drag entry of a cell and direction. -/
def dragOf (c : AxisCfg) (cell : Nat) (closing : Bool) : Nat :=
  let d := vget c.dmap {} cell
  if closing then d.drc else d.dro

/-- The snowplough owns the profile (R200). -/
def AxisSt.snow (a : AxisSt) : Bool := a.obs.ostate == .braking || a.obs.ostate == .relief

/-- FLIM (R182). -/
def flimOf (c : AxisCfg) (a : AxisSt) : Nat :=
  let cell := cellOf c a.hall.track.toInt
  let closing := dirClosing c a
  let f :=
    if a.snow then c.obs.fbrk
    else if a.hom.runs then c.obs.fmaxc
    else if a.prof.phase == .idle then c.obs.fmaxs
    else if closing then (if zoneOf c (gapOf c a) = 0 then c.obs.fmaxc else c.obs.fmaxs) + dragOf c cell true
    else c.obs.fmaxo + dragOf c cell false
  min 65535 f

/-- ZONE and FLIM of this tick (R182). -/
def AxisSt.zoneTick (c : AxisCfg) (a : AxisSt) : AxisSt :=
  { a with obs := { a.obs with zone := zoneOf c (gapOf c a), flim := flimOf c a } }

/-- The speed limit of a closing move at a gap, where one acts (R188, R189): VEDGEF acts outside the seal zone. -/
def capAt (c : AxisCfg) (closing edgeflt : Bool) (g : Int) : Option Nat :=
  if !closing then none
  else match zoneOf c g with
    | 0 => if edgeflt then some c.snow.vedgef else none
    | 1 => some c.obs.vseal
    | _ => some (if edgeflt then min c.obs.vseal c.snow.vedgef else c.obs.vseal)

/-- The speed limit register in force for a motion (R153, R168, R200). A snowplough brake has none. -/
def vregOf (c : AxisCfg) (a : AxisSt) : Nat :=
  if a.prof.motion == .homeRun || a.prof.motion == .homeStop then c.hom.hspd
  else if a.obs.ostate == .relief then c.snow.spvr
  else if a.obs.ostate == .braking then 65535
  else c.mot.vmax

/-- The profile step of the tick (R153, R188, R189), and whether a move reached its target in it. -/
def AxisSt.profileTick (c : AxisCfg) (a : AxisSt) : AxisSt × Bool :=
  let cap := if a.snow || a.hom.runs then none else capAt c (dirClosing c a) a.obs.flags.edgeflt (gapOf c a)
  let q := profTick c.mot (vregOf c a) cap { a.prof with pdone := false }
  ({ a with prof := { q with pdone := a.prof.pdone || q.pdone, reached := q.pdone } }, q.pdone)

/-! ### The force model (R179 to R181) -/

/-- IQ (R179) from a table read through W, the address in force at the latch, the direction and the currents. -/
def iqOf (W : Nat → Int) (three : Bool) (addr : Nat) (tdNeg : Bool) (ia ib : Int) : Int :=
  let ts : Int := if tdNeg then -1 else 1
  let wa := W (addr % 4096)
  if three then
    let wb := W ((addr + 2731) % 4096)
    truncDiv (ts * 2 * (ia * wa + ib * wb + (-ia - ib) * (-wa - wb))) (3 * 8 * 32767)
  else truncDiv (ts * (ia * wa + ib * W ((addr + 3072) % 4096))) (8 * 32767)

/-- A force or an excess as its register holds it: it stops at ±32,767 (R206). -/
def c16 (n : Int) : Int := clampI (-32767) 32767 n

/-- FINER: the inertia term (R180). -/
def finerOf (c : AxisCfg) (a : AxisSt) : Int := truncDiv ((c.snow.mleaf : Int) * a.prof.aref) 1000

/-- The measured force before its limit (R179). -/
def festOf (c : AxisCfg) (a : AxisSt) : Int := truncDiv (a.obs.iq * (c.mot.kforce : Int)) 4095

/-- FEST, FEXP and E of this tick (R179 to R181). -/
def AxisSt.forceTick (c : AxisCfg) (a : AxisSt) : AxisSt :=
  let fest := festOf c a
  let fexp := if a.prof.phase == .idle then 0
    else finerOf c a + a.s * dragOf c (cellOf c a.hall.track.toInt) (dirClosing c a)
  { a with obs := { a.obs with fest := c16 fest, fexp := c16 fexp, e := c16 (a.s * (fest - fexp)) } }

/-- A confirm may come from EDGE, STALL, CURT or PAIR in this tick (R187): the axis moves, no homing sequence runs, and
no snowplough is in progress. The tick in which a move reaches its target is one of its ticks still (R208). -/
def AxisSt.acts (a : AxisSt) : Bool :=
  (a.prof.phase != .idle || a.prof.reached) && !a.hom.runs && !(a.snow || a.obs.ostate == .held)

/-- The tick is evaluated (R181). -/
def AxisSt.evaluated (c : AxisCfg) (a : AxisSt) : Bool :=
  let closing := dirClosing c a
  a.acts && (if closing then c.obs.oben else c.obs.obeno) && !(closing && zoneOf c (gapOf c a) == 2)

/-- FT (R185). -/
def ftOf (c : AxisCfg) (a : AxisSt) : Nat :=
  if !dirClosing c a then c.obs.fthro else if zoneOf c (gapOf c a) = 0 then c.obs.fthr else c.obs.fthrs

/-! ### Fitting (R186) -/

/-- KH_h, never 0. -/
def khOf (c : AxisCfg) (h : Nat) : Nat := max 1 (vget c.snow.kh 1 h)

/-- xc_h (R186), in 1/256 count. -/
def xcOf (c : AxisCfg) (a : AxisSt) (h : Nat) : Int :=
  a.obs.piex - a.s * roundAway (a.obs.eex * 256 * c.hall.cpmm) ((khOf c h * 100 : Nat) : Int)

/-- fp_h (R186), in 0.1 N. -/
def fpOf (c : AxisCfg) (a : AxisSt) (h : Nat) : Int :=
  let dh := a.s * (a.edge.pi - xcOf c a h)
  if 0 < dh ∧ 0 < c.hall.cpmm then truncDiv ((khOf c h : Int) * dh * 100) (256 * (c.hall.cpmm : Int)) else 0

/-- One evaluated tick of the fit: RES of every fitted hypothesis (R186). -/
def AxisSt.fitTick (c : AxisCfg) (a : AxisSt) : AxisSt :=
  { a with res := a.res.mapFinIdx fun h r _ =>
      if vget a.fit false h then
        BitVec.ofNat 32 (min 0xFFFFFFFF (r.toNat + (a.obs.e - fpOf c a h).natAbs))
      else r }

/-- KEST and KVALID (R186): KVALID stays set once the travel of a run has reached 0.5 mm. -/
def AxisSt.kestTick (c : AxisCfg) (a : AxisSt) : AxisSt :=
  let trav := a.s * (a.edge.pi - a.obs.piex)
  let k := if 0 < trav then truncDiv ((a.obs.e - a.obs.eex) * 256 * c.hall.cpmm) (100 * trav) else 0
  { a with obs := { a.obs with
    kest := (clampI 0 0xFFFF k).toNat
    kvalid := a.obs.kvalid || decide (128 * (c.hall.cpmm : Int) ≤ 100 * trav) } }

/-! ### Passes and their eligibility (R190 to R194) -/

/-- Ticks from an anchor to t. -/
def ticksSince (t anchor : Nat) : Nat := (t + 2 ^ 32 - anchor % 2 ^ 32) % 2 ^ 32

/-- The predicted contact force of a stage end, in 0.1 N. -/
def StageRec.f01 (r : StageRec) : Nat := min 0xFFFF (F32.trunc (F32.mul r.fc (F32.ofInt 10))).toNat

/-- The hypothesis is ready at tick t (R193). -/
def Hyp.ready (c : AxisCfg) (h : Hyp) (t : Nat) : Bool :=
  h.hq && (match h.done with
    | some p => ticksSince t p.anchor ≤ c.snow.passmax
    | none => false)

/-- The stage of the newest complete pass that a commit in tick t takes, and its record: none where the hypothesis is not
eligible (R193, R196). Stage k, from 1. -/
def Hyp.eligible (c : AxisCfg) (h : Hyp) (t : Nat) : Option (Nat × StageRec) :=
  match h.done with
  | some p =>
    let k := (ticksSince t p.anchor + p.stagel - 1) / p.stagel
    if h.ready c t && 1 ≤ k && k ≤ 16 then (p.stages[k - 1]?).map (fun r => (k, r)) else none
  | none => none

/-- The stage ends after tick t and within PRELOOK, as (ticks from t, force) (R187, R206). -/
def Pass.ahead (p : Pass) (t look : Nat) : List (Nat × Nat) :=
  let age := ticksSince t p.anchor
  (p.stages.zipIdx.map (fun r => ((r.2 + 1) * p.stagel, r.1.f01))).filterMap fun (r : Nat × Nat) =>
    if age < r.1 && r.1 ≤ age + look then some (r.1 - age, r.2) else none

/-- Of some hypotheses, the one with the least key; the lower number on equal keys. -/
def pickLeast (key : Nat → Nat) : List Nat → Option Nat
  | [] => none
  | h :: hs =>
    match pickLeast key hs with
    | some g => if key g < key h then some g else some h
    | none => some h

/-- PRED (R187): the ready fitted hypothesis of lowest RES predicts FCONF within PRELOOK. -/
def predHit (c : AxisCfg) (a : AxisSt) (hyps : Vector Hyp 4) (t : Nat) : Bool :=
  let cand := idxs 4 fun h => vget a.fit false h && (vget hyps {} h).ready c t
  match pickLeast (fun h => (vget a.res 0 h).toNat) cand with
  | some h =>
    match (vget hyps {} h).done with
    | some p => (p.ahead t c.obs.prelook).any fun r => c.obs.fconf ≤ r.2
    | none => false
  | none => false

/-! ### From exceedance to confirm (R185 to R188, R202) -/

/-- The state of the sensitive edge and of the curtain, as the safety core reports them (R189): bit 0 active or interrupted,
bit 1 faulted. Curtains are not applied to a step (R202). -/
def AxisSt.sensors (c : AxisCfg) (a : AxisSt) (edge curt : Nat) : AxisSt :=
  { a with obs := { a.obs with flags := { a.obs.flags with
    edge := c.obs.edgeen && bitOf edge 0
    edgeflt := c.obs.edgeen && bitOf edge 1
    curt := c.obs.curten && !c.isStep && bitOf curt 0 } } }

/-- A run of exceedances ends: the axis is no longer pre-armed. -/
def AxisSt.endRun (a : AxisSt) (st : OState) : AxisSt :=
  { a with obs := { a.obs with ostate := st, run := 0, clr := 0 }, fit := Vector.replicate 4 false }

/-- Pre-arm (R185): the fit begins in this tick with the hypotheses kept (R186), and the passes being built are squashed
(R195). -/
def AxisSt.preArm (c : AxisCfg) (a : AxisSt) (hyps : Vector Hyp 4) : AxisSt :=
  AxisSt.fitTick c { a with
    obs := { a.obs with ostate := .preArmed, armed := true, emax := a.obs.e, clr := 0 }
    res := Vector.replicate 4 0
    fit := hyps.map (·.hq)
    out := { a.out with squash := max a.out.squash 1 } }

/-- The run has reached NPRE exceedances (R185). -/
def AxisSt.preArmDue (c : AxisCfg) (a : AxisSt) : Bool := a.obs.ostate == .exceeding && c.obs.npre ≤ a.obs.run

/-- NCLR ticks at or below half the threshold have passed (R185). -/
def AxisSt.withdrawDue (c : AxisCfg) (a : AxisSt) : Bool := a.obs.ostate == .preArmed && c.obs.nclr ≤ a.obs.clr

/-- Pre-arm is withdrawn (R185, R195). -/
def AxisSt.withdraw (a : AxisSt) : AxisSt :=
  let a := (a.endRun .watching).mark 4
  { a with obs := { a.obs with flags := { a.obs.flags with prewd := true } }, out := { a.out with squash := 2 } }

/-- A tick that is not evaluated: OSTATE reads 7 and the passes are squashed (R181, R195). -/
def AxisSt.unevaluated (a : AxisSt) : AxisSt :=
  if a.snow || a.obs.ostate == .held || a.obs.ostate == .notEval then a
  else { a.endRun .notEval with out := { a.out with squash := 2 } }

/-- One evaluated tick of R185: an exceedance or not. -/
def AxisSt.exceedTick (c : AxisCfg) (a : AxisSt) (hyps : Vector Hyp 4) : AxisSt :=
  let ft := ftOf c a
  let exc := decide ((ft : Int) < a.obs.e)
  let a := if exc then { a with learn := { a.learn with spoilt := true } } else a
  if a.obs.ostate == .preArmed then
    let a := { a with obs := { a.obs with
      clr := if 2 * a.obs.e ≤ (ft : Int) then a.obs.clr + 1 else 0 } }
    let a := (a.fitTick c).kestTick c
    if a.withdrawDue c then a.withdraw else a
  else if exc then
    let first := a.obs.ostate != .exceeding || a.obs.run == 0
    let a := { a with obs := { a.obs with
      ostate := .exceeding
      run := if first then 1 else a.obs.run + 1
      xc := if first then a.hall.track else a.obs.xc
      piex := if first then a.edge.pi else a.obs.piex
      eex := if first then a.obs.e else a.obs.eex
      kvalid := !first && a.obs.kvalid } }
    let a := a.kestTick c
    if a.preArmDue c then a.preArm c hyps else a
  else a.endRun .watching

/-- The sources of R187 present in this tick, after its evaluation. -/
def confirmSources (c : AxisCfg) (a : AxisSt) (hyps : Vector Hyp 4) (t : Nat) : Nat :=
  let g := gapOf c a
  let zone := zoneOf c g
  let closing := dirClosing c a
  let ev := a.evaluated c
  let act := a.acts
  let thr := ev && decide ((c.obs.fconf : Int) ≤ a.obs.e)
  let pred := ev && a.obs.ostate == .preArmed && c.obs.preden && c.obs.prelook != 0 && (!closing || zone == 0) &&
    predHit c a hyps t
  let edge := act && closing && a.obs.flags.edge && (c.isStep || decide ((c.obs.edgegap : Int) < g))
  let stall := act && closing && a.amp.stallNow && zone != 2
  let curt := act && closing && a.obs.flags.curt && decide ((c.snow.curtgap : Int) < g) && zone != 2
  pack [(1, b2n thr), (1, b2n pred), (1, b2n edge), (1, b2n stall), (1, b2n curt)]

/-- The end of a move at rest where it stands (R188, R202). -/
def AxisSt.standStill (c : AxisCfg) (a : AxisSt) : AxisSt :=
  { a with prof := { a.prof.rest (mmOfPi c.hall.cpmm a.edge.pi) with again := none } }

/-- A confirm of a step is platform contact (R202). -/
def platformContact (c : AxisCfg) (a : AxisSt) (src : Nat) : Bool :=
  c.isStep && bitOf src 2 == false && bitOf src 4 == false && bitOf src 5 == false &&
    decide ((c.snow.stepmin : Int) ≤ closeSign c * (a.pos c.hall - c.obs.closepos)) &&
    (decide (c.snow.kplat ≤ a.obs.kest) || !a.obs.kvalid)

/-- Platform contact ends the move (R202). It is a confirm: CONFSRC and CONFT take it (R187, R206). -/
def AxisSt.platform (c : AxisCfg) (a : AxisSt) (src : Nat) (gate : Word) : AxisSt :=
  let a := ((a.standStill c).endRun .notEval).mark 1
  { a with
    obs := { a.obs with atPlat := true, flags := { a.obs.flags with
      plat := true, platpos := BitVec.ofInt 32 (a.pos c.hall), confsrc := src, conft := gate, kestc := a.obs.kest } }
    out := { a.out with squash := 2 } }

/-- A confirm (R187): OBST, CONFSRC and CONFT, and the commit due at the next gate. OSTATE shows 3 in an evaluated tick.
Bit 6 of what waits says that the axis was pre-armed. -/
def AxisSt.confirm (c : AxisCfg) (a : AxisSt) (src : Nat) (gate : Word) : AxisSt :=
  let pre := a.obs.ostate == .preArmed
  { a with
    obs := { a.obs with
      ostate := if a.evaluated c then .confirmed else .notEval
      run := 0
      clr := 0
      commitDue := some (src + (if pre then 64 else 0))
      flags := { a.obs.flags with obst := true, confsrc := src, conft := gate, kestc := a.obs.kest } }
    learn := { a.learn with spoilt := true } }

/-- EMAX: the highest E since the last pre-arm (R185, R206). -/
def AxisSt.emaxTick (a : AxisSt) : AxisSt :=
  if a.obs.armed then { a with obs := { a.obs with emax := max a.obs.emax a.obs.e } } else a

/-- Evaluation and confirm of one tick, after amplitude and address (R181, R185, R187, R188, R202). -/
def AxisSt.obstacleTick (c : AxisCfg) (a : AxisSt) (hyps : Vector Hyp 4) (t : Nat) (gate : Word) : AxisSt :=
  let a := a.emaxTick
  let a := if a.evaluated c then a.exceedTick c hyps else a.unevaluated
  if a.acts && dirClosing c a && a.amp.stallNow && zoneOf c (gapOf c a) == 2 then
    let a := (a.standStill c).unevaluated.mark 3
    { a with obs := { a.obs with flags := { a.obs.flags with sealstop := true } } }
  else
    let src := confirmSources c a hyps t
    if src = 0 then a
    else if platformContact c a src then a.platform c src gate
    else a.confirm c src gate

/-! ### The snowplough (R192, R198 to R201) -/

/-- A snowplough record. -/
structure Snow where
  spdec : Nat
  fpk : Nat
  reld : Nat
  pko : Bool
  deriving DecidableEq, Repr

/-- The left side of the rule of R192, in N. -/
def snowLeft (fc0 v0 kh : F32) (dec : Nat) : F32 :=
  F32.add fc0 (F32.mul kh (F32.add (F32.mul (F32.mul (F32.ofInt 2) v0) dtF)
    (F32.div (F32.mul v0 v0) (F32.mul (F32.ofInt 2) (F32.ofInt dec)))))

/-- The smallest SPDEC from dec on, in steps of 100 up to top, that keeps the rule; none where none does. -/
def snowSearch (fc0 v0 kh lim : F32) (top : Nat) : Nat → Nat → Option Nat
  | 0, _ => none
  | fuel + 1, dec =>
    if top < dec then none
    else if F32.le (snowLeft fc0 v0 kh dec) lim then some dec
    else snowSearch fc0 v0 kh lim top fuel (dec + 100)

/-- The record of R192 from a start state and a lowest deceleration. -/
def snowOf (c : AxisCfg) (fc0 v0 kh : F32) (khReg least : Nat) : Snow :=
  let top := c.snow.spdmax
  let hit := snowSearch fc0 v0 kh (tenth c.obs.fpeak) top 100 least
  let dec := hit.getD top
  let fpk := min 0xFFFF (F32.trunc (F32.mul (snowLeft fc0 v0 kh dec) (F32.ofInt 10))).toNat
  { spdec := dec, fpk := fpk, pko := hit.isNone,
    reld := if c.isStep then c.snow.stepback else min 0xFFFF (fpk * 10 / max 1 khReg + c.snow.sprel) }

/-- v0 of the measured state, in mm/s (R198). -/
def v0Of (a : AxisSt) : F32 := tenth (max 0 (a.s * a.hall.v4))

/-- What a commit takes (R198, R199): the record, and the hypothesis and stage where one is the source. -/
def commitPick (c : AxisCfg) (a : AxisSt) (hyps : Vector Hyp 4) (t own : Nat) (pre : Bool) : Snow × Option (Nat × Nat) :=
  if own % 16 = 0 then
    ({ spdec := c.snow.spdmin, fpk := 0, reld := 0, pko := false }, none)
  else
    let el := fun h => (vget hyps {} h).eligible c t
    let pick :=
      if pre then pickLeast (fun h => (vget a.res 0 h).toNat) (idxs 4 fun h => vget a.fit false h && (el h).isSome)
      else pickLeast (fun h => match el h with
        | some r => 0x10000 - r.2.spdec
        | none => 0x10000) (idxs 4 fun h => (el h).isSome)
    match pick with
    | some h =>
      match el h with
      | some (k, r) =>
        let kh := F32.ofRat (khOf c h) 10
        (snowOf c (F32.ofRat a.obs.e 10) (v0Of a) kh (khOf c h) r.spdec, some (h, k))
      | none => ({ spdec := c.snow.spdmax, fpk := 0, reld := c.snow.sprel, pko := false }, none)
    | none =>
      let trav : Int := if pre ∧ 0 < c.hall.cpmm then
        truncDiv (max 0 (a.s * (a.edge.pi - a.obs.piex)) * 1000) (256 * (c.hall.cpmm : Int)) else 0
      ({ spdec := c.snow.spdmax, fpk := 0, pko := false,
         reld := if c.isStep then c.snow.stepback else min 0xFFFF (c.snow.sprel + trav.toNat) }, none)

/-- The partner's commit confirms this axis with PAIR (R187, R201). -/
def AxisSt.pairTakes (c : AxisCfg) (a : AxisSt) : Bool := a.prof.phase != .idle && a.acts && dirClosing c a

/-- A commit is due at this gate (R198, R201). -/
def AxisSt.commitNow (c : AxisCfg) (a : AxisSt) (pair : Bool) : Bool :=
  a.obs.commitDue.isSome || (pair && a.pairTakes c)

/-- The commit at start gate t (R198): `pair` that the partner commits at the same gate, `prev` the gate of the tick before.
Where the move had reached its target the brake has zero length (R208). -/
def AxisSt.commit (c : AxisCfg) (a : AxisSt) (hyps : Vector Hyp 4) (t : Nat) (pair : Bool) (prev : Word) : AxisSt :=
  let due := a.obs.commitDue.getD 0
  let own := due % 64
  let pre := a.obs.commitDue.isSome && 64 ≤ due
  let (w, took) := commitPick c a hyps t own pre
  let p := mmOfPi c.hall.cpmm a.edge.pi
  let v := if a.prof.phase == .idle then (0 : F32) else v0Of a
  let d := dstopTrap w.spdec v
  let a := (if w.pko then a.mark 2 else a).mark 6
  let fl := { a.obs.flags with
    obst := true
    confsrc := if pair then own ||| 32 else own
    conft := if a.obs.commitDue.isSome then a.obs.flags.conft else prev
    sel := (took.getD (0, 1)).1
    basesp := took.isNone
    stage := (took.getD (0, 1)).2 - 1
    pkover := a.obs.flags.pkover || w.pko
    obstcnt := satInc 0xFFFF a.obs.flags.obstcnt }
  { a with
    prof := { a.prof with
      phase := .stopping, motion := .brake, p := p, v := v, a := 0, scurve := false, stopDec := w.spdec, again := none
      ptgt := F32.add p (F32.mul (sgnF a.prof.neg) d) }
    obs := { a.obs with
      ostate := .braking, commitDue := none, run := 0, clr := 0, spdec := w.spdec, fpk := w.fpk, reld := w.reld,
      spNeg := a.prof.neg, flags := fl }
    fit := Vector.replicate 4 false
    learn := { a.learn with spoilt := true }
    out := { a.out with squash := 2, took := took } }

/-- The brake has come to rest: relief begins, or with RELD 0 the axis is held (R200). -/
def AxisSt.brakeEnd (a : AxisSt) : AxisSt :=
  if a.obs.ostate != .braking || a.prof.phase != .idle then a
  else if a.obs.reld = 0 then { a with obs := { a.obs with ostate := .held } }
  else
    let neg := !a.obs.spNeg
    { a with
      prof := { a.prof with
        phase := .accel, motion := .relief, v := 0, a := 0, neg := neg, lastNeg := neg, scurve := false, accUse := a.obs.spdec,
        decUse := a.obs.spdec, ptgt := F32.add a.prof.p (F32.mul (sgnF neg) (tenth a.obs.reld)) }
      obs := { a.obs with ostate := .relief } }

/-- The relief has come to rest: the axis is held (R200). -/
def AxisSt.reliefEnd (a : AxisSt) : AxisSt :=
  if a.obs.ostate == .relief && a.prof.phase == .idle then { a with obs := { a.obs with ostate := .held } } else a

/-- After the profile step: a brake without relief and a relief that came to rest end in the tick of their rest (R200). -/
def AxisSt.snowEnd (a : AxisSt) : AxisSt :=
  if a.obs.ostate == .braking && a.obs.reld == 0 then a.brakeEnd else a.reliefEnd

/-! ### Schuss (R190 to R197, R516) -/

/-- Hypothesis h is kept under HYPKEEP k (R197). -/
def kept (c : AxisCfg) (k h : Nat) : Bool := ((List.range k).map (fun i => fld c.snow.prio (2 * i) 2)).contains h

/-- HYPKEEP of a shed step (R122). -/
def hypkeep (step : Nat) : Nat := if step = 0 then 4 else if step = 1 then 2 else 1

/-- mm along the motion from 1/256 count. -/
def alongOf (c : AxisCfg) (a : AxisSt) (pi : Int) : F32 := mmOfPi c.hall.cpmm (a.s * pi)

/-- A pass anchored at start gate t (R190, R191, R516). -/
def newPass (c : AxisCfg) (a : AxisSt) (h t : Nat) : Pass :=
  let pre := a.obs.ostate == .preArmed
  let kf := F32.ofInt c.mot.kforce
  let d := F32.ofInt 40950
  let x := alongOf c a a.edge.pi
  let xc := if pre then alongOf c a (xcOf c a h) else x
  let kh := F32.ofRat (khOf c h) 10
  { anchor := t
    stagel := max 1 c.snow.stagel
    neg := a.prof.neg
    kh := kh
    khReg := khOf c h
    kb := F32.div (F32.mul (F32.mul (F32.ofRat c.mot.kboost 256) (F32.ofRat c.hall.cpmm 100)) kf) d
    ff := F32.div (F32.mul (F32.ofInt c.mot.abase) kf) d
    fceil := F32.div (F32.mul (F32.ofInt a.amp.aceil) kf) d
    m := F32.ofRat c.snow.mleaf 10000
    xc := xc
    x := x
    v := v0Of a
    drag := c.dmap.map fun z => if dirClosing c a then z.drc else z.dro
    xspan := c.snow.xspan
    cpmm := c.hall.cpmm
    fc := if pre then tenth (fpOf c a h) else 0
    ref := a.prof }

/-- drag(x) in N: the entry of the cell of x for the move direction, in the map of the anchor (R191, R516). -/
def passDrag (p : Pass) (x : F32) : F32 :=
  let r := F32.toRat (F32.mul (F32.mul (sgnF p.neg) x) (F32.ofRat p.cpmm 100))
  let track : Int := r.1 / (r.2 : Int)
  tenth ((vget p.drag 0 (cellAt p.xspan track) : Nat) : Int)

/-- One tick of a stage (R191). -/
def stageTick (c : AxisCfg) (edgeflt : Bool) (p : Pass) : Pass :=
  let g : Int := closeSign c * (c.obs.closepos - p.ref.pref)
  let ref := profTick c.mot c.mot.vmax (capAt c (p.ref.neg == c.obs.clneg) edgeflt g) p.ref
  let d := F32.sub p.x p.xc
  let fc := if F32.lt 0 d then F32.mul p.kh d else 0
  let ff := if ref.phase == .idle then (0 : F32) else p.ff
  let fd := F32.add ff (F32.mul p.kb (F32.sub (F32.mul (sgnF p.neg) ref.p) p.x))
  let fd := if F32.lt p.fceil fd then p.fceil else fd
  let v := F32.add p.v (F32.mul (F32.div (F32.sub (F32.sub fd (passDrag p p.x)) fc) p.m) dtF)
  let v := if F32.lt v 0 then (0 : F32) else v
  { p with ref := ref, v := v, x := F32.add p.x (F32.mul v dtF), fc := fc }

/-- n ticks of a stage. -/
def stageRun (c : AxisCfg) (edgeflt : Bool) : Nat → Pass → Pass
  | 0, p => p
  | n + 1, p => stageRun c edgeflt n (stageTick c edgeflt p)

/-- The next stage of a pass (R191, R192), or its fault (R196). -/
def Pass.stage (c : AxisCfg) (edgeflt : Bool) (p : Pass) (flt : Option PageFault) : Pass :=
  match flt with
  | some f => { p with fault := some f }
  | none =>
    let w := snowOf c p.fc p.v p.kh p.khReg c.snow.spdmin
    let q := stageRun c edgeflt p.stagel p
    { q with stages := q.stages ++
      [{ x := q.x, v := q.v, fc := q.fc, spdec := w.spdec, fpk := w.fpk, reld := w.reld, pko := w.pko }] }

/-- The pass has all its stages, or is truncated by a fault (R190, R196). -/
def Pass.isWhole (p : Pass) : Bool := 16 ≤ p.stages.length || p.fault.isSome

/-- A SCHUSS task (R190) computes one stage of the pass being built, where one is queued; the block takes it when the finish
line accepts the result (R113). -/
def Hyp.stage (c : AxisCfg) (edgeflt : Bool) (h : Hyp) (flt : Option PageFault) : Hyp :=
  match h.build with
  | some p => if h.stageDue && !p.isWhole then { h with work := some (p.stage c edgeflt flt) } else h
  | none => h

/-- The result of a stage is accepted (R113, R190): the next stage starts from its end, and a pass that is whole waits for the
merge of its last stage, whose task was started in a tick. -/
def Hyp.accept (h : Hyp) (started : Option Nat) : Hyp :=
  match h.work with
  | none => h
  | some p =>
    if p.isWhole then { h with work := none, stageDue := false, build := none, full := some p, fullFrom := started, fullIn := false }
    else { h with work := none, stageDue := false, build := some p }

/-- The merge of a stage in tick t (R190): with its last one, never in the tick in which its task started (R38), a pass is
complete. -/
def Hyp.merge (h : Hyp) (t : Nat) : Hyp := { h with fullIn := h.full.isSome && h.fullFrom != some t }

/-- The newest pass at a start gate (R190, R195): one that has merged takes the place of the older one, whose held-back fault is
lost with it. -/
def Hyp.renew (h : Hyp) : Hyp :=
  match h.full with
  | some p => if h.fullIn then { h with done := some p, full := none, fullIn := false } else h
  | none => h

/-- Held-back faults that go with the pass which a newer one replaces at this gate (R196). -/
def Hyp.lostFaults (h : Hyp) : Nat := if h.full.isSome && h.fullIn then b2n ((h.done.bind Pass.fault).isSome) else 0

/-- The passes of a hypothesis at start gate t (R190, R197): a pass whose last stage has merged becomes the newest complete
one, and the next task anchors a pass or goes on with one. -/
def Hyp.gate (c : AxisCfg) (a : AxisSt) (h : Hyp) (i t : Nat) (keep : Bool) : Hyp :=
  if !keep then { h.squash with hq := false }
  else
    let h := { h.renew with hq := true, work := none }
    let ev := a.obs.ostate == .watching || a.obs.ostate == .exceeding || a.obs.ostate == .preArmed
    if !ev then { h with stageDue := false }
    else match h.build with
      | some _ => { h with stageDue := true }
      | none => { h with build := some (newPass c a i t), stageDue := true }

/-- HSTG of tick t: the stage that this tick built, or that is still being built (R206). -/
def Hyp.stageNow (h : Hyp) : Nat :=
  match h.build with
  | some p => min 15 (if h.stageDue then p.stages.length else p.stages.length - 1)
  | none => match h.full with
    | some p => if h.fullIn then 0 else min 15 (if p.fault.isSome then p.stages.length else p.stages.length - 1)
    | none => 0

/-- The registers of a hypothesis as the merge of tick t shows them (R206); a pass whose last stage has merged covers the next
tick already (R190). -/
def Hyp.show (c : AxisCfg) (h : Hyp) (t : Nat) : Hyp :=
  let flt := h.faults != 0
  let el := h.renew.eligible c (t + 1)
  let h : Hyp := { h with
    hstg := h.stageNow
    hspdec := (el.map (·.2.spdec)).getD 0
    hfpk := (el.map (·.2.fpk)).getD 0 }
  match h.done with
  | none => { h with hrdy := false, hflt := flt, hage := 0x3FF, fpred := 0, hthit := 0xFFFF }
  | some p =>
    let ahead := p.ahead t c.obs.prelook
    { h with
      hrdy := h.ready c t
      hflt := flt
      hage := min 0x3FF (ticksSince t p.anchor)
      fpred := (ahead.map (·.2)).foldl max 0
      hthit := ((ahead.find? (fun r => c.obs.fconf ≤ r.2)).map (·.1)).getD 0xFFFF }

/-! ### Learning (R183, R184) -/

/-- Add a sample to a list of cells. -/
def addSample (cell : Nat) (closing : Bool) (n : Nat) (sum : Int) : List LearnCell → List LearnCell
  | [] => [{ cell := cell, closing := closing, n := n, sum := sum }]
  | x :: xs =>
    if x.cell = cell ∧ x.closing = closing then { x with n := x.n + n, sum := x.sum + sum } :: xs
    else x :: addSample cell closing n sum xs

/-- One tick of learning: a sample at PHASE 2, and a move that reached PDONE joins the cycle when nothing spoilt it. -/
def AxisSt.learnTick (c : AxisCfg) (a : AxisSt) (held reached : Bool) : AxisSt :=
  let bad := a.learn.spoilt || held || a.amp.stallNow
  let cells := if a.prof.phase == .cruise then
      addSample (cellOf c a.hall.track.toInt) (dirClosing c a) 1 (a.s * (festOf c a - finerOf c a)) a.learn.cur
    else a.learn.cur
  if reached then
    { a with learn := { a.learn with
      cur := [], spoilt := false
      good := if bad then a.learn.good else
        cells.foldl (fun acc x => addSample x.cell x.closing x.n x.sum acc) a.learn.good } }
  else { a with learn := { a.learn with cur := cells, spoilt := bad } }

/-- The new drag entry of R183: the only rounding is that of the step. -/
def learnEntry (c : AxisCfg) (drag : Nat) (x : LearnCell) : Nat :=
  if x.n < 8 then drag
  else
    let d := roundAway (x.sum - (drag : Int) * x.n) ((x.n * 2 ^ c.snow.lrate : Nat) : Int)
    (clampI 0 c.snow.dragmax ((drag : Int) + clampI (-(c.snow.dstep : Int)) c.snow.dstep d)).toNat

/-- The map after the moves of a cycle (R183). -/
def learnMap (c : AxisCfg) (xs : List LearnCell) : Vector DragCell 64 :=
  xs.foldl (fun m x => vmod m x.cell fun d =>
    if x.closing then { d with drc := learnEntry c d.drc x } else { d with dro := learnEntry c d.dro x }) c.dmap

/-- A write of DMSEED or AXIS_DMAP may act (R184, R208): at PHASE 0 and OSTATE 0 or 7, with no learning update due. -/
def mapWritable (a : AxisSt) : Bool :=
  a.prof.phase == .idle && (a.obs.ostate == .watching || a.obs.ostate == .notEval) && !a.learn.apply

end Sys2Proof.Machine
end

