-- ==== Sys2Proof/Machine/Door.lean ====
section
/-! DEFINITION. The doorway sequencers and the slalom schedule (chapter 7). -/

namespace Sys2Proof.Machine

/-! ### What a sequencer reads (R209) -/

/-- One axis of a doorway: number, configuration, accepted block, whether its ring is in FAULT, and whether a command waits that
AX_BASE judges in this tick. -/
structure DoorAx where
  n : Nat
  c : AxisCfg
  a : AxisSt
  dead : Bool := false
  due : Bool := false

/-- What a DOOR task reads in tick t (R209, R220). `egrFn` is the lowest active EGRESS function that names the doorway. -/
structure DoorEnv where
  d : Nat
  t : Nat
  c : DwayCfg
  leaves : List DoorAx
  step : Option DoorAx
  rel : Bool
  egr : Bool
  loop : Bool
  disto : Nat
  egrFn : Nat
  stale : Bool

/-- Every axis of the doorway. -/
def DoorEnv.axes (v : DoorEnv) : List DoorAx := v.leaves ++ v.step.toList

/-- The doorway's first leaf. -/
def DoorEnv.lead (v : DoorEnv) : Nat :=
  match v.leaves with
  | x :: _ => x.n
  | [] => 0

/-- The axis numbers of the leaves. -/
def DoorEnv.leafNums (v : DoorEnv) : List Nat := v.leaves.map fun (x : DoorAx) => x.n

/-- DEBIN bit i of an axis (R176). -/
def DoorAx.din (x : DoorAx) (i : Nat) : Bool := (vget x.a.lim {} i).deb

/-- Every leaf reads closed-and-locked. -/
def DoorEnv.locked (v : DoorEnv) : Bool := v.leaves.all (·.din 2)

/-- The step, where there is one, reads closed-and-locked. -/
def DoorEnv.stowed (v : DoorEnv) : Bool := v.step.toList.all (·.din 2)

/-- Every leaf reads closed, by its closed limit or its lock switch (log entry 36). -/
def DoorEnv.closed (v : DoorEnv) : Bool := v.leaves.all fun x => x.din 1 || x.din 2

/-- Orders take a tick to be judged and one more to be read (R210). -/
def DwaySt.settled (d : DwaySt) (t : Nat) : Bool :=
  match d.times.issued with
  | some i => 2 ≤ ticksSince t i
  | none => true

/-- Every axis rests, and none is in a snowplough. -/
def DoorEnv.rest (v : DoorEnv) (d : DwaySt) : Bool :=
  d.settled v.t && v.axes.all fun x => x.a.prof.phase == .idle && !x.a.snow

/-- The axes that a move of the present state moves. -/
def DoorEnv.movers (v : DoorEnv) (d : DwaySt) : List DoorAx :=
  if d.st == .stepOut || d.st == .stepIn || (d.st == .reopen && d.stepMove) then v.step.toList else v.leaves

/-- Their moves have reached their targets. -/
def DoorEnv.arrived (v : DoorEnv) (d : DwaySt) : Bool :=
  d.moved && d.settled v.t && (v.movers d).all fun x => x.a.prof.arrived || (x.c.isStep && x.a.obs.atPlat)

/-- A commit has taken an axis that moves (OSTATE 4, or 5 and 6 after it). -/
def DoorEnv.committed (v : DoorEnv) (d : DwaySt) : Bool :=
  (v.movers d).any fun x => x.a.snow || (x.a.obs.ostate == .held && d.moved && d.settled v.t)

/-! ### Changes of state -/

/-- States whose moves wait for a grant (R211). -/
def DState.moves (s : DState) : Bool := s == .stepOut || s == .opening || s == .closing || s == .stepIn || s == .reopen

/-- Enter a state (R211, R212, R213, R215, R227, R436). -/
def DwaySt.go (v : DoorEnv) (d : DwaySt) (new : DState) : DwaySt :=
  let old := d.st
  let rests := old == .locked || old == .stopped || old == .fault
  let begins := rests && new != .service && new != old && !d.cycle
  let endc : Nat := if new == .locked then 1 else if new == .stopped then 2 else if new == .fault then 3 else 0
  let ends := d.cycle && endc != 0
  let late := match d.times.w with
    | some w => ticksSince v.t w
    | none => 0
  let miss := new == .locked && d.times.w.isSome && 4000 * v.c.cltgt < late
  let fl := d.flags
  let fl := if old == .locked then { fl with reopn := 0 } else fl
  let fl := if new == .locking then { fl with lockn := 0 } else fl
  let fl := if new == .locked && d.times.w.isSome then { fl with lastcl := min 0xFFFFF late } else fl
  let fl := if miss then { fl with clmiss := true, misses := satInc 0xFFFF fl.misses } else fl
  let warn := new == .warning
  let w := if endc != 0 then none else if warn && d.times.w.isNone then some v.t else d.times.w
  let len := 4000 * (if old == .reopen then v.c.rwarn else v.c.warn)
  { d with
    st := new
    waitg := false
    moved := false
    decided := false
    after := none
    second := []
    stepMove := false
    stepskip := d.stepskip && new != .locked
    noPosHeld := d.noPosHeld && new == .stopped
    lastClose := d.lastClose && endc == 0
    logged := d.logged && !(warn && d.times.w.isNone) && endc == 0
    lockOn :=
      if new == .unlock then true
      else if new == .stopped || new == .warning || new == .openSt || new == .opening || new == .closing ||
        new == .obstr || new == .reopen then d.lockOn
      else false
    flags := fl
    times := { d.times with
      since := v.t
      w := w
      w0 := if warn then v.t else d.times.w0
      warnLen := if warn then len else d.times.warnLen
      pulse := none
      stepDone := none }
    cycle := (d.cycle || begins) && endc == 0
    out := { d.out with
      began := d.out.began || (begins && endc == 0)
      ended := if ends then some endc else d.out.ended } }

/-- Order axes, in this tick. -/
def DwaySt.order (d : DwaySt) (t : Nat) (os : List AxOrder) : DwaySt :=
  if os.isEmpty then d
  else { d with times := { d.times with issued := some t }, out := { d.out with orders := d.out.orders ++ os } }

/-- The axis moves outside a snowplough, or takes up a command in this tick. -/
def DoorAx.going (x : DoorAx) : Bool := (x.a.prof.phase != .idle || x.due) && !x.a.snow

/-- STOP at DEC, or QSTOP, to every axis that moves outside a snowplough; a waiting request lapses (R211, R216, R217, R220). -/
def DwaySt.stopAxes (v : DoorEnv) (d : DwaySt) (code : Nat) : DwaySt :=
  let os := (v.axes.filter DoorAx.going).map fun x => { axis := x.n, code := code : AxOrder }
  { d with waitg := false }.order v.t os

/-- An attention of DWAY is due. -/
def DwaySt.attn (d : DwaySt) : DwaySt := { d with out := { d.out with attn := true } }

/-- FAULT with LOCKF (R212), or with STEPF. -/
def DwaySt.lockFault (v : DoorEnv) (d : DwaySt) : DwaySt :=
  ({ d with flags := { d.flags with lockf := true } }.attn).go v .fault
def DwaySt.stepFault (v : DoorEnv) (d : DwaySt) : DwaySt :=
  ({ d with flags := { d.flags with stepf := true } }.attn).go v .fault

/-! ### Travel estimates (R227) -/

/-- The smallest m with m² ≥ n. -/
def ceilSqrt (n : Nat) : Nat := if Nat.sqrt n * Nat.sqrt n = n then Nat.sqrt n else Nat.sqrt n + 1

/-- n / d rounded up. -/
def ceilDiv (n d : Nat) : Nat := if d = 0 then 0 else (n + d - 1) / d

/-- Ticks to travel r (0.1 mm) on the trapezoid of VMAX, ACC and DEC, rounded up (R227). -/
def travelTicks (r vmax acc dec : Nat) : Nat :=
  if r = 0 ∨ vmax = 0 ∨ acc = 0 ∨ dec = 0 then 0
  else if vmax * vmax * (acc + dec) ≤ 20 * r * acc * dec then
    ceilDiv (40000 * (20 * acc * dec * r + vmax * vmax * (acc + dec))) (20 * acc * dec * vmax)
  else ceilSqrt (ceilDiv (2 * r * (acc + dec) * 40000 * 40000) (10 * acc * dec))

/-- The estimate of an axis between two positions. -/
def estimate (x : DoorAx) (from' to' : Int) : Nat :=
  travelTicks (to' - from').natAbs x.c.mot.vmax x.c.mot.acc x.c.mot.dec

/-- POS of an axis of the doorway. -/
def DoorAx.pos (x : DoorAx) : Int := x.a.pos x.c.hall

/-- The open position of a leaf (R229). -/
def DoorEnv.openPos (v : DoorEnv) (x : DoorAx) : Int := if x.c.side = 0 then v.c.open0 else v.c.open1

/-- The reopen target of a leaf (R215). -/
def DoorEnv.reopenPos (v : DoorEnv) (x : DoorAx) : Int :=
  let o := v.openPos x
  let c := closeSign x.c
  let t := x.pos - c * v.c.reopd
  if !v.c.reopmode || c * (t - o) < 0 then o else t

/-- The highest of some estimates. -/
def maxOf (xs : List Nat) : Nat := xs.foldl max 0

/-! ### The grant of a move (R210, R214, R215, R225, R227) -/

/-- The target of an axis for the move of the present state, and whether it is the second move of R214. -/
def DoorEnv.target (v : DoorEnv) (d : DwaySt) (x : DoorAx) : Int × Bool :=
  match d.st with
  | .stepOut => (v.c.stepOut, true)
  | .stepIn => (x.c.obs.closepos, true)
  | .opening => (v.openPos x, true)
  | .reopen => (if d.stepMove then v.c.stepOut else v.reopenPos x, true)
  | _ =>
    let c := closeSign x.c
    let s := x.c.obs.closepos - c * x.c.obs.sealz
    if x.c.obs.sealz != 0 && decide (c * (x.pos - s) < 0) then (s, false) else (x.c.obs.closepos, true)

/-- The interlock of R213: a step moves only while every leaf reads closed-and-locked and the lock channel is off. -/
def DwaySt.stepFree (v : DoorEnv) (d : DwaySt) : Bool := v.locked && !d.lockOn

/-- The step stands at extended rest (R213): its last move reached STEPOUT, or it met the platform. -/
def DoorEnv.stepRests (v : DoorEnv) : Bool :=
  v.step.toList.all fun x => x.a.prof.phase == .idle &&
    (x.a.obs.atPlat || (x.a.prof.arrived && x.a.prof.ptgt == tenth v.c.stepOut))

/-- Leaves may begin to open (R213). -/
def DwaySt.leafFree (v : DoorEnv) (d : DwaySt) : Bool := d.stepskip || v.stepRests

/-- The interlock of R213 lets the move of the present state begin. -/
def DwaySt.mayMove (v : DoorEnv) (d : DwaySt) : Bool :=
  match d.st with
  | .stepOut => d.stepFree v
  | .stepIn => d.stepFree v
  | .opening => d.leafFree v
  | .reopen => if d.stepMove then d.stepFree v else d.leafFree v
  | _ => true

/-- A grant that is made in tick t serves the doorway: it waits since an earlier tick, and may move (R213, R234). -/
def DwaySt.serves (v : DoorEnv) (d : DwaySt) : Bool := d.waitg && d.times.req != v.t && d.mayMove v

/-- A grant acts on a doorway that still waits: WARNING goes to CLOSING, and the move is ordered (R210, R211). Cause 03h is
judged for a closing move that waited (R227). -/
def DwaySt.onGrant (v : DoorEnv) (d : DwaySt) (waited : Nat) : DwaySt :=
  let d := { d with flags := { d.flags with wait := min 0xFFFFF waited } }
  let d := if d.st == .warning then d.go v .closing else d
  let mv : List (DoorAx × Int × Bool) := (v.movers d).map fun x => (x, v.target d x)
  let d := { d with
    waitg := false
    moved := true
    second := (mv.filter (fun (m : DoorAx × Int × Bool) => m.2.2)).map (fun (m : DoorAx × Int × Bool) => m.1.n)
    times := { d.times with grant := some v.t } }
  let d := d.order v.t (mv.map fun (m : DoorAx × Int × Bool) => { axis := m.1.n, code := 1, target := m.2.1 })
  match d.st, d.times.w with
  | .closing, some w =>
    let est := maxOf (v.leaves.map fun x => estimate x x.pos x.c.obs.closepos)
    if 0 < waited ∧ d.logged = false ∧ 4000 * v.c.cltgt < ticksSince v.t w + 1 + est then
      { d with logged := true,
               out := { d.out with yields := d.out.yields ++ [(3, v.lead, waited)] } }
    else d
  | _, _ => d

/-! ### Egress, sensors and open requests (R217, R220, R253) -/

/-- STOPPED with EGRSTOP; cause 0Ah in mid-cycle (R217). -/
def DwaySt.egress (v : DoorEnv) (d : DwaySt) (mid : Bool) : DwaySt :=
  let d := d.go v .stopped
  { d with
    flags := { d.flags with egrstop := true }
    out := { d.out with
      yields := if mid then d.out.yields ++ [(10, v.lead, v.egrFn)] else d.out.yields } }

/-- A doorway stops for something that is not its own: what this tick's run has ordered is not ordered (R218, R253, R487). -/
def DwaySt.halt (v : DoorEnv) (d : DwaySt) : DwaySt :=
  let d := d.go v .stopped
  { d with out := { d.out with orders := [] } }

/-- The axes of a doorway that leaves SERVICE are no longer the host's (R150, R217). -/
def DwaySt.leaveService (d : DwaySt) : DwaySt :=
  if d.st == .service then { d with out := { d.out with own := some false } } else d

/-- EGR becomes active (R217, R234). -/
def DwaySt.egrRise (v : DoorEnv) (d : DwaySt) : DwaySt :=
  let mid := d.st.moves
  let d := d.leaveService
  let d := d.stopAxes v 3
  if v.axes.any (·.a.snow) then { d with egrWait := true, after := none } else d.egress v mid

/-- How an opening begins: through the step where it must extend first, else through the lock (R211, R213). -/
def DwaySt.beginOpen (v : DoorEnv) (d : DwaySt) : DwaySt :=
  d.go v (if v.step.isSome && !d.stepskip then .stepOut else .unlock)

/-- A close that is abandoned in WARNING opens again (R213, R220): through the step where the leaves still stand locked,
else the leaves go as soon as the step lets them. -/
def DwaySt.reopenFrom (v : DoorEnv) (d : DwaySt) : DwaySt :=
  if !v.locked || (d.lockOn && d.leafFree v) then d.go v .opening else d.beginOpen v

/-- An accepted open request (R220). -/
def DwaySt.openReq (v : DoorEnv) (d : DwaySt) : DwaySt :=
  let lapse := { d with times := { d.times with w := none } }
  match d.st with
  | .locked => d.beginOpen v
  | .warning => lapse.reopenFrom v
  | .closing => { (if d.after.isSome then lapse else lapse.stopAxes v 2) with after := some .opening }
  | .locking => { d with heldOpen := true }
  | .stepIn => { d with heldOpen := true }
  | _ => d

/-- A close demand (R216). -/
def DwaySt.closeReq (v : DoorEnv) (d : DwaySt) : DwaySt :=
  match d.st with
  | .openSt => d.go v .warning
  | .unlock => if v.locked || v.closed then d.go v .locking else { d.stopAxes v 2 with after := some .warning }
  | .stepOut => { (if d.after.isNone then d.stopAxes v 2 else d) with after := some .warning }
  | .opening => { (if d.after.isNone then d.stopAxes v 2 else d) with after := some .warning }
  | .closing => if d.after.isSome then { d with after := some .warning } else d
  | _ => d

/-! ### Commands (R215, R217, R219, R233) -/

/-- The return code of a host command (R233). -/
def dwayRc (v : DoorEnv) (d : DwaySt) (code : Nat) : Nat :=
  let idle := v.axes.all fun x => x.a.prof.phase == .idle
  let homing := v.axes.any fun x => x.a.hom.runs
  let st := d.st
  let ok : Bool :=
    if code = 1 then st == .locked || st == .warning || st == .closing || st == .locking || st == .stepIn
    else if code = 2 then
      st == .unlock || st == .stepOut || st == .opening || st == .openSt || (st == .obstr && d.decided)
    else if code = 3 then st == .stopped || st == .fault
    else if code = 4 then st == .locked || st == .stopped || st == .fault
    else if code = 5 then st == .service
    else st == .locked
  if v.c.defd = false then 4
  else if 7 ≤ code then 3
  else if ok = false then 2
  else if (code = 3 ∨ code = 4) ∧ v.stale = true then 2
  else if code = 1 ∧ v.rel = false then 1
  else if code = 3 ∧ v.egr = true then 5
  else if code = 4 ∧ idle = false then 6
  else if code = 5 ∧ (idle = false ∨ homing = true) then 6
  else 0

/-- What an accepted command does (R215, R217, R219, R220, R233). -/
def DwaySt.command (v : DoorEnv) (d : DwaySt) (code : Nat) : DwaySt :=
  match code with
  | 1 => d.openReq v
  | 2 => if d.st == .obstr then { d with after := some .warning, lastClose := true } else d.closeReq v
  | 3 => d.go v (if v.rel && !v.closed then .openSt else if v.closed then .locking else .warning)
  | 4 => { d with out := { d.out with own := some true } }.go v .service
  | 5 =>
    { d with out := { d.out with own := some false } }.go v (if v.locked && v.stowed then .locked else .stopped)
  | 6 => { d with stepskip := true }
  | _ => d

/-! ### Progress of a state -/

/-- WARN has run out: the last warning tick (R210). -/
def DwaySt.warnDue (v : DoorEnv) (d : DwaySt) : Bool :=
  d.st == .warning && d.times.warnLen ≤ ticksSince v.t d.times.w0 + 1

/-- DWELL has run out in OPEN (R216). -/
def DwaySt.dwellDue (v : DoorEnv) (d : DwaySt) : Bool :=
  d.st == .openSt && v.c.dwell != 0 && 4000 * v.c.dwell ≤ ticksSince v.t d.times.since

/-- LOCKTO has run out in UNLOCK or LOCKING (R212). -/
def DwaySt.lockDue (v : DoorEnv) (d : DwaySt) : Bool :=
  (d.st == .unlock || (d.st == .locking && d.times.pulse.isNone)) && 400 * v.c.lockto ≤ ticksSince v.t d.times.since

/-- The lock pulse is over (R212). -/
def DwaySt.pulseDue (v : DoorEnv) (d : DwaySt) : Bool :=
  d.st == .locking && (match d.times.pulse with
    | some p => 20000 ≤ ticksSince v.t p
    | none => false)

/-- The step has not read closed-and-locked within LOCKTO of its PDONE (R211). -/
def DwaySt.stepLockDue (v : DoorEnv) (d : DwaySt) : Bool :=
  d.st == .stepIn && (match d.times.stepDone with
    | some p => 400 * v.c.lockto ≤ ticksSince v.t p
    | none => false)

/-- A request for a grant is raised, once (R210, R225). -/
def DwaySt.request (v : DoorEnv) (d : DwaySt) : DwaySt :=
  if d.waitg then d else { d with waitg := true, times := { d.times with req := v.t } }

/-- A LOCKTO expiry (R212). -/
def DwaySt.lockTimeout (v : DoorEnv) (d : DwaySt) : DwaySt :=
  if d.st == .locking && d.flags.lockn < v.c.lockrty then
    { d with
      flags := { d.flags with lockn := d.flags.lockn + 1 }
      lockOn := true
      times := { d.times with pulse := some v.t } }
  else d.lockFault v

/-- The end of a lock pulse: LOCKTO runs again (R212). -/
def DwaySt.pulseEnd (v : DoorEnv) (d : DwaySt) : DwaySt :=
  { d with lockOn := false, times := { d.times with pulse := none, since := v.t } }

/-- Cause 02h, judged in the tick a reopen is decided (R227): of the leaves, or of a step that extends again from STEPIN. -/
def DwaySt.reopenYield (v : DoorEnv) (d : DwaySt) : DwaySt :=
  let step := d.st == .stepIn
  let xs := if step then v.step.toList else v.leaves
  let goal := fun (x : DoorAx) => if step then v.c.stepOut else v.reopenPos x
  match d.times.w with
  | some w =>
    let re := maxOf (xs.map fun x => estimate x x.pos (goal x))
    let rc := maxOf (xs.map fun x => estimate x (goal x) x.c.obs.closepos)
    if d.logged = false ∧ 4000 * v.c.cltgt < ticksSince v.t w + 1 + re + 4000 * v.c.rwarn + rc then
      { d with logged := true, out := { d.out with yields := d.out.yields ++ [(2, v.lead, v.d)] } }
    else d
  | none => d

/-- The decision of OBSTR at rest (R215). -/
def DwaySt.decide (v : DoorEnv) (d : DwaySt) : DwaySt :=
  if d.flags.reopn < v.c.reopmax ∧ d.lastClose = false then
    ({ d with flags := { d.flags with reopn := d.flags.reopn + 1 } }.reopenYield v).go v .reopen
  else ({ d with decided := true, flags := { d.flags with obstr := true } }).attn

/-- LOCKED is entered from LOCKING, or STEPIN first where there is a step (R211). -/
def DwaySt.afterLock (v : DoorEnv) (d : DwaySt) : DwaySt := d.go v (if v.step.isSome then .stepIn else .locked)

/-- The move of the present state is asked for while the interlock lets it begin, and not otherwise (R213). -/
def DwaySt.ask (v : DoorEnv) (d : DwaySt) : DwaySt := if d.mayMove v then d.request v else { d with waitg := false }

/-- The leaves whose first move of R214 has come far enough for the second: by PHASE 3 at VSEAL, or at its target. Paired leaves
go together. -/
def DoorEnv.secondDue (v : DoorEnv) (d : DwaySt) (first : List DoorAx) : List DoorAx :=
  let read := match d.times.grant with
    | some g => 2 ≤ ticksSince v.t g
    | none => true
  let ok := fun (x : DoorAx) => x.a.prof.arrived || (x.a.prof.phase == .decel && x.a.prof.vref.natAbs ≤ x.c.obs.vseal)
  if !read then [] else if v.c.paired then (if first.all ok then first else []) else first.filter ok

/-- One tick of a state that has nothing else to wait for (R211 to R216). -/
def DwaySt.progress (v : DoorEnv) (d : DwaySt) : DwaySt :=
  match d.st with
  | .locked =>
    if d.heldOpen then (if v.rel then { d with heldOpen := false }.beginOpen v else { d with heldOpen := false }) else d
  | .unlock =>
    if v.leaves.all (fun x => !x.din 2) then d.go v .opening
    else if d.lockDue v then d.lockTimeout v
    else d
  | .stepOut =>
    if d.moved then
      if v.committed d then d.stepFault v
      else if v.arrived d then d.go v .unlock
      else if !d.stepFree v then (d.stopAxes v 3).stepFault v
      else d
    else d.ask v
  | .opening =>
    if d.moved then
      if v.committed d then { d.stopAxes v 2 with after := some .openSt }
      else if v.arrived d then d.go v .openSt
      else d
    else d.ask v
  | .warning => if d.waitg || d.warnDue v then d.request v else d
  | .closing =>
    if v.committed d then d.go v .obstr
    else
      let first := v.leaves.filter fun x => !d.second.contains x.n
      if first.isEmpty then (if v.arrived d then d.go v .locking else d)
      else
        let now := v.secondDue d first
        { d with second := d.second ++ now.map DoorAx.n }.order v.t
          (now.map fun (x : DoorAx) => { axis := x.n, code := 1, target := x.c.obs.closepos })
  | .locking =>
    if v.locked then d.afterLock v
    else if d.pulseDue v then d.pulseEnd v
    else if d.lockDue v then d.lockTimeout v
    else d
  | .stepIn =>
    if d.moved then
      if v.committed d then
        let d := { d with flags := { d.flags with
          reopn := if d.flags.reopn < v.c.reopmax then d.flags.reopn + 1 else d.flags.reopn } }
        { (d.reopenYield v).go v .reopen with stepMove := true }
      else if v.arrived d && v.stowed then d.go v .locked
      else if v.arrived d && d.times.stepDone.isNone then { d with times := { d.times with stepDone := some v.t } }
      else if d.stepLockDue v then d.stepFault v
      else if !v.arrived d && !d.stepFree v then (d.stopAxes v 3).stepFault v
      else d
    else d.ask v
  | .obstr => if !d.decided && v.rest d then d.decide v else d
  | .reopen =>
    if d.moved then
      if v.rest d then d.go v .warning
      else if d.stepMove && !d.stepFree v then (d.stopAxes v 3).stepFault v
      else d
    else if v.rest d then d.ask v
    else d
  | _ => d

/-- The start of a doorway after a stream starts (R219); one with an axis on a ring in FAULT begins in STOPPED (R249). -/
def DwaySt.begin (v : DoorEnv) (d : DwaySt) : DwaySt :=
  if d.started then d
  else
    let ok := v.locked && v.stowed && v.axes.all fun x => x.a.hall.posq == .valid && !x.dead
    { d with started := true, egr := false, releff := v.rel, st := if ok then .locked else .stopped, noPosHeld := !ok,
             times := { d.times with since := v.t } }

/-- NOPOS: an axis lacks a valid position, or the doorway began or woke in STOPPED for want of one (R219, R487). -/
def DwaySt.position (v : DoorEnv) (d : DwaySt) : DwaySt :=
  { d with nopos := d.noPosHeld || v.axes.any fun (x : DoorAx) => x.a.hall.posq != PosQ.valid }

/-- The outputs of the sequencer in this tick (R212, R221, R420). -/
def DwaySt.outputs (v : DoorEnv) (d : DwaySt) : DwaySt :=
  let warn := d.st == .warning || d.times.grant == some v.t
  let k := ticksSince v.t d.times.w0
  { d with
    lampOn := if warn then k / 10000 % 2 == 0 else d.st != .none && d.st != .locked
    chimeOn := warn && (v.c.chime != 1 || k / 20000 % 2 == 0) }

/-- CLMASK and LOOP differ (R223). -/
def DwaySt.disTick (v : DoorEnv) (d : DwaySt) : DwaySt :=
  if (d.st == .locked) == v.loop then { d with dis := 0, disSeen := false } else { d with dis := d.dis + 1 }

/-- DISTO has passed (R223). -/
def DwaySt.disagDue (v : DoorEnv) (d : DwaySt) : Bool := 0 < d.dis && !d.disSeen && 400 * v.disto ≤ d.dis

/-- A disagreement is taken up, once (R223). -/
def DwaySt.disagree (d : DwaySt) : DwaySt := { d with disSeen := true, out := { d.out with disag := true, attn := true } }

/-- One run of the sequencer (R209 to R223, R227, R234), with the host command that takes effect, and its return code. -/
def DwaySt.tick (v : DoorEnv) (d : DwaySt) (cmd : Option Nat) : DwaySt × Option Nat :=
  let d := { d with out := {} }
  if v.c.defd = false then (d, cmd.map fun _ => 4)
  else
    let d := d.begin v
    let d := if v.egr && !d.egr then d.egrRise v else d
    let d := if d.egrWait && !v.axes.any (·.a.snow) then { d with egrWait := false }.egress v true else d
    let d := { d with egr := v.egr }
    let press := (v.leaves.zipIdx).any fun x => x.1.din 3 && !bitOf d.btn x.2
    let rise := v.rel && !d.releff
    let d := { d with
      btn := maskOf (v.leaves.map (·.din 3))
      releff := v.rel }
    let rc := cmd.map (dwayRc v d)
    let ok := rc == some 0
    let host := if ok then cmd.getD 0 else 0
    -- a close demand governs an open request of the same tick (R234)
    let close := !v.rel || d.dwellDue v || (host == 2 && d.st != .obstr)
    let open' := v.rel && ((press && v.c.btnsrc) || (rise && v.c.autoopen) || host == 1)
    let d := if host == 1 || (host == 2 && d.st != .obstr) then d else d.command v host
    let d := if close then d.closeReq v else if open' then d.openReq v else d
    let d :=
      if d.egrWait then (if d.st == .closing && v.committed d then d.go v .obstr else d)
      else match d.after with
        | some s => if v.rest d then d.go v s else d
        | none => d.progress v
    let d := (d.disTick v)
    let d := if d.disagDue v then d.disagree else d
    (d.position v |>.outputs v, rc)

/-! ### Slalom (R224 to R226) -/

/-- A brick as slalom sees it: its axis with IQ, full-scale current; none where it carries no axis. -/
structure SlalomBrick where
  axis : Option Nat
  iq : Int
  ifs : Nat

/-- ISUP of a brick (R224). -/
def isup (c : CarCfg) (b : SlalomBrick) : Nat :=
  match b.axis with
  | some _ => b.iq.natAbs * b.ifs * c.supg / 1048320 + c.iqui
  | none => c.iqui

/-- A doorway as slalom sees it: `axes` those that its move moves, `own` all of its axes. -/
structure SlalomDoor where
  d : Nat
  st : DwaySt
  istart : Nat
  axes : List Nat
  own : List Nat

/-- What SLALOM reads in tick t. `phase1 n` that axis n is at PHASE 1 outside a snowplough; `stops` the axes that run a
brake, a relief or a controlled stop, ascending. -/
structure SlalomEnv where
  t : Nat
  c : CarCfg
  bricks : List SlalomBrick
  doors : List SlalomDoor
  phase1 : List Nat
  stops : List Nat

/-- The budget of a move has ended (R225). -/
def SlalomEnv.ended (v : SlalomEnv) (b : Budget) : Bool :=
  let door := v.doors.find? (fun d => d.d == b.doorway)
  let replaced := match door with
    | some d => !d.st.st.moves || d.st.after.isSome
    | none => true
  b.returned || (2 ≤ ticksSince v.t b.tick && (replaced || !b.axes.any v.phase1.contains))

/-- Requests in the order of R225: REOPEN moves, then by tick raised, then by doorway. -/
def SlalomEnv.before (v : SlalomEnv) (x y : SlalomDoor) : Bool :=
  let rx := x.st.st == .reopen
  let ry := y.st.st == .reopen
  if rx != ry then rx
  else
    let ax := ticksSince v.t x.st.times.req
    let ay := ticksSince v.t y.st.times.req
    if ax != ay then decide (ay < ax) else decide (x.d < y.d)

/-- Insert a request in that order. -/
def SlalomEnv.insert (v : SlalomEnv) (x : SlalomDoor) : List SlalomDoor → List SlalomDoor
  | [] => [x]
  | y :: ys => if v.before x y then x :: y :: ys else y :: v.insert x ys

/-- ISUP of the bricks of some axes. -/
def SlalomEnv.isupOf (v : SlalomEnv) (axes : List Nat) : Nat :=
  ((v.bricks.filter fun b => match b.axis with
    | some n => axes.contains n
    | none => false).map (isup v.c)).sum

/-- ALLOC of some budgets (R225). -/
def SlalomEnv.alloc (v : SlalomEnv) (bs : List Budget) : Nat :=
  let busy := bs.flatMap Budget.axes
  (bs.map Budget.istart).sum + ((v.bricks.filter fun b => match b.axis with
    | some n => !busy.contains n
    | none => true).map (isup v.c)).sum

/-- Judge one request (R225). -/
def SlalomEnv.judge (v : SlalomEnv) (s : Slalom) (x : SlalomDoor) : Slalom :=
  let spaced := match s.lastGrantTick with
    | some g => v.c.spacing ≤ ticksSince v.t g
    | none => true
  let rest := s.budgets.filter fun b => b.doorway != x.d
  let alloc := if rest.length = s.budgets.length then s.alloc else v.alloc rest
  let own := v.isupOf x.own
  if spaced && alloc - own + x.istart ≤ v.c.cap then
    let now := rest ++ [{ doorway := x.d, axes := x.axes, tick := v.t, istart := x.istart }]
    { s with
      alloc := v.alloc now
      budgets := now
      lastGrantTick := some v.t
      lastgr := x.d
      grants := satInc 0xFFFF s.grants
      granted := s.granted ++ [(x.d, ticksSince v.t x.st.times.req - 1)] }
  else s

/-- One run of SLALOM (R224 to R226, R54). -/
def SlalomEnv.run (v : SlalomEnv) (s : Slalom) : Slalom :=
  let isum := (v.bricks.map (isup v.c)).sum
  let live := s.budgets.filter fun b => !v.ended b
  let reqs := (v.doors.filter (fun d => d.st.waitg)).foldl (fun acc d => v.insert d acc) []
  let hi := v.c.cap < isum
  let capAxis := if !hi then none else if s.capAxis.isSome then s.capAxis else v.stops.head?
  let capNew := hi && s.capAxis.isNone && capAxis.isSome
  let bud := hi && v.stops.isEmpty && !s.budSeen
  let s := { s with
    isum := min 0xFFFF isum
    budgets := live
    alloc := v.alloc live
    waiting := min 15 reqs.length
    caphold := hi
    overCap := hi
    budSeen := hi && (s.budSeen || v.stops.isEmpty)
    buderrNow := bud
    buderr := s.buderr || bud
    capAxis := capAxis
    capNew := capNew
    granted := [] }
  if hi then s
  else
    let s := reqs.foldl v.judge s
    { s with waiting := min 15 (reqs.length - s.granted.length) }

end Sys2Proof.Machine
end

