-- ==== Sys2Proof/Machine/LaneRead.lean ====
section
/-! DEFINITION. What the tasks of an axis and of a doorway read of their lane. -/

namespace Sys2Proof.Machine

/-- The slot of an axis's brick, as the lane holds it. -/
def Lane.slotOf (x : Lane) (n : Nat) : SlotSt :=
  let c := x.acfg n
  vget (x.ring c.ring).slots {} c.slot

/-- Frames of this ring carry up records that a lane expects. -/
def RState.tracked (r : RState) : Bool := r == .running || r == .broken || r == .rejoining

/-- The axis is defined in the running stream. -/
def Lane.hasAxis (x : Lane) (n : Nat) : Bool := x.running && (x.acfg n).defd

/-- The partner leaf of an axis (R201). -/
def Lane.partner (x : Lane) (n : Nat) : Option Nat :=
  let d := x.dcfg (x.acfg n).doorway
  if !d.defd || !d.paired || (x.acfg n).isStep then none
  else if d.leaf0 == some n then d.leaf1
  else if d.leaf1 == some n then d.leaf0
  else none

/-- The partner's commit is due at this gate. -/
def Lane.partnerDue (x : Lane) (n : Nat) : Bool :=
  match x.partner n with
  | some p => (x.axis p).cur.obs.commitDue.isSome
  | none => false

/-- An axis of a doorway, with its accepted block; a MOVE or HOME of its host or its sequencer may wait for this tick. -/
def Lane.doorAx (x : Lane) (n : Nat) : DoorAx :=
  let q := (x.axis n).cmd
  { n := n, c := x.acfg n, a := (x.axis n).cur
    dead := (x.ring (x.acfg n).ring).st == .fault
    due := (q.hostCmd.toList ++ q.seqCmd.toList).any fun k => k.code == 1 || k.code == 4 }

/-- The lowest function below 16 with a property, as DETAIL of a yield; FFFF_FFFFh when none has it (R54). -/
def lowestFn (p : Nat → Bool) : Nat := ((List.range 16).find? p).getD 0xFFFFFFFF

/-- What the DOOR task of doorway d reads in tick t. -/
def Lane.doorEnv (x : Lane) (d t : Nat) : DoorEnv :=
  let c := x.dcfg d
  let rep := x.ln.rpt.rep
  let saf := x.img.sec 0x10
  { d := d
    t := t
    c := c
    leaves := (c.leaf0.toList ++ c.leaf1.toList).map x.doorAx
    step := c.stepax.map x.doorAx
    rel := rep.zspd && (if c.right then rep.relr else rep.rell)
    egr := rep.egr.getLsbD d
    loop := rep.loops.getLsbD d
    disto := x.st.car.disto
    egrFn := lowestFn fun f => (fnRec saf f).typ == 1 && bitOf (fnRec saf f).dmask d && !rep.sperm.getLsbD f
    stale := x.ln.red.stale }

/-- The up record shows a bit of STAT (R239). -/
def UpRec.bit (u : UpRec) (i : Nat) : Bool := bitOf u.stat i

end Sys2Proof.Machine
end

