-- ==== Sys2Proof/Machine/Cycles.lean ====
section
/-! DEFINITION. The cycles of the ledger (chapter 15): what a cycle gathers tick by tick, its capture buffer, and the record
that its end leaves to the LEDGER task. -/

namespace Sys2Proof.Machine

/-- The axes of a doorway by their place in a record: SIDE 0 leaf, SIDE 1 leaf, step (R441). -/
def DwayCfg.places (c : DwayCfg) : List (Option Nat) := [c.leaf0, c.leaf1, c.stepax]

/-- The axes of a doorway in AXIS order. -/
def DwayCfg.axesUp (c : DwayCfg) : List Nat := idxs 24 fun n => c.places.contains (some n)

/-- A cycle that begins in tick t (R436, R445). -/
def Lane.newCycle (x : Lane) (d t : Nat) (train : BitVec 64) : Cycle :=
  let c := x.dcfg d
  let one : Option Nat → CycAx := fun o => match o with
    | some n =>
      let a := (x.axis n).cur
      let p := a.pos (x.acfg n).hall
      { pos0 := p, lastPos := p, dnLast := (x.slotOf n).dnerr }
    | none => {}
  { tkstart := t, tstart := train, tdec := max 1 x.st.tdec, axs := #v[one c.leaf0, one c.leaf1, one c.stepax] }

/-- One tick of an axis of a cycle, from its merged block (R442); `first` says that it is the cycle's first. -/
def CycAx.tick (y : CycAx) (c : AxisCfg) (a : AxisSt) (slot : SlotSt) (expected first : Bool) : CycAx :=
  let p := a.pos c.hall
  let closing2 := a.prof.phase == .cruise && dirClosing c a
  let y := { y with
    pos0 := if first then p else y.pos0
    travel := if first then 0 else (y.travel + (p - y.lastPos).natAbs) % 2 ^ 32
    lastPos := p
    vpk := max y.vpk a.hall.v4.natAbs
    fpkm := max y.fpkm (a.s * a.obs.fest)
    epk := max y.epk a.obs.e
    amppk := max y.amppk a.amp.amp
    aflags := y.aflags ||| a.out.evts % 64
    obstn := if bitOf a.out.evts 6 then satInc 0xFF y.obstn else y.obstn
    satt := if a.amp.sat then satInc 0xFFFF y.satt else y.satt
    dragN := if closing2 then y.dragN + 1 else y.dragN
    dragSum := if closing2 then y.dragSum + a.s * (festOf c a - finerOf c a) else y.dragSum
    dnMiss := min 0xFFFF (y.dnMiss + (slot.dnerr + 256 - y.dnLast % 256) % 256)
    dnLast := slot.dnerr }
  match slot.up with
  | some u =>
    { y with
      aflags := y.aflags ||| (if u.bit 1 then 64 else 0) ||| (if u.bit 3 then 128 else 0)
      bflt := if u.bflt = 0 then y.bflt else u.bflt
      tempmx := max y.tempmx (sgn 8 u.temp)
      vdcmin := min y.vdcmin u.vdc }
  | none => if expected then { y with upMiss := satInc 0xFFFF y.upMiss } else y

/-- A sample of an axis (R446). -/
def traceSample (t n : Nat) (a : AxisSt) (c : AxisCfg) (held : Bool) : List Byte :=
  let o := match a.obs.ostate with
    | .watching => 0
    | .exceeding => 1
    | .preArmed => 2
    | .confirmed => 3
    | .braking => 4
    | .relief => 5
    | .held => 6
    | .notEval => 7
  toLE 2 t ++ toLE 1 n ++ toLE 1 (pack [(3, a.prof.phase.code), (3, o), (2, a.obs.zone)]) ++
    toLE 4 (enc 32 (a.pos c.hall)) ++ toLE 2 (enc 16 a.hall.v4) ++ toLE 2 (enc 16 a.obs.fest) ++ toLE 2 (enc 16 a.obs.e) ++
    toLE 2 (pack [(12, a.amp.amp), (1, b2n a.amp.sat), (1, b2n a.obs.flags.edge), (1, b2n a.obs.flags.curt), (1, b2n held)])

/-- A sample is due in tick t: every TDEC ticks from TKSTART, once (R445). -/
def Cycle.sampleDue (y : Cycle) (t : Nat) : Bool := ticksSince t y.tkstart % y.tdec == 0 && y.lastSample != some t

/-- The samples of doorway d join the capture buffer, the oldest leaving when it is full (R445). -/
def Lane.sample (x : Lane) (d t : Nat) (y : Cycle) : Cycle :=
  if !y.sampleDue t then y
  else
    let new := (x.dcfg d).axesUp.map fun n =>
      (t, traceSample t n (x.axis n).cur (x.acfg n) (x.axis n).cmd.hold)
    let all := y.samples ++ new
    { y with samples := all.drop (all.length - 4092), wrap := y.wrap || 4092 < all.length, lastSample := some t }

/-- One tick of the cycle of doorway d, at the merge (R442, R445). -/
def Lane.cycleTick (x : Lane) (d t : Nat) (y : Cycle) : Cycle :=
  let places := (x.dcfg d).places
  let at' := fun (k : Nat) => (places[k]?).getD none
  let axs := y.axs.mapFinIdx fun k z _ => match at' k with
    | some n => z.tick (x.acfg n) (x.axis n).cur (x.slotOf n) (x.ring (x.acfg n).ring).due (t == y.tkstart)
    | none => z
  let hold := (x.dcfg d).axesUp.any fun n => (x.axis n).cmd.hold
  x.sample d t { y with axs := axs, held := y.held || hold }

/-- The mean that DRAGC holds: where it is no whole number its rounding is free (R442, log entry 19). -/
def meanOf (sum : Int) (n : Nat) : Int :=
  if n = 0 then 0 else if sum % (n : Int) = 0 ∨ Config.meanUp sum n = false then sum / (n : Int) else sum / (n : Int) + 1

/-- An axis block of a record (R442). -/
def axisBlock (n : Nat) (c : AxisCfg) (a : AxisSt) (y : CycAx) : List Byte :=
  let f := a.obs.flags
  toLE 1 n ++ toLE 1 y.obstn ++ toLE 1 f.confsrc ++
    toLE 1 (pack [(2, f.sel), (1, b2n f.basesp), (4, f.stage)]) ++
    toLE 4 (enc 32 y.pos0) ++ toLE 4 (enc 32 (a.pos c.hall)) ++ toLE 4 y.travel ++ toLE 2 y.vpk ++
    toLE 2 (enc 16 y.fpkm) ++ toLE 2 (enc 16 y.epk) ++ toLE 2 y.amppk ++ toLE 2 a.obs.fpk ++ toLE 2 a.obs.spdec ++
    toLE 4 f.conft.toNat ++ toLE 2 f.kestc ++ toLE 1 y.aflags ++ toLE 1 y.bflt ++ toLE 1 (enc 8 y.tempmx) ++
    toLE 1 (pack [(2, a.hall.posq.code), (3, a.keep.kres)]) ++ toLE 2 y.vdcmin ++ toLE 2 y.dnMiss ++ toLE 2 y.upMiss ++
    toLE 2 y.satt ++ toLE 2 (enc 16 (meanOf y.dragSum y.dragN)) ++
    toLE 4 (if c.isStep && bitOf y.aflags 1 then f.platpos else a.obs.xc).toNat ++ toLE 4 a.hall.track.toNat ++ zeros 8

/-- The block of an axis that is not defined. -/
def noAxisBlock : List Byte := [0xFF] ++ zeros 63

/-- FLAGS1 of R441. -/
def DwaySt.flags1 (d : DwaySt) (disag : Bool) : Nat :=
  let f := d.flags
  maskOf [f.clmiss, f.lockf, f.obstr, f.stepf, f.egrstop, d.nopos, d.stepskip, disag]

/-- A cycle record, or a gap record in its layout, before its SEQ, LOST, TRACE, DEFER and CRC (R441, R447). `flags2` holds
its bits 0 to 6 as far as they are known. -/
def Lane.cycleBody (x : Lane) (l : LaneId) (d t endc gapwhy flags2 : Nat) (train : BitVec 64) (y : Cycle) : List Byte :=
  let w := (x.dway d).cur
  let kind : Nat := if gapwhy = 0 then 1 else 2
  let block := fun (k : Nat) (o : Option Nat) => match o with
    | some n => axisBlock n (x.acfg n) (x.axis n).cur (vget y.axs {} k)
    | none => noAxisBlock
  let c := x.dcfg d
  toLE 1 0x4E ++ toLE 1 kind ++ toLE 1 d ++ toLE 1 endc ++ zeros 8 ++ toLE 4 (pisteOf x.img (laneNum l) 0 0 1).toNat ++
    toLE 8 y.tstart.toNat ++ toLE 8 train.toNat ++ toLE 4 y.tkstart ++ toLE 4 t ++
    toLE 4 (if endc = 1 then w.flags.lastcl else 0) ++ toLE 1 w.flags.reopn ++ toLE 1 w.flags.lockn ++
    toLE 1 (w.flags1 x.ln.car.disag) ++ toLE 1 flags2 ++ toLE 1 0xFF ++ toLE 1 gapwhy ++ toLE 2 y.waitt ++
    toLE 1 x.ln.net.tsync ++ zeros 3 ++ block 0 c.leaf0 ++ block 1 c.leaf1 ++ block 2 c.stepax ++ zeros 8

/-- TRIG bits that a cycle matched (R445). -/
def Lane.trigOf (x : Lane) (d endc : Nat) (y : Cycle) : Nat :=
  let w := (x.dway d).cur
  let any := fun (i : Nat) => y.axs.toList.any fun z => bitOf z.aflags i
  let commit := y.axs.toList.any fun z => z.obstn != 0
  maskOf [commit, any 0, w.flags.clmiss, w.flags.lockf, w.flags.stepf, endc != 1, any 2, any 6 || any 7, y.sw, any 3, any 4,
    w.flags.obstr] &&& x.st.trig

/-- FLAGS2 without DEFER and UNCONF. -/
def Cycle.flags2 (y : Cycle) (learn : Bool) : Nat := maskOf [y.sw, y.cold, false, false, learn, y.yielded, y.held]

/-- What the axes of a doorway have gathered for learning goes: a cycle learns from its own moves (R183). -/
def State.forgetMoves (s : State) (l : LaneId) (d : Nat) : State :=
  ((s.lane l).dcfg d).axesUp.foldl (fun s n => s.modAxis l n (·.both fun a =>
    { a with learn := { a.learn with good := [] } })) s

/-- What each axis of a doorway learns from a completed cycle (R183). -/
def Lane.lessons (x : Lane) (d : Nat) : List (Nat × List LearnCell) :=
  (((x.dcfg d).axesUp).filter fun n => (x.acfg n).obs.learn).map fun n =>
    (n, ((x.axis n).cur.learn.good.filter fun z => 8 ≤ z.n))

/-- A cycle that has ended leaves its record (R436, R438): it waits for the LEDGER task, with its trace where TRIG matched
(R445). -/
def State.cycleClose (s : State) (l : LaneId) (d : Nat) : State :=
  let x := s.lane l
  match vget x.ln.ledg.cycles none d with
  | none => s
  | some y => match y.ending with
    | none => s
    | some (endc, t, train) =>
      let axes := (x.dcfg d).axesUp
      let learn := if endc = 1 then (x.lessons d).filter (fun p => !p.2.isEmpty) else []
      let trig := x.trigOf d endc y
      let trace : Option TraceBuf := if trig = 0 then none else
        some { nax := axes.length, samples := y.samples, tdec := y.tdec, wrap := y.wrap, trig := trig }
      let body := x.cycleBody l d t endc 0 (y.flags2 (!learn.isEmpty)) train y
      let s := s.forgetMoves l d
      s.modLN l fun z => { z with ledg := { z.ledg with
        cycles := vmod z.ledg.cycles d fun _ => none
        due := z.ledg.due ++ [.cycle d t body trace learn] } }

/-- A cycle begins: its buffers are fresh. -/
def State.cycleBegin (s : State) (l : LaneId) (d : Nat) : State :=
  let s := (s.cycleClose l d).forgetMoves l d
  let y := (s.lane l).newCycle d s.tick (s.trainTime l)
  s.modLN l fun x => { x with ledg := { x.ledg with cycles := vmod x.ledg.cycles d fun _ => some y } }

/-- A cycle ends in this tick (R436). -/
def State.cycleEnd (s : State) (l : LaneId) (d endc : Nat) : State :=
  let train := s.trainTime l
  s.modLN l fun z => { z with ledg := { z.ledg with
    cycles := vmod z.ledg.cycles d (Option.map fun y => { y with ending := some (y.ending.getD (endc, s.tick, train)) }) } }

/-- TRACE_SAMPLE (R445). -/
def execTraceSample (l : LaneId) (d : Fin 12) (s : State) : Host.Outcome State Fault Refusal :=
  let x := s.lane l
  .next (s.modLN l fun z => { z with ledg := { z.ledg with
    cycles := vmod z.ledg.cycles d fun c => c.map (x.sample d s.tick) } })

end Sys2Proof.Machine
end

