-- ==== Sys2Proof/Machine/DoorTask.lean ====
section
/-! DEFINITION. The doorway sequencers, their commands and the slalom schedule (chapter 7) as operations on a lane. -/

namespace Sys2Proof.Machine

/-! ### What a result of DOOR asks of the lane (R150, R210, R217, R223, R436) -/

/-- A sequencer's order waits for the next start gate (R210). -/
def State.orderAxis (s : State) (l : LaneId) (o : AxOrder) : State :=
  s.modAxis l o.axis fun a => { a with cmd := { a.cmd with
    seqCmd := some { code := o.code, seq := Config.orderSeq o.axis s.tick, target := some o.target } } }

/-- The context a yield of a sequencer names (R53, R54). -/
def yieldCtx (i : Image) (cause d n : Nat) : Nat :=
  if cause = 2 then i.ctxId 1 n else if cause = 3 then i.ctxId 4 0 else i.ctxId 3 d

/-- Carry out what a result of DOOR asks of the lane. -/
def State.doorOut (s : State) (l : LaneId) (d : Nat) (o : DoorOut) : State :=
  let s := o.orders.foldl (fun s q => s.orderAxis l q) s
  let s := o.yields.foldl (fun s (y : Nat × Nat × Nat) =>
    s.yield l y.1 (yieldCtx (s.img l) y.1 d y.2.1) (some y.2.1) y.2.2) s
  let s := if o.attn then s.attn l 8 else s
  let s := match o.own with
    | some b => ((s.lane l).dcfg d).axesUp.foldl (fun s n => s.modAxis l n fun a =>
        { a with cmd := { a.cmd with ownhost := b } }) s
    | none => s
  let s := if o.disag then (s.modLN l fun x => { x with car := { x.car with disag := true } }).event l 0x0201 d else s
  let s := match o.answer with
    | some (c, rc) => s.modDway l d fun x =>
      { x with seq := c.2, rc := rc.getD x.rc, cmd := if x.cmd == some c then none else x.cmd }
    | none => s
  let s := if o.began then s.cycleBegin l d else s
  match o.ended with
  | some e => s.cycleEnd l d e
  | none => s

/-- An event acts on the newest block of a doorway: on the one being computed, or on the one that waits for its merge, whose
requests its merge carries out, or else on the merged one, with its requests at once. -/
def State.doorNow (s : State) (l : LaneId) (d : Nat) (f : DoorEnv → DwaySt → DwaySt) : State :=
  let v := (s.lane l).doorEnv d s.tick
  match ((s.lane l).dway d).work, ((s.lane l).dway d).acc with
  | some w, _ => s.modDway l d fun x => { x with work := some (f v w) }
  | none, some w => s.modDway l d fun x => { x with acc := some (f v w) }
  | none, none =>
    let s := s.modDway l d fun x => { x with cur := f v { x.cur with out := {} } }
    let s := s.doorOut l d ((s.lane l).dway d).cur.out
    s.modDway l d fun x => { x with cur := { x.cur with out := {} } }

/-- A doorway stops where a condition of its sequencer holds, and what it has ordered and no axis has judged yet is lost
(R218, R253, R487). -/
def State.haltDoor (s : State) (l : LaneId) (d : Nat) (p : DwaySt → Bool) (f : DwaySt → DwaySt) : State :=
  if !p ((s.lane l).dway d).newest then s
  else
    let s := s.doorNow l d fun v z => (f z).halt v
    ((s.lane l).dcfg d).axesUp.foldl (fun s n => s.modAxis l n fun a => { a with cmd := { a.cmd with seqCmd := none } }) s

/-! ### The sequencer (R209 to R223) -/

/-- One DOOR task: the block computed from the accepted one, and the answer to the host's command. -/
def State.doorSeq (s : State) (l : LaneId) (d : Nat) : State :=
  let v := (s.lane l).doorEnv d s.tick
  s.modDway l d fun x =>
    let (w, rc) := x.block.tick v (x.cmd.map (·.1))
    { x with work := some { w with out := { w.out with answer := x.cmd.map fun c => (c, rc) } } }

/-- The doorway's block at TASK_RESULT (R113): accepted, beside an accepted one that still waits for its merge. -/
def Dway.accept (y : Dway) : Dway :=
  match y.work, y.acc with
  | some w, some o => { y with work := none, acc := some { w with out := o.out.join w.out } }
  | some w, none => { y with work := none, acc := some w }
  | none, _ => y

/-- DOOR_SEQ (R211). -/
def execDoorSeq (l : LaneId) (d : Fin 12) (s : State) : Host.Outcome State Fault Refusal := .next (s.doorSeq l d)

/-- WARNING_END: the request of the last warning tick (R210, R221). -/
def execWarningEnd (l : LaneId) (d : Fin 12) (s : State) : Host.Outcome State Fault Refusal :=
  .next (s.doorNow l d fun v z => if z.warnDue v then z.request v else z)

/-- DWELL_EXPIRY (R216). -/
def execDwellExpiry (l : LaneId) (d : Fin 12) (s : State) : Host.Outcome State Fault Refusal :=
  .next (s.doorNow l d fun v z => if z.dwellDue v then z.closeReq v else z)

/-- LOCK_TIMEOUT (R212); a closed-and-locked reading of the same tick is judged first (R234). -/
def execLockTimeout (l : LaneId) (d : Fin 12) (s : State) : Host.Outcome State Fault Refusal :=
  .next (s.doorNow l d fun v z =>
    if z.lockDue v && !(z.st == .locking && v.locked) && !(z.st == .unlock && v.leaves.all (fun x => !x.din 2)) then
      z.lockTimeout v
    else z)

/-- LOCK_PULSE_END (R212). -/
def execLockPulseEnd (l : LaneId) (d : Fin 12) (s : State) : Host.Outcome State Fault Refusal :=
  .next (s.doorNow l d fun v z => if z.pulseDue v then z.pulseEnd v else z)

/-- STEP_LOCK_TIMEOUT (R211). -/
def execStepLockTimeout (l : LaneId) (d : Fin 12) (s : State) : Host.Outcome State Fault Refusal :=
  .next (s.doorNow l d fun v z => if z.stepLockDue v && !v.stowed then z.stepFault v else z)

/-- DISAG (R223). -/
def execDisag (l : LaneId) (d : Fin 12) (s : State) : Host.Outcome State Fault Refusal :=
  .next (s.doorNow l d fun v z => if z.disagDue v then z.disagree else z)

/-! ### Host commands (R233) -/

/-- A host command judged at the present gate. -/
def State.doorCommand (s : State) (l : LaneId) (d code : Nat) (seq : BitVec 8) : State :=
  let v := (s.lane l).doorEnv d s.tick
  let rc := dwayRc v ((s.lane l).dway d).newest code
  let s := if rc = 0 then s.doorNow l d fun v z => z.command v code else s
  s.modDway l d fun x => { x with seq := seq, rc := rc }

/-- OPEN (R220, R233). -/
def execDwayOpen (l : LaneId) (d : Fin 12) (seq : BitVec 8) (s : State) : Host.Outcome State Fault Refusal :=
  .next (s.doorCommand l d 1 seq)

/-- CLOSE (R215, R216, R233). -/
def execDwayClose (l : LaneId) (d : Fin 12) (seq : BitVec 8) (s : State) : Host.Outcome State Fault Refusal :=
  .next (s.doorCommand l d 2 seq)

/-- RESUME (R217). -/
def execDwayResume (l : LaneId) (d : Fin 12) (seq : BitVec 8) (s : State) : Host.Outcome State Fault Refusal :=
  .next (s.doorCommand l d 3 seq)

/-- SVCIN (R219). -/
def execSvcin (l : LaneId) (d : Fin 12) (seq : BitVec 8) (s : State) : Host.Outcome State Fault Refusal :=
  .next (s.doorCommand l d 4 seq)

/-- SVCOUT (R219). -/
def execSvcout (l : LaneId) (d : Fin 12) (seq : BitVec 8) (s : State) : Host.Outcome State Fault Refusal :=
  .next (s.doorCommand l d 5 seq)

/-- STEPSKIP (R213, R233). -/
def execStepskip (l : LaneId) (d : Fin 12) (seq : BitVec 8) (s : State) : Host.Outcome State Fault Refusal :=
  .next (s.doorCommand l d 6 seq)

/-! ### Slalom (R224 to R226) -/

/-- The enabled bricks of the lane, as slalom sees them (R224). -/
def Lane.slalomBricks (x : Lane) : List SlalomBrick :=
  let i := x.img
  (List.range 24).filterMap fun k =>
    let r := k / 6
    let p := k % 6
    if i.ringen r && p < i.nb r && i.brickUsed r p then
      let n := (i.axisAt r p).map AxisRec.axis
      some {
        axis := n
        iq := (n.map fun n => (x.axis n).cur.obs.iq).getD 0
        ifs := (vget (x.ring r).slots {} p).ifs }
    else none

/-- The axes a move of a doorway's present state moves. -/
def Lane.moveAxes (x : Lane) (d : Nat) : List Nat :=
  let z := (x.dway d).cur
  let c := x.dcfg d
  if z.st == .stepOut || z.st == .stepIn || (z.st == .reopen && z.stepMove) then c.stepax.toList
  else c.leaf0.toList ++ c.leaf1.toList

/-- What SLALOM reads in tick t. -/
def Lane.slalomEnv (x : Lane) (t : Nat) : SlalomEnv :=
  { t := t
    c := x.st.car
    bricks := x.slalomBricks
    doors := ((List.range 12).filter fun d => (x.dcfg d).defd).map fun d =>
      { d := d, st := (x.dway d).cur, istart := (x.dcfg d).istart, axes := x.moveAxes d, own := (x.dcfg d).axesUp }
    phase1 := idxs 24 fun n => (x.axis n).cur.prof.phase == .accel && !(x.axis n).cur.snow
    stops := idxs 24 fun n => (x.axis n).cur.snow || (x.axis n).cur.prof.cstop }

/-- SLALOM (R225): the schedule computed from the accepted one. -/
def execSlalom (l : LaneId) (s : State) : Host.Outcome State Fault Refusal :=
  let v := (s.lane l).slalomEnv s.tick
  .next (if (s.lane l).running then s.modLN l fun x => { x with slalomWork := some (v.run x.slalomBlock) } else s)

/-- The schedule at TASK_RESULT (R113). -/
def LaneLN.acceptSlalom (x : LaneLN) : LaneLN :=
  match x.slalomWork with
  | some w =>
    let w := match x.slalomAcc with
      | some o => { w with granted := o.granted ++ w.granted, buderrNow := o.buderrNow || w.buderrNow }
      | none => w
    { x with slalomWork := none, slalomAcc := some w }
  | none => x

end Sys2Proof.Machine
end

