-- ==== Sys2Proof/Machine/AxisTask.lean ====
section
/-! DEFINITION. AX_BASE and the commands of an axis (chapters 4 to 6) as operations on the state of a lane. -/

namespace Sys2Proof.Machine

/-! ### Requests of a result (R165, R195, R196, R198, R253) -/

/-- DETAIL of cause 04h (R54). -/
def Lane.powerFn (x : Lane) : Nat :=
  let rep := x.ln.rpt.rep
  let saf := x.img.sec 0x10
  lowestFn fun f => !rep.sperm.getLsbD f && (List.range 6).any fun o =>
    (outRec saf o).role == 1 && bitOf (outRec saf o).fmask f && !rep.outon.getLsbD o

/-- A commit took stage k of hypothesis h: a fault its pass holds is reported, marked speculative, with a patrol check of
the Blade that ran the task (R196, R370, R372, R458). -/
def State.takeFault (s : State) (l : LaneId) (n h k : Nat) : State :=
  let x := s.lane l
  let y := x.hyp n h
  match y.done with
  | some p =>
    match p.fault with
    | some f =>
      let ctx := x.img.ctxId 2 n h
      let dom := ((x.img.ctx ctx).map CtxRec.dom).getD 0
      let run := vget x.st.ctxrun {} ctx
      let s := s.modHyp l n h fun y => { y with done := some { p with fault := none } }
      let s := s.faultRec l {
        code := f.code, origin := 2, wr := f.write, spec := true, ctx := ctx, dom := dom, va := f.va
        req := pisteOf x.img (laneNum l) run.pod run.blade 0
        aux1 := BitVec.ofNat 32 p.anchor
        aux2 := BitVec.ofNat 32 (pack [(4, k - 1), (2, h), (5, n)]) }
      if f.code = 1 ∨ f.code = 2 then s.queueCheck l (bladeUnit run.pod run.blade) else s
    | none => s
  | none => s

/-- Carry out what a result of AX_BASE asks of the lane. -/
def State.axOut (s : State) (l : LaneId) (n : Nat) (o : AxOut) : State :=
  let s := match o.took with
    | some (h, k) => s.takeFault l n h k
    | none => s
  let s := if o.squash = 2 then s.modLN l (·.squashAll n) else if o.squash = 1 then s.modLN l (·.squashBuilds n) else s
  let s := if o.attn then s.attn l 6 else s
  let s := if o.yield4 then s.yield l 4 ((s.img l).ctxId 1 n) (some n) (s.lane l).powerFn else s
  if o.doorStop then
    let d := ((s.lane l).acfg n).doorway
    s.haltDoor l d (fun z => z.st != .none && z.started) DwaySt.leaveService
  else s

/-- An event acts on the newest block of the axis: on the one being computed, or on the one that waits for its merge, whose
requests its merge carries out, or else on the merged one, with its requests at once. -/
def State.axNow (s : State) (l : LaneId) (n : Nat) (f : AxisSt → AxisSt) : State :=
  match ((s.lane l).axis n).work, ((s.lane l).axis n).acc with
  | some w, _ => s.modAxis l n fun a => { a with work := some (f w) }
  | none, some w => s.modAxis l n fun a => { a with acc := some (f w) }
  | none, none =>
    let s := s.modAxis l n fun a => { a with cur := f { a.cur with out := a.cur.out.done } }
    let s := s.axOut l n ((s.lane l).axis n).cur.out
    s.modAxis l n fun a => { a with cur := { a.cur with out := a.cur.out.done } }

/-! ### AX_BASE (R178) -/

/-- Everything AX_BASE reads beside its own block. -/
structure AxEnv where
  c : AxisCfg
  hyps : Vector Hyp 4
  up : Option UpRec
  expected : Bool
  force : Option SentCmd
  tab : Nat → Int
  three : Bool
  pair : Bool
  edge : Nat
  curt : Nat
  held : Bool
  t : Nat
  gate : Time

/-- A command judged, with its return code (R150, R151). A host's QSTOP is no controlled stop, but the abort of a homing
sequence by one is (R171). -/
def AxisSt.judge (c : AxisCfg) (a : AxisSt) (owns host : Bool) (code : Nat) (target : Int) : AxisSt × Nat :=
  let rc := axRc c a owns host code target
  if rc = 0 then
    let own := host && code == 3 && !a.hom.runs
    let a := a.axDo c code target
    (if own then { a with prof := { a.prof with cstop := false } } else a, 0)
  else (a, rc)

/-- Power loss and return, and the end of a move under R253, from the newest up record. -/
def AxisSt.powerTick (v : AxEnv) (a : AxisSt) : AxisSt :=
  match v.up with
  | none => a
  | some u =>
    let a := if !u.bit 0 then a.powerLost v.c else a.powerBack v.c u.hst u.latch
    if u.bit 1 || u.bit 3 then a.brickStop v.c else a

/-- HFLT and the stop that follows it (R131); a homing sequence takes it in its own place (R171), a snowplough runs on. -/
def AxisSt.hfltAct (a : AxisSt) : AxisSt :=
  let a := a.setHflt
  if a.hom.runs || a.snow || a.prof.phase == .idle then a else a.controlledStop

/-- Hall tracking of the tick and HFLT (R127 to R144); no counts are taken while the power stage is unpowered, and the
record that brings it back counts only as R173 says. An axis with no sensor counts its missing frames (R147). -/
def AxisSt.trackTick (v : AxEnv) (a : AxisSt) (wasOff : Bool) : AxisSt :=
  if v.c.hall.hmode = 2 then
    if v.up.isNone && v.expected then { a with edge := { a.edge with misscnt := satInc 0xFF a.edge.misscnt } } else a
  else
    let a := a.hallTick v.c.hall v.up v.expected (!wasOff) (v.gate - 2500)
    if a.hfltDue v.c.hall then a.hfltAct else a

/-- IQ from the newest up frame and the command in force at its latch (R179); a missed frame leaves IQ as it is. -/
def AxisSt.iqTick (v : AxEnv) (a : AxisSt) : AxisSt :=
  match v.up with
  | none => a
  | some u =>
    let q := match v.force with
      | some x => iqOf v.tab v.three x.addr x.tdNeg u.ia u.ib
      | none => 0
    { a with obs := { a.obs with iq := q } }

/-- The rest of the tick after the commands (R178). -/
def AxisSt.baseTick (v : AxEnv) (a : AxisSt) (wasOff accWrite : Bool) : AxisSt :=
  let c := v.c
  let a := { a with prof := { a.prof with reached := false } }
  let pair := v.pair && a.pairTakes c
  let a := if accWrite then a.accJudge c.mot else a
  let a := a.trackTick v wasOff
  let a := a.limitsTick c (v.up.map UpRec.din)
  let a := a.homTick c
  let a := a.sensors c v.edge v.curt
  let a := a.brakeEnd
  let a := if a.commitNow c pair then a.commit c v.hyps v.t pair ((v.gate - 2500).setWidth 32) else a
  let (a, reached) := a.profileTick c
  let a := a.snowEnd.homRest.restValues c.mot
  let a := ((a.blindTick c).zoneTick c).ampTick c
  let a := if a.stallDue c then a.stallAct c else a
  let a := a.homLate c
  let a := (a.iqTick v).forceTick c
  let a := a.obstacleTick c v.hyps v.t (v.gate.setWidth 32)
  a.learnTick c v.held reached

/-- What AX_BASE of axis n reads at the present gate. -/
def State.axEnv (s : State) (l : LaneId) (n : Nat) : AxEnv :=
  let x := s.lane l
  let c := x.acfg n
  let slot := x.slotOf n
  let img := x.img
  { c := c
    hyps := vget x.ln.hyps (Vector.replicate 4 {}) n
    up := slot.up
    expected := (x.ring c.ring).due
    force := slot.force
    tab := img.tabEntry c.table
    three := img.tabForm c.table == 0
    pair := x.partnerDue n
    edge := vget x.ln.rpt.rep.edges 0 n
    curt := vget x.ln.rpt.rep.curts 0 c.doorway
    held := (x.axis n).cmd.hold
    t := s.tick
    gate := s.lines.gate }

/-- The waiting commands of an axis, judged on its block (R41, R150, R151); the block names them for its merge. -/
def AxisCmdSt.take (q : AxisCmdSt) (c : AxisCfg) (a : AxisSt) : AxisSt :=
  let a := match q.hostCmd with
    | some k =>
      if k.code = 0 then a
      else
        let (a, rc) := a.judge c q.ownhost true k.code q.ptgt.toInt
        { a with out := { a.out with judged := some (k, rc) } }
    | none => a
  let a := match q.seqCmd with
    | some k =>
      let (a, rc) := a.judge c false false k.code (k.target.getD 0)
      { a with out := { a.out with ordered := some (k, rc) } }
    | none => a
  { a with out := { a.out with acc := q.accWrite } }

/-- What a merged result has judged waits no more, and AXIS_CMDST shows its answers (R113, R151). -/
def AxisCmdSt.answer (q : AxisCmdSt) (o : AxOut) : AxisCmdSt :=
  let q := match o.judged with
    | some (k, rc) => { q with seq := k.seq, rc := rc, hostCmd := if q.hostCmd == some k then none else q.hostCmd }
    | none => q
  let q := match o.ordered with
    | some (k, rc) => { q with seq := k.seq, rc := rc, seqCmd := if q.seqCmd == some k then none else q.seqCmd }
    | none => q
  { q with accWrite := q.accWrite && !o.acc }

/-- AX_BASE_TASK: the task of axis n computes its block from the accepted one (R113, R178). The commands are judged before the
writes to configuration fields of the same gate. -/
def State.axBase (s : State) (l : LaneId) (n : Nat) : State :=
  if !(s.lane l).hasAxis n then s
  else
    let v := s.axEnv l n
    s.modAxis l n fun x =>
      let a := { x.block with out := {}, cmpEvent := false }
      let wasOff := a.keep.unpowered
      let a := x.cmd.take (x.cmd.prevCfg.getD v.c) (a.powerTick v)
      { x with work := some (a.baseTick v wasOff x.cmd.accWrite) }

/-- AX_BASE_TASK (R178). -/
def execAxBaseTask (l : LaneId) (n : Fin 24) (s : State) : Host.Outcome State Fault Refusal := .next (s.axBase l n)

/-! ### Events of Hall tracking -/

/-- HFLT (R131). -/
def execHflt (l : LaneId) (n : Fin 24) (s : State) : Host.Outcome State Fault Refusal :=
  let c := (s.lane l).acfg n
  .next (s.axNow l n fun a =>
    if a.hfltDue c.hall then (if a.hom.runs then a.setHflt.homAbort 4 else a.hfltAct) else a)

/-- SPEED_TIMEOUT (R138). -/
def execSpeedTimeout (l : LaneId) (n : Fin 24) (s : State) : Host.Outcome State Fault Refusal :=
  let v := s.axEnv l n
  .next (s.axNow l n fun a => if a.stillNow v.c.hall v.up (v.gate - 2500) then a.setStill else a)

/-! ### Commands (R150 to R157) -/

/-- A command judged at the present gate. -/
def State.axCommand (s : State) (l : LaneId) (n code : Nat) (host : Bool) (seq : BitVec 8) (target : Int) : State :=
  let x := (s.lane l).axis n
  let c := (s.lane l).acfg n
  let rc := axRc c x.newest x.cmd.ownhost host code target
  let s := if rc = 0 then s.axNow l n fun a => (a.judge c true host code target).1 else s
  s.modAxis l n fun x => { x with cmd := { x.cmd with seq := seq, rc := rc } }

/-- MOVE (R151, R152). -/
def execMove (l : LaneId) (n : Fin 24) (src : CmdSrc) (seq : BitVec 8) (s : State) : Host.Outcome State Fault Refusal :=
  match src with
  | .host => .next (s.axCommand l n 1 true seq ((s.lane l).axis n).cmd.ptgt.toInt)
  | .sequencer t => .next (s.axCommand l n 1 false seq t)

/-- STOP (R150, R154). -/
def execStop (l : LaneId) (n : Fin 24) (host : Bool) (seq : BitVec 8) (s : State) : Host.Outcome State Fault Refusal :=
  .next (s.axCommand l n 2 host seq 0)

/-- QSTOP (R150, R154). -/
def execQstop (l : LaneId) (n : Fin 24) (host : Bool) (seq : BitVec 8) (s : State) : Host.Outcome State Fault Refusal :=
  .next (s.axCommand l n 3 host seq 0)

/-- HOME (R168). -/
def execHome (l : LaneId) (n : Fin 24) (host : Bool) (seq : BitVec 8) (s : State) : Host.Outcome State Fault Refusal :=
  .next (s.axCommand l n 4 host seq 0)

/-- A value in its stated range, or the previous one (R176). -/
def inRange (lo hi old new : Nat) : Nat := if lo ≤ new ∧ new ≤ hi then new else old

/-- AXIS_ACC written (R176). -/
def MotCfg.writeAcc (c : MotCfg) (w : Nat) : MotCfg :=
  { c with acc := inRange 50 10000 c.acc (fld w 0 16), dec := inRange 50 10000 c.dec (fld w 16 16) }

/-- AXIS_JERK written (R176). -/
def MotCfg.writeJerk (c : MotCfg) (w : Nat) : MotCfg :=
  { c with jerk := inRange 100 65535 c.jerk (fld w 0 16), qdec := inRange 500 10000 c.qdec (fld w 16 16) }

/-- A write to AXIS_ACC (90h) or AXIS_JERK (94h) is taken (R156, R176): some field of it is in its range. -/
def accTaken (o w : Nat) : Bool :=
  let lo := fld w 0 16
  let hi := fld w 16 16
  if o = 0x90 then (decide (50 ≤ lo) && decide (lo ≤ 10000)) || (decide (50 ≤ hi) && decide (hi ≤ 10000))
  else decide (100 ≤ lo) || (decide (500 ≤ hi) && decide (hi ≤ 10000))

/-- Configuration of axis n of lane l changed by f. -/
def State.modAcfg (s : State) (l : LaneId) (n : Nat) (f : AxisCfg → AxisCfg) : State :=
  s.modST l fun x => { x with axes := vmod x.axes n f }

/-- ACC_WRITE: a write of AXIS_ACC or AXIS_JERK takes effect (R156, R157). -/
def execAccWrite (l : LaneId) (n : Fin 24) (jerkReg : Bool) (val : Word) (s : State) : Host.Outcome State Fault Refusal :=
  let s := s.modAcfg l n fun c =>
    { c with mot := if jerkReg then c.mot.writeJerk val.toNat else c.mot.writeAcc val.toNat }
  let c := ((s.lane l).acfg n).mot
  .next (if accTaken (if jerkReg then 0x94 else 0x90) val.toNat then s.axNow l n (·.accJudge c) else s)

/-! ### Compare slots (R163 to R165) -/

/-- A write of AXIS_CMPC takes effect at this gate, at a track position. -/
def CmpSlot.write (q : CmpSlot) (w : Nat) (track : Int) : CmpSlot :=
  let act := fld w 2 2
  if q.arm then (if bitOf w 0 then q else { q with arm := false, behind := none })
  else if act = 3 then q
  else
    let q := { q with cdir := bitOf w 1, act := act }
    if bitOf w 0 then { q with arm := true, behind := some (q.isBehind track) } else q

/-- The W1C flags of AXIS_CMPC; a write with ACT 11b is ignored (R165, R176). -/
def CmpSlot.clear (q : CmpSlot) (w : Nat) : CmpSlot :=
  if !q.arm && fld w 2 2 == 3 then q else { q with hit := q.hit && !bitOf w 4, late := q.late && !bitOf w 5 }

/-- CMP_ARM (R163, R164). -/
def execCmpArm (l : LaneId) (n : Fin 24) (k : Fin 4) (val : Word) (s : State) : Host.Outcome State Fault Refusal :=
  let w := val.toNat
  .next (s.axNow l n fun a => { a with cmp := vmod a.cmp k fun q => (q.clear w).write w a.hall.track.toInt })

/-! ### Limit inputs and homing (R166 to R171) -/

/-- DEBIN_CHANGE (R166). -/
def execDebinChange (l : LaneId) (n : Fin 24) (i : Fin 4) (s : State) : Host.Outcome State Fault Refusal :=
  let c := (s.lane l).acfg n
  .next (s.axNow l n fun a => if (vget a.lim {} i).changeDue then a.debChange c i else a)

/-- CHAT (R167). -/
def execChat (l : LaneId) (n : Fin 24) (i : Fin 4) (s : State) : Host.Outcome State Fault Refusal :=
  .next (s.axNow l n fun a =>
    if (vget a.lim {} i).chatDue a.frames then
      let a := { a with lim := vmod a.lim i LimIn.setChat }
      if a.hom.runs && i.val < 2 then a.homAbort 2 else a
    else a)

/-- HOMING_BACKOFF_LIMIT (R170). -/
def execHomingBackoffLimit (l : LaneId) (n : Fin 24) (s : State) : Host.Outcome State Fault Refusal :=
  let c := (s.lane l).acfg n
  .next (s.axNow l n fun a => if a.backOffDue c then a.homAbort 7 else a)

/-- HOMING_TIMEOUT (R168). -/
def execHomingTimeout (l : LaneId) (n : Fin 24) (s : State) : Host.Outcome State Fault Refusal :=
  let c := (s.lane l).acfg n
  .next (s.axNow l n fun a => if a.homTimeoutDue c then a.homAbort 3 else a)

/-- STALL_CONFIRM (R162). -/
def execStallConfirm (l : LaneId) (n : Fin 24) (s : State) : Host.Outcome State Fault Refusal :=
  let c := (s.lane l).acfg n
  .next (s.axNow l n fun a => if a.stallDue c then a.stallAct c else a)

/-- BRICK_POWER_LOSS (R173, R174, R208). -/
def execBrickPowerLoss (l : LaneId) (n : Fin 24) (s : State) : Host.Outcome State Fault Refusal :=
  let c := (s.lane l).acfg n
  .next (s.axNow l n (·.powerLost c))

/-- BRICK_POWER_RETURN (R173, R174). -/
def execBrickPowerReturn (l : LaneId) (n : Fin 24) (hall : Fin 8) (s : State) : Host.Outcome State Fault Refusal :=
  let c := (s.lane l).acfg n
  .next (s.axNow l n fun a => a.powerBack c hall (s.lines.gate - 2500))

/-! ### Obstacle detection and the snowplough (R185, R198 to R200) -/

/-- PRE_ARM (R185). -/
def execPreArm (l : LaneId) (n : Fin 24) (s : State) : Host.Outcome State Fault Refusal :=
  let c := (s.lane l).acfg n
  let hyps := vget (s.lane l).ln.hyps (Vector.replicate 4 {}) n
  .next (s.axNow l n fun a => if a.preArmDue c then a.preArm c hyps else a)

/-- PREARM_WITHDRAW (R185). -/
def execPrearmWithdraw (l : LaneId) (n : Fin 24) (s : State) : Host.Outcome State Fault Refusal :=
  let c := (s.lane l).acfg n
  .next (s.axNow l n fun a => if a.withdrawDue c then a.withdraw else a)

/-- OBSTACLE_COMMIT (R198, R201). -/
def execObstacleCommit (l : LaneId) (n : Fin 24) (s : State) : Host.Outcome State Fault Refusal :=
  let v := s.axEnv l n
  .next (s.axNow l n fun a =>
    let pair := v.pair && a.pairTakes v.c
    if a.commitNow v.c pair then a.commit v.c v.hyps v.t pair ((v.gate - 2500).setWidth 32) else a)

/-- SNOWPLOUGH_BRAKE_END (R200). -/
def execSnowploughBrakeEnd (l : LaneId) (n : Fin 24) (s : State) : Host.Outcome State Fault Refusal :=
  .next (s.axNow l n AxisSt.brakeEnd)

/-- SNOWPLOUGH_RELIEF_END (R200). -/
def execSnowploughReliefEnd (l : LaneId) (n : Fin 24) (s : State) : Host.Outcome State Fault Refusal :=
  .next (s.axNow l n AxisSt.reliefEnd)

/-! ### Schuss and learning -/

/-- SCHUSS_STAGE (R190, R191, R196). -/
def execSchussStage (l : LaneId) (n : Fin 24) (h : Fin 4) (flt : Option PageFault) (s : State) :
    Host.Outcome State Fault Refusal :=
  let x := s.lane l
  .next (s.modHyp l n h fun y => y.stage (x.acfg n) (x.axis n).cur.obs.flags.edgeflt flt)

/-- The axis's block at TASK_RESULT (R113): accepted, beside an accepted one that still waits for its merge. -/
def Axis.accept (a : Axis) : Axis :=
  match a.work, a.acc with
  | some w, some o => { a with work := none, acc := some { w with out := o.out.join w.out } }
  | some w, none => { a with work := none, acc := some w }
  | none, _ => a

/-- PASS_AGE_EXPIRY (R193, R194). -/
def execPassAgeExpiry (l : LaneId) (n : Fin 24) (h : Fin 4) (s : State) : Host.Outcome State Fault Refusal :=
  let c := (s.lane l).acfg n
  .next (s.modHyp l n h fun y => { y with hrdy := y.hrdy && y.ready c s.tick })

/-- The learning update of an axis acts (R183). -/
def State.applyLearn (s : State) (l : LaneId) (n : Nat) : State :=
  let a := ((s.lane l).axis n).cur
  if a.learn.apply then
    let s := s.modAcfg l n fun c => { c with dmap := learnMap c a.learn.due }
    let s := s.modLN l fun x => { x with red := { x.red with learned := x.red.learned ++ [n] } }
    s.modAxis l n (·.both fun a => { a with learn := { a.learn with apply := false, due := [] } })
  else s

/-- DRAG_LEARN (R183). -/
def execDragLearn (l : LaneId) (n : Fin 24) (s : State) : Host.Outcome State Fault Refusal := .next (s.applyLearn l n)

/-- The map of an axis as its MOTION record gives it (R184); the layout is a free value (log entry 6). -/
def motionMap (payload : List Byte) (n : Nat) : Vector DragCell 64 :=
  Vector.ofFn fun (i : Fin 64) =>
    { drc := (Config.motionField payload n (100 + 2 * i.val)).toNat
      dro := (Config.motionField payload n (101 + 2 * i.val)).toNat }

/-- The map is seeded from the running MOTION record (R184). -/
def State.seedMap (s : State) (l : LaneId) (n : Nat) : State :=
  let x := s.lane l
  if x.hasAxis n && mapWritable (x.axis n).cur then
    s.modAcfg l n fun c => { c with dmap := motionMap (x.img.sec 0x0B) n }
  else s

/-- DRAG_MAP_SEED: a write of DMSEED takes effect (R184). -/
def execDragMapSeed (l : LaneId) (n : Fin 24) (s : State) : Host.Outcome State Fault Refusal := .next (s.seedMap l n)

/-- One cell pair written by the host (R184): a pair with an entry above DRAGMAX is rejected whole. -/
def State.writeMap (s : State) (l : LaneId) (n i w : Nat) : State :=
  let x := s.lane l
  let hi := (x.acfg n).snow.dragmax
  if mapWritable (x.axis n).cur && fld w 0 16 ≤ hi && fld w 16 16 ≤ hi then
    s.modAcfg l n fun c => { c with dmap := vmod c.dmap i fun _ => { drc := fld w 0 16, dro := fld w 16 16 } }
  else s

/-- DRAG_MAP_WRITE (R184). -/
def execDragMapWrite (l : LaneId) (n : Fin 24) (i : Fin 64) (val : Word) (s : State) : Host.Outcome State Fault Refusal :=
  .next (s.writeMap l n i val.toNat)

end Sys2Proof.Machine
end

