-- ==== Sys2Proof/Machine/Conn.lean ====
section
/-! DEFINITION. Safe connections (R303 to R314): the frame, the checks of a consumer and the states of a connection. -/

namespace Sys2Proof.Machine

/-! ### The safe frame (R303) -/

/-- The fields of a safe frame before its check. -/
def safeFrameHead (cid : Word) (seq ts len : Nat) (permit start sync : Bool) : List Byte :=
  toLE 4 cid.toNat ++ toLE 4 seq ++ toLE 4 ts ++ toLE 2 len ++ toLE 2 (maskOf [permit, start, sync])

/-- A safe frame (R303). -/
def safeFrame (cid : Word) (seq ts : Nat) (permit start sync : Bool) (payload : List Byte) : List Byte :=
  let b := safeFrameHead cid seq ts payload.length permit start sync ++ payload
  b ++ toLE 4 (crc32From cid b).toNat

/-- SCRC passes with a seed (R303). -/
def safeCrcOk (seed : Word) (f : List Byte) : Bool :=
  let n := 16 + le16 f 12
  f.length ≥ n + 4 && (crc32From seed (f.take n)).toNat == le32 f n

/-- The CAN FD data length that holds a frame (R307). -/
def canLen (n : Nat) : Nat := ([20, 24, 32, 48, 64].find? fun k => n ≤ k).getD 64

/-! ### The seal record (R85) -/

/-- The CRC-32C of a seal record (R85). -/
def SealRec.check (r : SealRec) : Word :=
  crc32c (toLE 4 r.chkv.toNat ++ toLE 2 r.fold.toNat ++ toLE 2 r.epoch ++ toLE 4 r.imgcrc.toNat ++ toLE 8 r.time.toNat ++
    toLE 4 r.count)

/-- A seal record is in force (R75, R85, R86). -/
def SealRec.present (r : SealRec) : Bool := r.count != 0 && !r.wdrawn && r.crc == r.check

/-- RWL fields are locked (R12). -/
def State.sealed (s : State) : Bool := s.keep.sealRec.present

/-! ### The seal plug (R79, R95) -/

/-- A reading of the seal plug, where its three samples agree: one that differs from the last while a stream runs is
reported. -/
def State.readPlug (s : State) : State :=
  let v := s.lines.plugLevel
  if !s.lines.plugGood || v == s.keep.plug then s
  else
    let s := s.modModKeep fun k => { k with plug := v }
    if s.laneA.running || s.laneB.running then
      ((s.modLanes fun x => { x with mr := { x.mr with plugchg := true } }).attnBoth 3).eventBoth 0x0101 v.toNat
    else s

/-- A valid reading of the plug is the fold of a check value. -/
def State.plugIs (s : State) (fold : BitVec 16) : Bool := s.lines.plugGood && s.lines.plugLevel == fold

/-! ### Reaching a connection -/

/-- The SAFETY payload in use; empty without a stream. -/
def SafetyCore.saf (c : SafetyCore) : List Byte := (c.sealSec.map (·.1)).getD []
def SafetyCore.refRec (c : SafetyCore) : List Byte := (c.sealSec.map (·.2)).getD []

/-- Connection k. -/
def SafetyCore.conn (c : SafetyCore) (k : Nat) : Conn := vget c.conns {} k

/-- Connection k changed. -/
def State.modConn (s : State) (k : Nat) (f : Conn → Conn) : State := s.modSc fun c => { c with conns := vmod c.conns k f }

/-- The permit and payload that the safety core uses (R312). -/
def Conn.permits (c : Conn) : Bool := c.st == .valid && c.permit
def Conn.data (r : ConnRec) (c : Conn) : List Byte := if c.st = .valid then c.payload else zeros r.plen

/-- A connection fails with a code (R309 to R311). -/
def Conn.fail (c : Conn) (code : Nat) : Conn :=
  { c with
    st := .invalid, code := code, invcnt := if c.st = .invalid then c.invcnt else satInc 0xFF c.invcnt, rcnt := 0
    origin := false, permit := false, payload := [] }

/-- A connection becomes INVALID, or has a new cause where it is; an entry raises HATTN and is written as an event (R319). -/
def State.connInvalid (s : State) (k code : Nat) : State :=
  let was := (s.sc.conn k).st
  let s := s.modConn k fun c => c.fail code
  if was = .invalid then s else (s.attnBoth 11).eventBoth 0x0401 (pack [(6, k), (2, 0), (4, code)])

/-! ### Checks of a consumer (R309, R311) -/

/-- What a check of R309 decides. -/
inductive Verdict
  | length
  | crc
  | foreign
  | ident
  | restart
  | time
  | age
  | dup
  | jump
  | pass
  deriving DecidableEq, Repr

/-- The verdict of R309 on a frame for connection k in a given state; `synced` says that the consumer's train time is locked
and its time check good, `now` is the present train time. -/
def verdict (r : ConnRec) (c : Conn) (synced : Bool) (now : Nat) (f : List Byte) : Verdict :=
  let n := 20 + r.plen
  let cid := le32 f 0
  let live := c.st == .valid || c.st == .ackwait
  let fl := le16 f 14
  let age := sgn 32 ((now + 2 ^ 32 - le32 f 8) % 2 ^ 32)
  let d := (le32 f 4 + 2 ^ 32 - c.seq.toNat) % 2 ^ 32
  if le16 f 12 ≠ r.plen ∨ (f.length ≠ n ∧ f.length ≠ canLen n) then .length
  else if !safeCrcOk r.cid f then
    (if safeCrcOk (BitVec.ofNat 32 cid) f && cid != r.cid.toNat then .foreign else .crc)
  else if cid ≠ r.cid.toNat then .ident
  else if live && bitOf fl 1 then .restart
  else if r.agemax ≠ 0 ∧ !(bitOf fl 2 && synced) then .time
  else if r.agemax ≠ 0 ∧ (age < -2000 ∨ (r.agemax : Int) * 100000 < age) then .age
  else if !live && !c.origin then .pass
  else if d = 0 ∨ 2 ^ 31 ≤ d then .dup
  else if r.seqwin < d then .jump
  else .pass

/-- A frame's own values, taken by the connection. -/
def Conn.accept (c : Conn) (f : List Byte) : Conn :=
  { c with
    seq := BitVec.ofNat 32 (le32 f 4), permit := bitOf (le16 f 14) 0, payload := slice f 16 (le16 f 12), wdMs := 0, wdNew := true }

/-- A frame that passes in WAIT or INVALID: origin, count, or reintegration (R311). -/
def Conn.reintegrate (r : ConnRec) (c : Conn) (f : List Byte) : Conn :=
  if !c.origin then { c.accept f with origin := true, rcnt := 0 }
  else if c.rcnt + 1 < r.reint then { c.accept f with rcnt := c.rcnt + 1 }
  else { c.accept f with rcnt := c.rcnt + 1, st := if r.manual then .ackwait else .valid, code := 0 }

/-- A discarded frame: its counts, and the reintegration count back to 0 (R309, R311). -/
def Conn.discard (c : Conn) (v : Verdict) (time : Nat) : Conn :=
  let c := match v with
    | .crc => { c with
        crcerr := satInc 0xFF c.crcerr, crcTimes := time :: c.crcTimes.filter fun t => time < t + 1000 }
    | .dup => { c with dup := satInc 0xFF c.dup }
    | _ => { c with ageerr := satInc 0xFF c.ageerr }
  if v == .dup then c else { c with rcnt := 0 }

/-- The train time the safety core uses, and whether it is locked (R302). -/
def State.safeTime (s : State) : Nat := (s.trainTime s.ref.owner).toNat % 2 ^ 32
def State.safeSynced (s : State) : Bool := (s.lane s.ref.owner).ln.net.tsync == 2 && !s.sc.tbad

/-- SAFE_FRAME_CHECK of one frame delivered for connection k (R309, R311, R320). -/
def State.frameCheck (s : State) (k : Nat) (f : List Byte) : State :=
  let r := connRec s.sc.saf k
  let c := s.sc.conn k
  let v := verdict r c s.safeSynced s.safeTime f
  let live := c.st == .valid || c.st == .ackwait
  let time := s.sc.time
  if c.st == .unused || c.st == .producing then s
  else match v with
  | .pass => s.modConn k fun c => if live then c.accept f else c.reintegrate r f
  | .foreign => s.connInvalid k 6
  | .crc =>
    let s := s.modConn k fun c => c.discard v time
    if live && 8 < (s.sc.conn k).crcTimes.length then s.connInvalid k 2 else s
  | .length | .dup => s.modConn k fun c => c.discard v time
  | .ident => if live then s.connInvalid k 6 else s.modConn k fun c => c.discard v time
  | .restart => (s.connInvalid k 7).modConn k fun c => { c.accept f with origin := true, permit := false, payload := [] }
  | .time => if live then s.connInvalid k 5 else s.modConn k fun c => c.discard v time
  | .age => if live then s.connInvalid k 4 else s.modConn k fun c => c.discard v time
  | .jump =>
    if live then s.connInvalid k 3
    else s.modConn k fun c => { c.accept f with rcnt := 0, origin := true }

/-- SAFE_FRAME_CHECK (R309); the frame no longer waits for the scan. -/
def execSafeFrameCheck (k : Fin 64) (frame : List Byte) (s : State) : Host.Outcome State Fault Refusal :=
  let s := s.modSc fun c => { c with inbox := c.inbox.erase (k.val, frame) }
  .next (if s.sc.scrun then s.frameCheck k frame else s)

/-- The watchdog of a connection has run out (R310). -/
def SafetyCore.wdDue (c : SafetyCore) (k : Nat) : Bool :=
  let x := c.conn k
  (x.st == .valid || x.st == .ackwait) && (connRec c.saf k).wdto ≤ x.wdMs

/-- CONN_WATCHDOG (R310). -/
def State.watchdog (s : State) (k : Nat) : State := if s.sc.wdDue k then s.connInvalid k 1 else s

/-- CONN_WATCHDOG (R310). -/
def execConnWatchdog (k : Fin 64) (s : State) : Host.Outcome State Fault Refusal := .next (s.watchdog k)

/-! ### Producing (R304, R305) -/

/-- A function is permitted by the safety core (SPERM). -/
def SafetyCore.sperm (c : SafetyCore) (f : Nat) : Bool := (vget c.fns {} f).sc.st == .run

/-- Every LOOP function is permitted, and there is one. -/
def SafetyCore.allLoops (c : SafetyCore) : Bool :=
  let ls := idxs 16 fun f => (fnRec c.saf f).typ == 2
  !ls.isEmpty && ls.all c.sperm

/-- The standing state of an output, which its contactor follows: a test pulse does not change it. -/
def SafeOut.standing (o : SafeOut) : Bool := o.hon && o.lon && o.ocode == 0

/-- An output is on (R263): both switches are closed, so neither is in a test pulse. -/
def SafeOut.on (o : SafeOut) : Bool := o.standing && o.testing.isNone

/-- The traction-interlock output is on. -/
def SafetyCore.tract (c : SafetyCore) : Bool :=
  (List.range 6).any fun o => (outRec c.saf o).role == 2 && (vget c.outs {} o).on

/-- The status block of a produced frame, from the scan's report (R304). -/
def Report.block (r : Report) : List Byte :=
  toLE 2 r.sperm.toNat ++ toLE 1 r.outon.toNat ++ toLE 1 (maskOf [r.zspd, r.rell, r.relr, r.tract]) ++ toLE 2 r.loops.toNat ++
    toLE 2 r.egr.toNat ++ zeros 8

/-- A frame into the safe-frame queue of a lane (R305). -/
def NetLN.enqueue (n : NetLN) (k : Nat) (f : List Byte) : NetLN :=
  if 64 ≤ n.queue.length then { n with queue := n.queue.drop 1 ++ [(k, f)], qdrop := satInc 0xFFFF n.qdrop }
  else { n with queue := n.queue ++ [(k, f)] }

/-- A produced connection is due: PERIOD has passed since its last frame. -/
def SafetyCore.frameDue (c : SafetyCore) (k : Nat) : Bool :=
  let x := c.conn k
  x.st == .producing && (!x.started || (connRec c.saf k).period ≤ x.wdMs)

/-- SAFE_FRAME_PRODUCE (R304, R305). -/
def State.frameProduce (s : State) (k : Nat) : State :=
  let c := s.sc
  if !c.frameDue k then s
  else
    let r := connRec c.saf k
    let x := c.conn k
    let permit := if r.permf = 0x10 then c.allLoops else c.sperm r.permf
    let seq := (x.seq.toNat + 1) % 2 ^ 32
    let sync := (s.lane s.ref.owner).ln.net.tsync == 2
    let f := safeFrame r.cid seq s.safeTime permit (!x.started) sync (c.rep.block ++ zeros (r.plen - 16))
    let s := s.modConn k fun x => { x with seq := BitVec.ofNat 32 seq, started := true, wdMs := 0 }
    s.modLanes fun l => { l with ln := { l.ln with net := l.ln.net.enqueue k f } }

/-- SAFE_FRAME_PRODUCE (R305). -/
def execSafeFrameProduce (k : Fin 64) (s : State) : Host.Outcome State Fault Refusal :=
  .next (if s.sc.scrun then s.frameProduce k else s)

/-! ### One scan of the connections (R310, R311, R320) -/

/-- The timebase check of a scan (R310): the last 100 ms of the timebase against the safety core's oscillator. -/
def SafetyCore.timeCheck (c : SafetyCore) (now : Time) : SafetyCore :=
  let h := (now :: c.tbHist).take 101
  match h[100]? with
  | some t =>
    let d := (now - t).toNat
    { c with tbHist := h, tbad := d < 9900000 || 10100000 < d }
  | none => { c with tbHist := h }

/-- The watchdog of a connection over a scan: it counts the ms since the last accepted frame arrived. -/
def Conn.count (c : Conn) : Conn := { c with wdMs := if c.wdNew then c.wdMs else c.wdMs + 1, wdNew := false }

/-- The connections of a scan: waiting frames are checked first, then the watchdogs. -/
def State.connScan (s : State) : State :=
  let now := s.lines.now
  let s := s.modSc fun c => c.timeCheck now
  let box := s.sc.inbox
  let s := s.modSc fun c => { c with inbox := [], conns := c.conns.map Conn.count }
  let s := box.foldl (fun s (p : Nat × List Byte) => s.frameCheck p.1 p.2) s
  let s := s.modSc fun c => { c with conns := c.conns.map fun x => { x with wdNew := false } }
  (List.range 64).foldl (fun s k => s.watchdog k) s

/-- The connections as the sealed records leave them after a load (R311). Their sequence numbers and counts are of class MR, and
START is 1 only after a module reset (R305, R319). -/
def connsOf (saf : List Byte) (old : Vector Conn 64) : Vector Conn 64 :=
  old.mapFinIdx fun k c _ =>
    { c with
      st := if safeNconn saf ≤ k then .unused else if (connRec saf k).produce then .producing else .wait
      permit := false, payload := [], code := 0, rcnt := 0, origin := false, crcTimes := [] }

end Sys2Proof.Machine
end

