-- ==== Sys2Proof/Machine/Dma.lean ====
section
/-! DEFINITION. The DMA engine of a lane (chapter 12): descriptors, bursts, pre-emption, faults and their records. -/

namespace Sys2Proof.Machine

/-! ### Descriptors (R362, R363) -/

/-- Word k of the descriptor in force. -/
def DmaCh.word (h : DmaCh) (k : Nat) : Nat := (vget h.words 0 k).toNat

def DmaCh.srcVa (h : DmaCh) : Nat := fld (h.word 0) 0 24
def DmaCh.sdom (h : DmaCh) : Nat := fld (h.word 0) 24 5
def DmaCh.dstVa (h : DmaCh) : Nat := fld (h.word 1) 0 24
def DmaCh.ddom (h : DmaCh) : Nat := fld (h.word 1) 24 5
def DmaCh.len (h : DmaCh) : Nat := fld (h.word 2) 0 24
def DmaCh.irq (h : DmaCh) : Bool := bitOf (h.word 3) 0
def DmaCh.chain (h : DmaCh) : Bool := bitOf (h.word 3) 1
def DmaCh.fill (h : DmaCh) : Bool := bitOf (h.word 3) 2
def DmaCh.next (h : DmaCh) : Nat := fld (h.word 4) 0 24

/-- A reserved bit of the descriptor is set (R362). -/
def DmaCh.reserved (h : DmaCh) : Bool :=
  (!h.fill && fld (h.word 0) 29 3 != 0) || fld (h.word 1) 29 3 != 0 || fld (h.word 2) 24 8 != 0 ||
    fld (h.word 3) 3 5 != 0 || fld (h.word 3) 16 16 != 0 || fld (h.word 4) 24 8 != 0

/-- Who a channel asks for (R352, R355). -/
def Image.chReq (i : Image) (c : Nat) : Requester :=
  if i.chOwner c = 1 then .steward
  else if i.chOwner c = 2 then .host
  else .context (((i.ctx (i.chCtx c)).map CtxRec.dom).getD 0)

/-- A fault of a channel: its code, and the domain, address and direction of the access concerned. -/
structure DmaFault where
  code : Nat
  dom : Nat
  va : Nat
  wr : Bool
  deriving DecidableEq, Repr

/-- R363: the judgement of a descriptor, before any byte moves; `extra` that words 5 to 7 hold a bit. -/
def DmaCh.judge (i : Image) (c : Nat) (h : DmaCh) (extra : Bool) : Option DmaFault :=
  if h.reserved || extra then some { code := 4, dom := i.chDom c, va := h.curva, wr := false }
  else if !h.fill && !mayName i (i.chReq c) h.sdom false then some { code := 3, dom := h.sdom, va := h.srcVa, wr := false }
  else if !mayName i (i.chReq c) h.ddom true then some { code := 3, dom := h.ddom, va := h.dstVa, wr := true }
  else if !h.fill && (i.dom h.sdom).npages * 4096 < h.srcVa + h.len then
    some { code := 4, dom := h.sdom, va := h.srcVa, wr := false }
  else if (i.dom h.ddom).npages * 4096 < h.dstVa + h.len then some { code := 4, dom := h.ddom, va := h.dstVa, wr := true }
  else none

/-- R369: which codes can be resumed. -/
def dmaResumable (code : Nat) : Bool := code == 1 || code == 2 || code == 5 || code == 6

/-! ### A lane's engine -/

/-- Channel c of a lane. -/
def Lane.dmaCh (x : Lane) (c : Nat) : DmaCh := vget x.ln.dma.chs {} c

/-- Channel c of lane l changed by f. -/
def State.modDma (s : State) (l : LaneId) (c : Nat) (f : DmaCh → DmaCh) : State :=
  s.modLN l fun x => { x with dma := { x.dma with chs := vmod x.dma.chs c f } }

/-- DONE or FLT of a host channel with IRQ raises HATTN (R362, R375). -/
def State.dmaIrq (s : State) (l : LaneId) (c : Nat) : State :=
  if ((s.lane l).dmaCh c).irq && (s.img l).chOwner c == 2 then s.attn l 13 else s

/-- A fault stops the channel at an offset, and writes its record (R364, R366, R368 to R370, R372). -/
def State.dmaFault (s : State) (l : LaneId) (c off : Nat) (f : DmaFault) : State :=
  let h := (s.lane l).dmaCh c
  let i := s.img l
  let res := dmaResumable f.code
  let s := s.modDma l c fun h =>
    { h with st := 5, fcode := f.code, resumable := res, flt := true, pres := h.preRun, off := off, justRes := false }
  let s := s.modLN l fun x => { x with dma := { x.dma with
    faults := satInc 0xFFFF x.dma.faults, lenerr := x.dma.lenerr || f.code == 4 } }
  let s := s.faultRec l {
    code := f.code
    origin := 0
    wr := f.wr
    resumable := res
    pres := h.preRun
    ctx := if i.chOwner c = 3 then i.chCtx c else 0
    dom := f.dom
    va := f.va
    offset := off
    req := pisteOf i (laneNum l) 0 c 5
    aux1 := BitVec.ofNat 32 h.lastPre
    aux2 := BitVec.ofNat 32 (pack [(3, c), (5, 0), (8, h.tag)]) }
  let s := if f.code = 1 ∨ f.code = 2 then s.queueCheck l ((s.lane l).entryUnit f.dom f.va) else s
  s.dmaIrq l c

/-- The descriptor in force is complete (R362, R363): DONE, or the next descriptor is fetched. -/
def State.dmaComplete (s : State) (l : LaneId) (c : Nat) : State :=
  let h := (s.lane l).dmaCh c
  let sets := !h.chain || h.len == 0
  let s := s.modDma l c fun h =>
    if h.chain then { h with done := h.done || sets, fetch := true, curva := h.next, off := 0 }
    else { h with done := true, st := 4 }
  if sets then s.dmaIrq l c else s

/-- A descriptor begins: it is judged (R363), and one without bytes is complete at once. -/
def State.dmaBegin (s : State) (l : LaneId) (c : Nat) (extra : Bool) : State :=
  let s := s.modDma l c fun h => { h with tag := fld (h.word 3) 8 8, off := 0 }
  let h := (s.lane l).dmaCh c
  match h.judge (s.img l) c extra with
  | some f => s.dmaFault l c 0 f
  | none => if h.len = 0 then s.dmaComplete l c else s

/-- No channel of the lane is running. -/
def Lane.dmaIdle (x : Lane) : Bool := x.ln.dma.chs.toList.all fun h => h.st != 2

/-- A command to a channel that it is not in a state for (R367). -/
def State.dmaReject (s : State) (l : LaneId) (c : Nat) : State := s.modDma l c fun h => { h with rej := true }

/-- START of the descriptor in the registers (R363, R367): the host's registers, or what a steward or a context has put
there for a channel that it owns. A channel without an owner has no one to start it. -/
def State.dmaStart (s : State) (l : LaneId) (c : Nat) (own : Vector Word 5) : State :=
  let owner := (s.img l).chOwner c
  let h := (s.lane l).dmaCh c
  if owner = 0 then s
  else if h.st = 1 ∨ h.st = 2 ∨ h.st = 3 ∨ h.st = 5 then s.dmaReject l c
  else
    let st := if (s.lane l).dmaIdle then 2 else 1
    let regs := if owner = 2 then h.regs else own
    let s := s.modDma l c fun h => { h with
      regs := regs, words := regs, st := st, fcode := 0, resumable := false, pres := false, preRun := false, justRes := false,
      lastPre := 0, curva := 0, fetch := false }
    s.dmaBegin l c false

/-- DMA_START (R363). -/
def execDmaStart (l : LaneId) (c : Fin 8) (own : Vector Word 5) (s : State) : Host.Outcome State Fault Refusal :=
  .next (s.dmaStart l c own)

/-- RESUME of a channel that a resumable fault stopped (R367, R368). -/
def State.dmaResume (s : State) (l : LaneId) (c : Nat) : State :=
  let h := (s.lane l).dmaCh c
  if h.st = 5 ∧ h.resumable = true then
    let st := if (s.lane l).dmaIdle then 2 else 1
    s.modDma l c fun h => { h with
      st := st, fcode := 0, resumable := false, pres := false, preRun := false, justRes := false, lastPre := 0 }
  else s.dmaReject l c

/-- DMA_RESUME (R367). -/
def execDmaResume (l : LaneId) (c : Fin 8) (s : State) : Host.Outcome State Fault Refusal := .next (s.dmaResume l c)

/-- ABORT (R367). -/
def State.dmaAbort (s : State) (l : LaneId) (c : Nat) : State :=
  s.modDma l c fun h => if h.st = 1 ∨ h.st = 2 ∨ h.st = 3 ∨ h.st = 5 then { h with st := 6 } else h

/-- DMA_ABORT (R367). -/
def execDmaAbort (l : LaneId) (c : Fin 8) (s : State) : Host.Outcome State Fault Refusal := .next (s.dmaAbort l c)

/-! ### One burst (R361, R364 to R366, R348) -/

/-- The channel that the engine serves next (R361): highest PRIO, then lowest number, of those ready. -/
def Lane.dmaServed (x : Lane) : Option Nat :=
  let ready := idxs 8 fun c => (x.dmaCh c).st == 1 || (x.dmaCh c).st == 2 || (x.dmaCh c).st == 3
  ready.foldl (fun best c => match best with
    | some b => if x.img.chPrio b < x.img.chPrio c then some c else some b
    | none => some c) none

/-- An access of the burst meets an uncorrectable word. -/
def eccBad (ecc : List EccEvent) (pa : Nat) : Bool :=
  isSram pa && ecc.any fun e => match e with
    | .uncorrectable a => a / 8 == pa / 8
    | .corrected _ => false

/-- Byte k of a burst (R350, R364): the memory after it, or its fault. -/
def dmaByte (i : Image) (h : DmaCh) (ecc : List EccEvent) (m : Memory) (k : Nat) : Except DmaFault Memory :=
  let write := fun (v : Byte) => match translate i h.ddom (h.dstVa + k) true with
    | .ok pa => Except.ok (m.put pa v)
    | .error e => Except.error { code := e, dom := h.ddom, va := h.dstVa + k, wr := true : DmaFault }
  if h.fill then write (BitVec.ofNat 8 (h.word 0 / 256 ^ (k % 4)))
  else
    match translate i h.sdom (h.srcVa + k) false with
    | .error e => .error { code := e, dom := h.sdom, va := h.srcVa + k, wr := false }
    | .ok pa =>
      if eccBad ecc pa then .error { code := 5, dom := h.sdom, va := h.srcVa + k, wr := false }
      else write (physByte m pa)

/-- Up to n bytes of a transfer from offset k on: the memory, the offset reached, and the fault that stopped it. -/
def dmaBytes (i : Image) (h : DmaCh) (ecc : List EccEvent) : Nat → Nat → Memory → Memory × Nat × Option DmaFault
  | 0, k, m => (m, k, none)
  | n + 1, k, m =>
    match dmaByte i h ecc m k with
    | .ok m' => dmaBytes i h ecc n (k + 1) m'
    | .error f => (m, k, some f)

/-- Bytes of the next burst (R361). -/
def DmaCh.burstLen (h : DmaCh) : Nat := min (64 - (h.dstVa + h.off) % 64) (h.len - h.off)

/-- The ECC events of the words that a burst reads (R348): counted, flagged, and their rows checked. -/
def State.eccSeen (s : State) (l : LaneId) (read : Nat → Bool) (ecc : List EccEvent) : State :=
  ecc.foldl (fun s e => match e with
    | .corrected pa =>
      if read pa then (s.modLN l fun x => { x with dma := { x.dma with eccce := satInc 0xFF x.dma.eccce } }).queueCheck l ((s.lane l).keep.rowAt pa)
      else s
    | .uncorrectable pa =>
      if read pa then (s.modLN l fun x => { x with dma := { x.dma with eccue := true } }).queueCheck l ((s.lane l).keep.rowAt pa)
      else s) s

/-- One access of a program (R348, R350 to R352): its state, and the code of R369 where it faults, being then not performed. -/
def State.access (s : State) (l : LaneId) (r : Requester) (a : MemAccess) : State × Option Nat :=
  let i := s.img l
  if !mayName i r a.dom a.write then (s, some 3)
  else match translate i a.dom a.va a.write with
    | .error e => (s, some e)
    | .ok pa =>
      if a.write then (s.modKeep l fun k => { k with mem := Memory.write k.mem pa (toLE 4 a.word.toNat) }, none)
      else match a.ecc with
        | some true => if isSram pa then (s.eccSeen l isSram [.uncorrectable pa], some 5) else (s, none)
        | some false => (s.eccSeen l isSram [.corrected pa], none)
        | none => (s, none)

/-- The accesses of a program in order, up to the first that faults. -/
def State.accesses (s : State) (l : LaneId) (r : Requester) : List MemAccess → State × Option (Nat × MemAccess)
  | [] => (s, none)
  | a :: as => match s.access l r a with
    | (s, none) => s.accesses l r as
    | (s, some e) => (s, some (e, a))

/-- The 64-bit SRAM word of pa holds one of the source bytes from offset a to b. -/
def DmaCh.reads (i : Image) (h : DmaCh) (a b pa : Nat) : Bool :=
  isSram pa && !h.fill && ((List.range (b - a)).any fun k => match translate i h.sdom (h.srcVa + a + k) false with
    | .ok q => q / 8 == pa / 8
    | .error _ => false)

/-- One burst of data (R361, R364, R366). A fault in the first burst after a pre-emption leaves the saved state. -/
def State.dmaMove (s : State) (l : LaneId) (c : Nat) (ecc : List EccEvent) : State :=
  let h := (s.lane l).dmaCh c
  let i := s.img l
  let (m, k, f) := dmaBytes i h ecc h.burstLen h.off (s.lane l).keep.mem
  let s := s.eccSeen l (h.reads i h.off (if f.isSome then k + 1 else k)) ecc
  match f with
  | some f =>
    if h.justRes then s.dmaFault l c h.off f
    else (s.modKeep l fun x => { x with mem := m }).dmaFault l c k f
  | none =>
    let s := s.modKeep l fun x => { x with mem := m }
    let s := s.modDma l c fun h => { h with off := k, justRes := false }
    if k = h.len then s.dmaComplete l c else s

/-- The fetch of a chained descriptor (R362, R368). -/
def State.dmaFetch (s : State) (l : LaneId) (c : Nat) (ecc : List EccEvent) : State :=
  let h := (s.lane l).dmaCh c
  let i := s.img l
  let d := i.chDom c
  match translate i d h.curva false with
  | .error e => s.dmaFault l c 0 { code := e, dom := d, va := h.curva, wr := false }
  | .ok pa =>
    let hit := fun q => isSram q && decide (pa / 8 ≤ q / 8) && decide (q / 8 ≤ (pa + 31) / 8)
    let s := s.eccSeen l hit ecc
    if (List.range 32).any (fun k => eccBad ecc (pa + k)) then
      s.dmaFault l c 0 { code := 5, dom := d, va := h.curva, wr := false }
    else
      let bs := (List.range 32).map fun k => physByte (s.lane l).keep.mem (pa + k)
      let s := s.modDma l c fun h => { h with
        words := Vector.ofFn fun (k : Fin 5) => BitVec.ofNat 32 (le32 bs (4 * k.val))
        fetch := false
        justRes := false }
      s.dmaBegin l c (bs.drop 20 != zeros 12)

/-- The engine serves one burst (R361, R365). -/
def State.dmaBurst (s : State) (l : LaneId) (ecc : List EccEvent) : State :=
  match (s.lane l).dmaServed with
  | none => s
  | some c =>
    let s := (List.range 8).foldl (fun s k => s.modDma l k fun h =>
      if k ≠ c ∧ h.st = 2 then { h with st := 3, precnt := satInc 0xFFFF h.precnt, lastPre := h.off } else h) s
    let s := s.modDma l c fun h => { h with st := 2, justRes := h.justRes || h.st == 3, preRun := h.preRun || h.st == 3 }
    if ((s.lane l).dmaCh c).fetch then s.dmaFetch l c ecc else s.dmaMove l c ecc

/-- DMA_BURST (R361). -/
def execDmaBurst (l : LaneId) (ecc : List EccEvent) (s : State) : Host.Outcome State Fault Refusal :=
  .next (s.dmaBurst l ecc)

/-! ### Changes of the mapping (R357) and the fault log -/

/-- Domain d differs between two images, in its record or in one of its entries. -/
def domChanged (i j : Image) (d : Nat) : Bool :=
  i.dom d != j.dom d || (List.range (i.dom d).npages).any fun p =>
    i.entry ((i.dom d).ptoff + p) != j.entry ((j.dom d).ptoff + p)

/-- A channel's descriptor names a domain that changed. -/
def DmaCh.hit (h : DmaCh) (i j : Image) : Bool :=
  (!h.fill && domChanged i j h.sdom) || domChanged i j h.ddom

/-- The effect of a changed mapping on apertures and channels, where `i` was in force and `j` is now (R357). -/
def State.remap (s : State) (l : LaneId) (i j : Image) : State :=
  let s := s.modMR l fun m => { m with apers := m.apers.map fun a =>
    { a with en := a.en && (j.dom a.dom).host, wr := a.wr && (j.dom a.dom).hostwr } }
  (List.range 8).foldl (fun s c =>
    let h := (s.lane l).dmaCh c
    if (h.st = 2 ∨ h.st = 3) ∧ h.hit i j = true then
      let src := !h.fill && domChanged i j h.sdom
      s.dmaFault l c h.off (if src then { code := 6, dom := h.sdom, va := h.srcVa + h.off, wr := false }
        else { code := 6, dom := h.ddom, va := h.dstVa + h.off, wr := true })
    else s) s

/-- FAULT_LOG_CLR (R371, R375). -/
def execFaultLogClr (l : LaneId) (s : State) : Host.Outcome State Fault Refusal :=
  .next (s.modMR l fun m => { m with fhead := { m.fhead with count := 0, ovr := 0 } })

end Sys2Proof.Machine
end

