-- ==== Sys2Proof/Machine/Glide.lean ====
section
/-! DEFINITION. The frames of a glide ring and what a brick does with them (R235 to R255, R261 to R263, R463). -/

namespace Sys2Proof.Machine

/-! ### Frames (R238 to R241) -/

/-- The code of TYPE. -/
def FType.code : FType → Nat
  | .cyclic => 0
  | .enum => 1
  | .desc => 2
  | .config => 3
  | .push => 4
  | .arm => 5
  | .loopT => 6
  | .beacon => 7

/-- A frame header (R238). -/
structure FHdr where
  typ : FType := .cyclic
  nb : Nat := 0
  svc : Bool := false
  rep : Bool := false
  laneB : Bool := false
  tbg : Nat := 0
  deriving DecidableEq, Repr

/-- The eight bytes of a header on a ring (R238, R240). -/
def FHdr.bytes (ring : Nat) (h : FHdr) : List Byte :=
  withCrc ring .header
    (toLE 1 h.typ.code ++ toLE 1 (pack [(3, h.nb), (1, b2n h.svc), (1, b2n h.rep), (1, b2n h.laneB)]) ++ toLE 4 h.tbg)

/-- The types by code. -/
def ftypeOf (n : Nat) : Option FType :=
  [FType.cyclic, .enum, .desc, .config, .push, .arm, .loopT, .beacon][n]?

/-- The header of a frame, where its check is right and its TYPE is one of the eight (R238). -/
def hdrOf (ring : Nat) (f : List Byte) : Option FHdr :=
  if f.length < 8 || !crcOk ring .header (f.take 8) then none
  else (ftypeOf (byteAt f 0)).map fun t =>
    { typ := t, nb := byteAt f 1 % 8, svc := bitOf (byteAt f 1) 3, rep := bitOf (byteAt f 1) 4, laneB := bitOf (byteAt f 1) 5,
      tbg := le32 f 2 }

/-- Where the down record and the up slot of slot s begin in a frame of CYCLIC layout (R239). -/
def downAt (s : Nat) : Nat := 8 + 16 * s
def upAt (h : FHdr) (s : Nat) : Nat := 8 + 16 * h.nb + (if h.svc then 70 else 0) + 24 * s

/-- A down record (R239). -/
def DownRec.bytes (ring s : Nat) (d : DownRec) : List Byte :=
  withCrc ring (.down s)
    (toLE 1 d.seq ++ toLE 1 (pack [(2, d.mode), (1, b2n d.hold), (1, b2n d.clrsafe)]) ++ toLE 2 (d.addr % 4096) ++
      toLE 2 (d.amp % 4096) ++ zeros 8)

/-- A down record as its bytes give it. -/
def downOf (b : List Byte) : DownRec :=
  { seq := byteAt b 0, mode := byteAt b 1 % 4, hold := bitOf (byteAt b 1) 2, clrsafe := bitOf (byteAt b 1) 3,
    addr := le16 b 2 % 4096, amp := le16 b 4 % 4096 }

/-- An up slot that no brick has filled (R239). -/
def placeholder (ring s : Nat) : List Byte := withCrc ring (.up s) ([0, 0x80] ++ zeros 20)

/-- The up slots of a frame as the module sends them. -/
def placeholders (ring nb : Nat) : List Byte := (List.range nb).flatMap (placeholder ring)

/-- A frame of CYCLIC layout: header, records, service window and placeholders (R239, R246, R247). -/
def frameBytes (ring : Nat) (h : FHdr) (records : List (List Byte)) (window : List Byte) : List Byte :=
  h.bytes ring ++ records.flatten ++ window ++ placeholders ring h.nb

/-- A service window (R241), or the block of a PUSH frame (R247). -/
def svcWindow (ring : Nat) (t : TableBlk) : List Byte :=
  withCrc ring .window (toLE 1 1 ++ toLE 1 t.mask ++ toLE 2 t.off ++ t.data)
def pushFrame (ring : Nat) (h : FHdr) (t : TableBlk) : List Byte :=
  h.bytes ring ++ withCrc ring .window (toLE 1 t.mask ++ toLE 1 0 ++ toLE 2 t.off ++ t.data)

/-- The bits of PRBS-9 (polynomial x⁹ + x⁵ + 1) from a register state. -/
def prbs9 : Nat → BitVec 9 → List Bool
  | 0, _ => []
  | n + 1, r => r.getLsbD 8 :: prbs9 n ((r <<< 1) ||| BitVec.ofNat 9 (b2n (r.getLsbD 8 != r.getLsbD 4)))

/-- Bits in bytes; which bit of a byte comes first is free (R463). -/
def bitsBytes : Nat → List Bool → List Byte
  | 0, _ => []
  | n + 1, bs =>
    let b := bs.take 8
    BitVec.ofNat 8 (maskOf (if Config.prbsMsbFirst then b.reverse else b)) :: bitsBytes n (bs.drop 8)

/-- The 240 bytes of a LOOP pattern (R463). -/
def loopPattern : List Byte := bitsBytes 240 (prbs9 1920 (BitVec.allOnes 9))

/-- A LOOP frame (R463). -/
def loopFrame (ring : Nat) (h : FHdr) : List Byte :=
  h.bytes ring ++ withCrc ring .window loopPattern ++ zeros h.nb

/-- The pattern of a LOOP frame passes its check, and the tally of slot s lies here. -/
def loopOk (ring : Nat) (f : List Byte) : Bool := crcOk ring .window (slice f 8 242)
def tallyAt (s : Nat) : Nat := 250 + s

/-! ### What a brick holds (R239, R244, R245, R248) -/

/-- STAT of a brick (R239). -/
def Brick.stat (b : Brick) : Nat :=
  pack [(1, b2n b.smp.pwr), (1, b2n b.safe), (1, b2n b.cfg.armed.isSome), (1, b2n (b.bflt != 0)), (1, b2n b.held)]

/-- An edge record (R239). -/
def edgeRec (e : Time × Nat) : List Byte := toLE 4 (e.1.toNat % 2 ^ 29 + 2 ^ 29 * (e.2 % 8))

/-- The up record of a brick: its last two edges, with OVF where there were more (R239, R261). -/
def Brick.upBytes (ring s : Nat) (b : Brick) : List Byte :=
  let m := b.smp
  let es := m.edges.drop (m.edges.length - 2)
  let e := fun (k : Nat) => match es[k]? with
    | some x => edgeRec x
    | none => zeros 4
  withCrc ring (.up s)
    (toLE 1 b.seqe ++ toLE 1 b.stat ++ toLE 1 (pack [(3, m.hall), (2, es.length), (1, b2n (2 < m.edges.length))]) ++
      toLE 1 (m.din % 16) ++ toLE 2 (enc 16 m.ia) ++ toLE 2 (enc 16 m.ib) ++ toLE 2 m.vdc ++ e 0 ++ e 1 ++
      toLE 1 (enc 8 m.temp) ++ toLE 1 (b.bflt % 16) ++ toLE 1 b.dnerr ++ [0])

/-- A bank's 8,192 bytes: zeros where nothing was written. -/
def BrickCfg.bank (c : BrickCfg) (k : Nat) : List Byte :=
  let b := if k = 0 then c.bank0 else c.bank1
  (b ++ zeros (8192 - b.length)).take 8192

/-- The bank that runs, and the other one (R245). -/
def BrickCfg.inactive (c : BrickCfg) : Nat := if c.armed == some 0 then 1 else 0

/-- Table bytes into the inactive bank (R245). -/
def BrickCfg.write (c : BrickCfg) (off : Nat) (d : List Byte) : BrickCfg :=
  if c.inactive = 0 then { c with bank0 := putBytes c.bank0 off d } else { c with bank1 := putBytes c.bank1 off d }

/-- Entry a of the armed table; no table stands for zeros. -/
def BrickCfg.entry (c : BrickCfg) (a : Nat) : Int :=
  match c.armed with
  | some k => sgn 16 (le16 (if k = 0 then c.bank0 else c.bank1) (2 * (a % 4096)))
  | none => 0

/-- The descriptor of a brick (R248). -/
def Brick.descBytes (ring s : Nat) (b : Brick) (ack : Nat) : List Byte :=
  let d := b.cfg.desc
  withCrc ring (.up s)
    (toLE 2 d.vendor ++ toLE 2 d.model ++ toLE 1 d.pver ++ toLE 1 d.forms ++ toLE 1 d.safes ++ toLE 1 d.fwd ++ toLE 2 d.ifs ++
      toLE 1 d.lag ++ toLE 1 b.stat ++ toLE 4 d.serial.toNat ++
      toLE 4 (match b.cfg.armed with
        | some k => (crc32c (b.cfg.bank k)).toNat
        | none => 0) ++
      toLE 1 ack ++ [0])

/-- What the bridge does: off before CONFIG and without power (R251, R252), braking by active short at a fault (R252). -/
def Brick.effective (b : Brick) : Bridge :=
  if !b.cfg.configured || !b.smp.pwr then .off else if b.bflt != 0 then .short else b.bridge

/-- The phase references at an apply instant, in 1/32,767 amplitude unit (R244). -/
def Brick.refs (b : Brick) : Brick :=
  if b.effective == .run then
    let two := b.cfg.form ≠ 0
    let iA := b.amp * b.cfg.entry b.addr
    let iB := b.amp * b.cfg.entry (b.addr + (if two then 3072 else 2731))
    { b with refA := iA, refB := iB, refC := if two then 0 else -iA - iB }
  else { b with refA := 0, refB := 0, refC := 0 }

/-- What MODE asks of the bridge; 11b is taken as OFF (R239). -/
def bridgeOf (mode : Nat) : Bridge := if mode = 1 then .run else if mode = 2 then .short else .off

/-! ### Local gate, receipt, miss, apply (R242 to R244, R250, R251) -/

/-- The local gate: samples are latched, and a gate without a valid header since the one before is counted (R242, R255). -/
def Brick.localGate (b : Brick) (smp : BrickSample) : Brick :=
  { b with
    smp := smp
    hdrMiss := if b.heard then 0 else b.hdrMiss + 1
    heard := false
    saw := false
    got := false
    judged := false
    taken := none
    tbase := b.tbase + 2500 }

/-- A miss (R250), and what brick-safe mode does from the second on (R251). -/
def Brick.miss (b : Brick) : Brick :=
  let n := b.missRun + 1
  let b := { b with dnerr := (b.dnerr + 1) % 256, missRun := n, held := true, judged := true }
  if n < 2 || !b.cfg.configured then b
  else
    { b with
      safe := true
      bridge := if b.cfg.safeMode = 0 then .short else if b.cfg.safeMode = 1 then .off else if 8 ≤ n then .short
        else b.bridge }

/-- A received record applied (R244, R250, R251). -/
def Brick.take (b : Brick) (d : DownRec) : Brick :=
  let off := d.mode == 0 || d.mode == 3
  let b := { b with missRun := 0, seqe := d.seq }
  if b.safe then
    if d.clrsafe && off then { b with safe := false, bridge := .off, mode := 0, held := false } else { b with held := true }
  else if d.hold then { b with held := true }
  else { b with mode := d.mode, addr := d.addr, amp := d.amp, bridge := bridgeOf d.mode, held := false }

/-- The apply instant (R243, R244): a frame received without a record of its own counts as received with HOLD (R249). -/
def Brick.apply (b : Brick) : Brick :=
  let b :=
    if b.cfg.slot.isNone then b
    else if b.got then
      match b.taken with
      | some d => b.take d
      | none => { b with missRun := 0, held := true }
    else if b.judged then b
    else b.miss
  b.refs

/-- A valid header was heard: the timebase copy is set (R242, R255). -/
def Brick.hear (b : Brick) (h : FHdr) : Brick := { b with heard := true, tbase := BitVec.ofNat 32 h.tbg }

/-- A valid frame that is not CYCLIC counts as received with HOLD (R249). -/
def Brick.holdTick (b : Brick) (h : FHdr) : Brick := { b.hear h with got := true, taken := none }

/-- The service window of a frame, taken by the bricks it addresses (R241). -/
def Brick.window (ring s : Nat) (b : Brick) (h : FHdr) (f : List Byte) : Brick :=
  let w := slice f (8 + 16 * h.nb) 70
  let off := le16 w 2
  if h.typ == .cyclic && h.svc && crcOk ring .window w && byteAt w 0 == 1 && bitOf (byteAt w 1) s && off % 64 == 0 &&
      off ≤ 8128 then
    { b with cfg := b.cfg.write off (slice w 4 64) }
  else b

/-- A CYCLIC frame at a brick with slot s (R239, R250): its record, its up slot and its window. -/
def Brick.cyclic (ring s : Nat) (b : Brick) (h : FHdr) (f : List Byte) : Brick × List Byte :=
  let b := b.hear h
  if h.nb ≤ s then (b, f)
  else
    let rec' := slice f (downAt s) 16
    let d := downOf rec'
    let b := if crcOk ring (.down s) rec' && b.lastSeq != some d.seq then
        { b with got := true, taken := some d, lastSeq := some d.seq }
      else b
    (b.window ring s h f, putBytes f (upAt h s) (b.upBytes ring s))

/-- The BEACON slot of a brick beyond the origin (R255). -/
def Brick.onBeacon (ring s : Nat) (b : Brick) (h : FHdr) (f : List Byte) : Brick × List Byte :=
  if h.nb < s then (b.hear h, putBytes f (8 + 24 * (s - h.nb)) (b.upBytes ring s)) else (b.hear h, f)

/-- A frame at a brick: forwarded, with the brick's own part of it (R238, R245, R249, R250, R255). -/
def Brick.receive (ring : Nat) (b : Brick) (f : List Byte) : Brick × List Byte :=
  let b := { b with saw := true }
  match b.cfg.slot, hdrOf ring f with
  | some s, some h =>
    if h.typ == .cyclic then b.cyclic ring s h f
    else if h.typ == .beacon then b.onBeacon ring s h f
    else (b.holdTick h, f)
  | _, _ => (b, f)

/-! ### The frames of bring-up, service and patrol -/

/-- ENUM (R246): NB from 0 to 5 becomes the slot, and NB + 1 goes on; 6 or 7 gives no slot, and 7 goes on. -/
def Brick.enum (ring : Nat) (b : Brick) (f : List Byte) : Brick × List Byte :=
  match hdrOf ring f with
  | some h =>
    if h.typ == .enum then
      let slot := if h.nb ≤ 5 then some h.nb else none
      let b := { b with saw := true, cfg := { b.cfg with slot := slot } }
      ((if slot.isSome then b.holdTick h else b), { h with nb := min 7 (h.nb + 1) }.bytes ring ++ f.drop 8)
    else ({ b with saw := true }, f)
  | none => ({ b with saw := true }, f)

/-- A frame of a type at a brick with a slot that the frame addresses, and what the brick does with it. -/
def Brick.onType (ring : Nat) (t : FType) (b : Brick) (f : List Byte)
    (act : Nat → FHdr → Brick → Brick × List Byte) : Brick × List Byte :=
  let b := { b with saw := true }
  match b.cfg.slot, hdrOf ring f with
  | some s, some h => if h.typ == t && s < h.nb then act s h (b.holdTick h) else (b, f)
  | _, _ => (b, f)

/-- DESC (R246, R248): the brick fills its slot with its descriptor. -/
def Brick.desc (ring : Nat) (b : Brick) (d : BrickDesc) (f : List Byte) : Brick × List Byte :=
  ({ b with cfg := { b.cfg with desc := d } } : Brick).onType ring .desc f fun s h b =>
    (b, putBytes f (upAt h s) (b.descBytes ring s 0))

/-- CONFIG (R247). -/
def Brick.config (ring : Nat) (b : Brick) (f : List Byte) : Brick × List Byte :=
  b.onType ring .config f fun s h b =>
    let r := slice f (downAt s) 16
    let f := putBytes f (upAt h s) (b.upBytes ring s)
    if crcOk ring (.down s) r then
      ({ b with cfg := { b.cfg with
          configured := true, safeMode := byteAt r 1, form := byteAt r 2 % 2, dly := le16 r 4 } }, f)
    else (b, f)

/-- PUSH (R247): the addressed bricks take the block into their inactive bank. -/
def Brick.push (ring : Nat) (b : Brick) (f : List Byte) : Brick × List Byte :=
  b.onType ring .push f fun s _ b =>
    let w := slice f 8 262
    let off := le16 w 2
    if crcOk ring .window w && bitOf (byteAt w 0) s && off % 256 == 0 && off ≤ 7936 then
      ({ b with cfg := b.cfg.write off (slice w 4 256) }, f)
    else (b, f)

/-- ACK of an ARM record (R247): 2 where the form is not supported, 1 where the CRC differs, else 0. -/
def Brick.armAck (b : Brick) (bank crc : Nat) : Nat :=
  if !bitOf b.cfg.desc.forms b.cfg.form then 2 else if (crc32c (b.cfg.bank bank)).toNat = crc then 0 else 1

/-- ARM (R247): the bank is activated where its check is right, and the descriptor answers with ACK. -/
def Brick.arm (ring : Nat) (b : Brick) (f : List Byte) : Brick × List Byte :=
  b.onType ring .arm f fun s h b =>
    let r := slice f (downAt s) 16
    if crcOk ring (.down s) r then
      let k := byteAt r 0 % 2
      let ack := b.armAck k (le32 r 4)
      let b := { b with cfg := { b.cfg with ack := ack, armed := if ack = 0 then some k else b.cfg.armed } }
      (b, putBytes f (upAt h s) (b.descBytes ring s ack))
    else (b, f)

/-- LOOP (R463): the brick's tally is 01h where the pattern passes, 02h where it fails. -/
def Brick.loop (ring : Nat) (b : Brick) (f : List Byte) : Brick × List Byte :=
  b.onType ring .loopT f fun s _ b => (b, putBytes f (tallyAt s) [if loopOk ring f then 1 else 2])

/-- The BEACON of a brick in slot s (R255): its up record, and placeholders for the slots beyond. -/
def Brick.beacon (ring s : Nat) (b : Brick) : List Byte :=
  ({ typ := .beacon, nb := s, tbg := b.tbase.toNat } : FHdr).bytes ring ++ b.upBytes ring s ++
    (List.range (5 - s)).flatMap fun k => placeholder ring (s + 1 + k)

/-- The logic supply fails (R245): slot, configuration and both banks are lost; the descriptor is the maker's. -/
def Brick.logicLoss (b : Brick) : Brick := { ({} : Brick) with smp := b.smp, cfg := { desc := b.cfg.desc } }

/-! ### The ring's line -/

/-- Brick b of ring r handles the frame on its line. -/
def RingHw.pass (h : RingHw) (b : Nat) (err : LineErr) (act : Brick → List Byte → Brick × List Byte) : RingHw :=
  let (x, f) := act (vget h.bricks {} b) (applyErr h.line err)
  { h with line := f, bricks := vmod h.bricks b fun _ => x }

/-- Brick b receives what is on the line: a frame of the module, or else a BEACON (R250, R255, R262). -/
def RingHw.receive (ring : Nat) (h : RingHw) (b : Nat) (err : LineErr) : RingHw :=
  if !h.line.isEmpty then h.pass b err (Brick.receive ring)
  else if !h.bcn.isEmpty then
    let (x, f) := (vget h.bricks {} b).receive ring (applyErr h.bcn err)
    { h with bcn := f, bricks := vmod h.bricks b fun _ => x }
  else h

/-- A miss at brick b (R250): where no frame reached it, none goes on to the next. -/
def RingHw.miss (h : RingHw) (b : Nat) : RingHw :=
  let x := vget h.bricks {} b
  let line := if x.saw then h.line else []
  if x.cfg.slot.isNone || x.got || x.judged then { h with line := line }
  else { h with line := line, bricks := vmod h.bricks b fun x => x.miss }

/-- BRICK_LOCAL_GATE (R242). -/
def execBrickLocalGate (r : Fin 4) (b : Fin 6) (smp : BrickSample) (s : State) : Host.Outcome State Fault Refusal :=
  .next (s.modBrick r b fun x => x.localGate smp)

/-- BRICK_FRAME_RECEIVE (R250). -/
def execBrickFrameReceive (r : Fin 4) (b : Fin 6) (err : LineErr) (s : State) : Host.Outcome State Fault Refusal :=
  .next (s.modHw r fun h => h.receive r b err)

/-- BRICK_FRAME_MISS (R250, R251). -/
def execBrickFrameMiss (r : Fin 4) (b : Fin 6) (s : State) : Host.Outcome State Fault Refusal :=
  .next (s.modHw r fun h => h.miss b)

/-- BRICK_APPLY (R243, R244). -/
def execBrickApply (r : Fin 4) (b : Fin 6) (s : State) : Host.Outcome State Fault Refusal :=
  .next (s.modBrick r b Brick.apply)

/-- BRICK_ENUM (R246). -/
def execBrickEnum (r : Fin 4) (b : Fin 6) (err : LineErr) (s : State) : Host.Outcome State Fault Refusal :=
  .next (s.modHw r fun h => h.pass b err (Brick.enum r))

/-- BRICK_DESC (R248). -/
def execBrickDesc (r : Fin 4) (b : Fin 6) (desc : BrickDesc) (err : LineErr) (s : State) :
    Host.Outcome State Fault Refusal :=
  .next (s.modHw r fun h => h.pass b err fun x f => x.desc r desc f)

/-- BRICK_CONFIG (R247). -/
def execBrickConfig (r : Fin 4) (b : Fin 6) (err : LineErr) (s : State) : Host.Outcome State Fault Refusal :=
  .next (s.modHw r fun h => h.pass b err (Brick.config r))

/-- BRICK_PUSH (R247). -/
def execBrickPush (r : Fin 4) (b : Fin 6) (err : LineErr) (s : State) : Host.Outcome State Fault Refusal :=
  .next (s.modHw r fun h => h.pass b err (Brick.push r))

/-- BRICK_SERVICE_WINDOW (R241): the window as it reaches the brick; the rest of the frame is BRICK_FRAME_RECEIVE's. -/
def execBrickServiceWindow (r : Fin 4) (b : Fin 6) (err : LineErr) (s : State) : Host.Outcome State Fault Refusal :=
  let f := applyErr (s.hw r).line err
  .next (s.modBrick r b fun x => match x.cfg.slot, hdrOf r f with
    | some k, some h => x.window r k h f
    | _, _ => x)

/-- BRICK_ARM (R247). -/
def execBrickArm (r : Fin 4) (b : Fin 6) (err : LineErr) (s : State) : Host.Outcome State Fault Refusal :=
  .next (s.modHw r fun h => h.pass b err (Brick.arm r))

/-- BRICK_FAULT (R252): FLT and BFLT until the fault goes, which code 0 says. -/
def execBrickFault (r : Fin 4) (b : Fin 6) (code : Fin 8) (s : State) : Host.Outcome State Fault Refusal :=
  .next (s.modBrick r b fun x => { x with bflt := code }.refs)

/-- BRICK_BEACON (R255): a brick without a valid header for two local gates beacons, unless a BEACON passes it. -/
def execBrickBeacon (r : Fin 4) (b : Fin 6) (s : State) : Host.Outcome State Fault Refusal :=
  let x := s.brick r b
  .next (match x.cfg.slot with
    | some k => if 2 ≤ x.hdrMiss && !x.heard && (s.hw r).bcn.isEmpty then s.modHw r fun h => { h with bcn := x.beacon r k } else s
    | none => s)

/-- BRICK_LOGIC_LOSS (R245). -/
def execBrickLogicLoss (r : Fin 4) (b : Fin 6) (s : State) : Host.Outcome State Fault Refusal :=
  .next (s.modBrick r b Brick.logicLoss)

/-- BRICK_LOOP_FRAME (R463). -/
def execBrickLoopFrame (r : Fin 4) (b : Fin 6) (err : LineErr) (s : State) : Host.Outcome State Fault Refusal :=
  .next (s.modHw r fun h => h.pass b err (Brick.loop r))

end Sys2Proof.Machine
end

