-- ==== Sys2Proof/Machine/Ring.lean ====
section
/-! DEFINITION. A lane's side of the glide rings (chapter 8): the frames it builds, the frames that return, breaks and rejoin,
bring-up, the repeat store, and the GLID block. -/

namespace Sys2Proof.Machine

/-! ### Building frames (R238, R239, R252, R253, R256) -/

/-- The image whose GLIDE section rules ring r: the running one, but the shadow structure's for a ring that the running
stream does not use and that is brought up ahead of it (R249). -/
def Lane.ringImg (x : Lane) (r : Nat) : Image := if (x.ring r).ahead then x.ln.strm.shadow.getD x.img else x.img
def State.ringImg (s : State) (l : LaneId) (r : Nat) : Image := (s.lane l).ringImg r

/-- A slot that the stream uses (R258, R260). -/
def Image.slotUsed (i : Image) (r k : Nat) : Bool := i.ringen r && k < i.nb r && i.brickUsed r k

/-- The header of the frame that lane l builds in this tick. -/
def State.nextHdr (s : State) (l : LaneId) (t : FType) (nb : Nat) (svc : Bool) : FHdr :=
  { typ := t, nb := nb, svc := svc, laneB := l == .b, tbg := (s.lines.gate.toNat + 2500) % 2 ^ 32 }

/-- The down record of slot k for the next gate: what the axis's newest result asks, under R39, R246, R252 and R253. -/
def State.downRec (s : State) (l : LaneId) (r k : Nat) : DownRec :=
  let x := s.lane l
  let g := x.ring r
  let t := vget g.slots {} k
  let seq := (s.tick + 1) % 256
  match x.img.axisAt r k with
  | none => { seq := seq }
  | some rec' =>
    let ax := x.axis rec'.axis
    let a := ax.cur
    let off : DownRec := { seq := seq, addr := a.amp.addr, amp := a.amp.amp }
    let stopped : DownRec := { seq := seq, mode := if k < g.brkat && x.img.brickSafe r k != 1 then 2 else 0 }
    if g.st == .broken || g.st == .rejoining then stopped
    else if t.sfhold then ({ off with clrsafe := a.hall.still && !bitOf t.stat 3 } : DownRec)
    else if !t.cmdReady || !bitOf t.stat 0 || x.ln.pwr.layover then off
    else { off with mode := 1, hold := ax.cmd.hold }

/-- What a slot remembers of the record sent to it (R179, R253). -/
def SlotSt.sends (t : SlotSt) (d : DownRec) (a : Option AxisSt) (next : Nat) : SlotSt :=
  { t with
    sfhold := t.sfhold && !d.clrsafe
    cleared := if d.clrsafe then some next else t.cleared
    sent :=
      let c : SentCmd := { seq := d.seq, addr := d.addr, tdNeg := (a.map fun a => a.amp.tdNeg).getD false }
      (t.sent ++ [c]).drop (t.sent.length + 1 - 8) }

/-- The frame built so far is no CYCLIC one: a DESC or LOOP frame goes out in its place (R257, R463). -/
def LaneRing.special (r : Nat) (g : LaneRing) : Bool :=
  match g.built.bind (hdrOf r) with
  | some h => h.typ != .cyclic
  | none => false

/-- RING_FRAME: the CYCLIC frame of a running, broken or rejoining ring (R239). -/
def State.ringFrame (s : State) (l : LaneId) (r : Nat) : State :=
  let x := s.lane l
  let g := x.ring r
  if !g.st.tracked || g.special r then s
  else
    let nb := (x.ringImg r).nb r
    let recs := (List.range nb).map fun k => s.downRec l r k
    let h := s.nextHdr l .cyclic nb (!g.svc.isEmpty)
    let win := match g.svc with
      | t :: _ => svcWindow r t
      | [] => []
    let f := frameBytes r h (recs.zipIdx.map fun (p : DownRec × Nat) => p.1.bytes r p.2) win
    let next := (s.tick + 1) % 2 ^ 32
    s.modRing l r fun g => { g with
      built := some f
      svc := g.svc.drop 1
      slots := g.slots.mapFinIdx fun k t _ => match recs[k]? with
        | some d => t.sends d ((x.img.axisAt r k).map fun c => (x.axis c.axis).cur) next
        | none => t }

/-- RING_FRAME (R239). -/
def execRingFrame (l : LaneId) (r : Fin 4) (s : State) : Host.Outcome State Fault Refusal := .next (s.ringFrame l r)

/-! ### The repeat store (R254) -/

/-- A frame sent again: REPEAT and HOLD, SEQ and TBG advanced, every check anew (R254). -/
def repeatFrame (r : Nat) (f : List Byte) : List Byte :=
  match hdrOf r f with
  | some h =>
    let h := { h with rep := true, tbg := (h.tbg + 2500) % 2 ^ 32 }
    let one := fun (f : List Byte) (k : Nat) =>
      let d := downOf (slice f (downAt k) 16)
      putBytes f (downAt k) ({ d with seq := (d.seq + 1) % 256, hold := true }.bytes r k)
    h.bytes r ++ ((List.range h.nb).foldl one f).drop 8
  | none => f

/-- A frame is a CYCLIC one. -/
def isCyclic (r : Nat) (f : List Byte) : Bool := ((hdrOf r f).map FHdr.typ) == some .cyclic

/-- The output stage at a start gate: a new frame, a repeat, or idle (R254). -/
def RingHw.gate (r : Nat) (h : RingHw) (built : Option (List Byte)) : RingHw :=
  match built with
  | some f =>
    { h with
      line := f, typ := (hdrOf r f).map FHdr.typ, bcn := [], reps := 0, repNow := false
      last := if isCyclic r f then some f else h.last.map (repeatFrame r) }
  | none =>
    match h.last with
    | some f =>
      if h.reps < 8 then
        let f := repeatFrame r f
        { h with line := f, typ := some .cyclic, bcn := [], last := some f, reps := h.reps + 1, repNow := true }
      else { h with line := [], typ := none, bcn := [], repNow := false }
    | none => { h with line := [], typ := none, bcn := [], repNow := false }

/-- REPEAT_LIMIT: after the eighth repeat, at the gate that has no new frame either, only idle is sent, until a new frame
(R254). -/
def execRepeatLimit (r : Fin 4) (s : State) : Host.Outcome State Fault Refusal :=
  .next (if 8 ≤ (s.hw r).reps && !(s.hw r).repNow then s.modHw r fun h => { h with line := [], typ := none, last := none, repNow := false } else s)

/-! ### Frames that return (R239, R253, R255, R458) -/

/-- An up record as the lane decodes it, its edges extended to the latch gate's tick (R239). -/
def upOf (latch : Time) (b : List Byte) : UpRec :=
  let h := byteAt b 2
  let ext := fun (o : Nat) =>
    let w := le32 b o
    ((latch - BitVec.ofNat 64 ((latch.toNat + 2 ^ 29 - w % 2 ^ 29) % 2 ^ 29) : Time), w / 2 ^ 29)
  { seqe := byteAt b 0, stat := byteAt b 1, hst := h % 8, ovf := bitOf h 5, din := byteAt b 3 % 16,
    ia := sgn 16 (le16 b 4), ib := sgn 16 (le16 b 6), vdc := le16 b 8, edges := [ext 10, ext 14].take (fld h 3 2),
    temp := byteAt b 18, bflt := byteAt b 19 % 16, dnerr := byteAt b 20, latch := latch }

/-- What one up slot brought. -/
inductive UpGot | record (u : UpRec) | empty | bad
  deriving DecidableEq, Repr

/-- An up slot's 24 bytes judged (R239, R240). -/
def upGot (r k : Nat) (latch : Time) (b : List Byte) : UpGot :=
  if !crcOk r (.up k) b then .bad else if bitOf (byteAt b 1) 7 then .empty else .record (upOf latch b)

/-- The up record of a slot is missing. -/
def SlotSt.lose (t : SlotSt) : SlotSt := { t with inb := none, missRun := t.missRun + 1, missup := satInc 0xFF t.missup }

/-- The record latched in tick t counts for R253: it is later than the last CLRSAFE. -/
def SlotSt.judges (t : SlotSt) (tick : Nat) : Bool :=
  match t.cleared with
  | some c => tick ≠ c && (tick + 1) % 2 ^ 32 ≠ c
  | none => true

/-- The command in force at the brick when a record was latched (R179): SEQE names it, unless the brick held its values. -/
def SlotSt.forceOf (t : SlotSt) (u : UpRec) : Option SentCmd :=
  if u.bit 1 || u.bit 4 then t.inForce
  else match t.sent.find? (fun x => x.seq == u.seqe) with
    | some x => some x
    | none => t.inForce

/-- An up record taken (R239, R253). -/
def SlotSt.takes (t : SlotSt) (u : UpRec) (tick : Nat) : SlotSt :=
  let hot := u.bit 1 || u.bit 3
  let j := t.judges tick
  { t with
    inb := some u, inForce := t.forceOf u, missRun := 0, stat := u.stat, bflt := u.bflt, temp := u.temp, dnerr := u.dnerr
    safecnt := if u.bit 1 && !bitOf t.stat 1 then satInc 0xFF t.safecnt else t.safecnt
    sfhold := t.sfhold || (hot && j)
    cleared := if j then none else t.cleared }

/-- An up slot judged for slot k of ring r; `due` says that a missing record counts now. -/
def State.upSlot (s : State) (l : LaneId) (r k : Nat) (g : UpGot) (due : Bool) : State :=
  match g with
  | .record u =>
    let t := vget ((s.lane l).ring r).slots {} k
    let up1 := fun (i : Nat) => u.bit i && !bitOf t.stat i
    let tick := s.tick
    let s := s.modRing l r fun x => x.modSlot k fun t => t.takes u tick
    if up1 1 || up1 3 then s.attn l 7 else s
  | .empty => if due then s.modRing l r fun x => x.modSlot k SlotSt.lose else s
  | .bad =>
    let s := s.modRing l r fun x => { x with upcrc := satInc 0xFF x.upcrc }
    let s := if due then s.modRing l r fun x => x.modSlot k SlotSt.lose else s
    s.queueCheck l (segUnit r 0)

/-- Every used slot of ring r without a record of this tick has lost its up data. -/
def State.upLost (s : State) (l : LaneId) (r : Nat) : State :=
  let gate := s.lines.gate
  let i := s.ringImg l r
  s.modRing l r fun x => { x with
    slots := x.slots.mapFinIdx fun k t _ =>
      if !i.slotUsed r k || (t.inb.map UpRec.latch) == some gate then t else t.lose }

/-- EOFT: the EOF's return in 0.1 µs, of a frame of n bytes; its rounding is free (R242, R260, log entry 19). -/
def eoft (rtd n : Nat) : Nat := (meanOf ((20 + rtd + 10 * (n + 2) : Nat) : Int) 20).toNat

/-- A frame of the module returns to lane l (R239). -/
def State.upFrame (s : State) (l : LaneId) (r : Nat) (f : List Byte) : State :=
  let g := (s.lane l).ring r
  let i := s.ringImg l r
  let s := s.modRing l r fun x => { x with got := true, eoft := eoft x.rtd f.length % 1024 }
  match hdrOf r f with
  | none =>
    let s := s.modRing l r fun x => { x with hdrerr := satInc 0xFF x.hdrerr, goodRun := 0 }
    let s := if g.st.tracked then s.upLost l r else s
    s.queueCheck l (segUnit r 0)
  | some h =>
    if !g.st.tracked then s
    else if h.typ == .cyclic then
      let slots := idxs (min 6 h.nb) fun k => i.slotUsed r k
      let got := slots.map fun k => (k, upGot r k s.lines.gate (slice f (upAt h k) 24))
      let good := got.all fun (p : Nat × UpGot) => match p.2 with
        | .record _ => true
        | _ => false
      let s := got.foldl (fun s (p : Nat × UpGot) => s.upSlot l r p.1 p.2 true) s
      s.modRing l r fun x => { x with goodRun := if good && x.st == .broken then x.goodRun + 1 else 0 }
    else s.modRing l r fun x => { x with
    slots := x.slots.mapFinIdx fun k t _ =>
      if i.slotUsed r k then { t with inb := none, missRun := t.missRun + 1 } else t }

/-- A BEACON that reaches lane l (R255, R256); its records count only where no frame of the module came (R262). -/
def State.beaconFrame (s : State) (l : LaneId) (r : Nat) (f : List Byte) (alone : Bool) : State :=
  match hdrOf r f with
  | some h =>
    if h.typ != .beacon then s
    else
      let s := s.modRing l r fun x => { x with
        beacons := satInc 0xFF x.beacons, brkat := if x.st == .broken then h.nb else x.brkat }
      if !alone || !((s.lane l).ring r).st.tracked then s
      else
        let i := s.ringImg l r
        (idxs 6 fun k => h.nb ≤ k && i.slotUsed r k).foldl
          (fun s k => s.upSlot l r k (upGot r k s.lines.gate (slice f (8 + 24 * (k - h.nb)) 24)) false) s
  | none => s.modRing l r fun x => { x with hdrerr := satInc 0xFF x.hdrerr }

/-- UP_FRAME_RECEIVE (R239, R255): the frame, the BEACON or both that are on the line, as the last hop delivers them to lane
l. -/
def execUpFrameReceive (l : LaneId) (r : Fin 4) (err : LineErr) (s : State) : Host.Outcome State Fault Refusal :=
  let h := s.hw r
  let frame := !h.line.isEmpty && !((s.lane l).ring r).got
  let s := if frame then s.upFrame l r (applyErr h.line err) else s
  .next (if h.bcn.isEmpty then s
    else s.beaconFrame l r (if h.line.isEmpty then applyErr h.bcn err else h.bcn) h.line.isEmpty)

/-! ### Breaks and missing data (R256) -/

/-- Two consecutive frames have not returned. -/
def LaneRing.breakDue (g : LaneRing) : Bool := g.st == .running && 2 ≤ g.noRetRun + b2n (!g.got)

/-- The ring is declared BROKEN (R256). -/
def State.ringBreak (s : State) (l : LaneId) (r : Nat) : State :=
  if ((s.lane l).ring r).breakDue then
    let at' := match hdrOf r (s.hw r).bcn with
      | some h => if h.typ == .beacon then h.nb else 6
      | none => 6
    (s.modRing l r fun x => { x with st := .broken, rbrk := true, brkat := at', goodRun := 0 }).attn l 7
  else s

/-- RING_BREAK (R256). -/
def execRingBreak (l : LaneId) (r : Fin 4) (s : State) : Host.Outcome State Fault Refusal := .next (s.ringBreak l r)

/-- An axis without up data for two consecutive ticks while it moves loses its position (R256). -/
def State.upDataMissing (s : State) (l : LaneId) (n : Nat) : State :=
  let x := s.lane l
  if x.hasAxis n && 2 ≤ (x.slotOf n).missRun then
    s.modAxis l n fun a => a.both fun b =>
      if !b.hall.still && b.hall.posq == .valid then { b with hall := { b.hall with posq := .suspect } } else b
  else s

/-- UP_DATA_MISSING (R256). -/
def execUpDataMissing (l : LaneId) (n : Fin 24) (s : State) : Host.Outcome State Fault Refusal := .next (s.upDataMissing l n)

/-- A frame that went out on ring r has not returned to lane l (R256, R260, R458): NORET counts it, in bring-up too. -/
def State.noReturn (s : State) (l : LaneId) (r : Nat) : State :=
  let s := s.ringBreak l r
  let s := s.modRing l r fun x => { x with
    noret := satInc 0xFF x.noret, noRetRun := if x.st.tracked then x.noRetRun + 1 else 0, goodRun := 0 }
  s.queueCheck l (segUnit r 0)

/-- The end of a ring's tick in a lane: a frame that did not return, breaks, and missing data, in a tick of idle after the
eighth repeat as well (R254, R256, R260). -/
def State.ringEnd (s : State) (l : LaneId) (r : Nat) : State :=
  let g := (s.lane l).ring r
  let typ := (s.hw r).typ
  let idle := typ.isNone && decide (8 ≤ (s.hw r).reps)
  let s :=
    if typ.isNone then s
    else if g.got then s.modRing l r fun x => { x with noRetRun := 0 }
    else if g.st == .off then s
    else s.noReturn l r
  let s := if g.st.tracked && !g.got && (typ.isSome || idle) then s.upLost l r else s
  let s := s.modRing l r fun x => { x with due := x.st.tracked && (idle || typ == some .cyclic) }
  (((s.img l).axisRecs.filter fun c => c.ring == r).map AxisRec.axis).foldl (fun s n => s.upDataMissing l n) s

/-- The rings at a start gate: the tick just past is judged, and the frames of the token holder leave (R237, R242, R254). -/
def State.ringGate (s : State) : State :=
  let s := (List.range 4).foldl (fun s r => (s.ringEnd .a r).ringEnd .b r) s
  let one := fun (s : State) (r : Nat) =>
    let built := if s.ref.token && !s.ref.skipFrame then ((s.lane s.ref.owner).ring r).built else none
    let s := s.modHw r fun h => h.gate r built
    let s := if (s.hw r).repNow then s.modLines fun x => { x with reptot := satInc 0xFFFF x.reptot } else s
    s.modLanes fun x => { x with ln := x.ln.modRing r fun g =>
      { g with built := none, got := false, slots := g.slots.map fun t => { t with up := t.inb, force := t.inForce } } }
  ((List.range 4).foldl one s).modRef fun x => { x with skipFrame := false }

/-! ### Bring-up (R246 to R249) -/

/-- The doorways of a ring whose bring-up at a stream start ended in FAULT are in STOPPED with NOPOS, where they had begun
already (R249). -/
def State.stopRingDoors (s : State) (l : LaneId) (r : Nat) : State :=
  let x := s.lane l
  (idxs 12 fun d => x.img.axisRecs.any fun a => a.ring == r && a.doorway == d).foldl (fun s d =>
    s.haltDoor l d (fun z => z.st != .none && z.started && z.st != .service) fun z => { z with nopos := true, noPosHeld := true }) s

/-- A ring stops in FAULT: only idle goes out on it (R246, R249, R260). -/
def State.ringFault (s : State) (l : LaneId) (r code : Nat) : State :=
  let start := !((s.lane l).ring r).bu.rescan
  let s := s.modRing l r fun x => { x with st := .fault, buerr := code, built := none, svc := [], bu := {} }
  let s := if s.owns l then s.modHw r fun h => { h with last := none } else s
  (if start then s.stopRingDoors l r else s).attn l 7

/-- The table of a slot (R61, R247). -/
def Image.slotTable (i : Image) (r k : Nat) : Nat := ((i.axisAt r k).map AxisRec.table).getD 0

/-- The distinct tables of a ring, and the slots that share one. -/
def Image.ringTables (i : Image) (r : Nat) : List Nat := idxs 8 fun t => (List.range (i.nb r)).any fun k => i.slotTable r k == t
def Image.tableMask (i : Image) (r t : Nat) : Nat :=
  maskOf ((List.range 6).map fun k => decide (k < i.nb r) && i.slotTable r k == t)

/-- The blocks that carry a ring's tables, each of n bytes: 256 in PUSH frames, 64 in service windows (R241, R247). -/
def Image.tableBlks (i : Image) (r n : Nat) : List TableBlk :=
  (i.ringTables r).flatMap fun t => (List.range (8192 / n)).map fun k =>
    { mask := i.tableMask r t, off := n * k, data := slice (i.table t) (n * k) n }

/-- The delay of slot k (R242). -/
def dlyOf (rtd nb : Nat) (fwd : List Nat) (k : Nat) : Nat :=
  (fwd.take k).sum + (roundAway (((k + 1) * (rtd - fwd.sum) : Nat)) ((nb + 1 : Nat))).toNat

/-- The CONFIG and ARM records of slot k (R247). -/
def configRec (r k safe form dly : Nat) : List Byte :=
  withCrc r (.down k) (toLE 1 k ++ toLE 1 safe ++ toLE 1 form ++ [0] ++ toLE 2 dly ++ zeros 8)
def armRec (r k bank crc : Nat) : List Byte :=
  withCrc r (.down k) (toLE 1 bank ++ zeros 3 ++ toLE 4 crc ++ zeros 6)

/-- The CONFIG frame of a ring. -/
def State.configFrame (s : State) (l : LaneId) (r : Nat) : List Byte :=
  let i := s.ringImg l r
  let g := (s.lane l).ring r
  frameBytes r (s.nextHdr l .config (i.nb r) false)
    ((List.range (i.nb r)).map fun k => configRec r k (i.brickSafe r k) (i.brickForm r k) (vget g.slots {} k).dly) []

/-- The ARM frame of a ring; the bank it names is the one its table bytes went to (log entry 21). -/
def State.armFrame (s : State) (l : LaneId) (r : Nat) : List Byte :=
  let i := s.ringImg l r
  frameBytes r (s.nextHdr l .arm (i.nb r) false)
    ((List.range (i.nb r)).map fun k => armRec r k (s.brick r k).cfg.inactive (i.tabCrc (i.slotTable r k))) []

/-- The CYCLIC frame with MODE OFF in every record, and the DESC frame (R246). -/
def State.offFrame (s : State) (l : LaneId) (r : Nat) : List Byte :=
  let nb := (s.ringImg l r).nb r
  frameBytes r (s.nextHdr l .cyclic nb false)
    ((List.range nb).map fun k => ({ seq := (s.tick + 1) % 256 } : DownRec).bytes r k) []
def State.descFrame (s : State) (l : LaneId) (r : Nat) : List Byte :=
  let nb := (s.ringImg l r).nb r
  frameBytes r (s.nextHdr l .desc nb false) (List.replicate nb (zeros 16)) []

/-- The descriptor in a returned frame, where its check is right and it is no placeholder (R248). -/
def descAt (r k : Nat) (f : List Byte) : Option (List Byte) :=
  match hdrOf r f with
  | some h =>
    let b := slice f (upAt h k) 24
    if (h.typ == .desc || h.typ == .arm) && k < h.nb && crcOk r (.up k) b && !(bitOf (byteAt b 1) 7 && byteAt b 4 == 0) then some b
    else none
  | none => none

/-- The lane refuses a descriptor (R248). -/
def refusesDesc (i : Image) (r k : Nat) (b : List Byte) : Bool :=
  byteAt b 4 != 1 || (i.brickVendor r k != 0 && le16 b 0 != i.brickVendor r k) ||
    (i.brickModel r k != 0 && le16 b 2 != i.brickModel r k) || le16 b 8 < i.brickIfsMin r k ||
    !bitOf (byteAt b 5) (i.brickForm r k) || !bitOf (byteAt b 6) (i.brickSafe r k)

/-- What a slot keeps of its descriptor (R260). -/
def SlotSt.describe (t : SlotSt) (b : List Byte) : SlotSt :=
  { t with
    vendor := le16 b 0, model := le16 b 2, fwd := byteAt b 7, ifs := le16 b 8, lag := byteAt b 10, stat := byteAt b 11
    serial := BitVec.ofNat 32 (le32 b 12) }

/-- Axes of a ring have no last valid sector after the bring-up of its bricks (R129, R142). -/
def State.ringFresh (s : State) (l : LaneId) (r : Nat) : State :=
  (((s.img l).axisRecs.filter fun c => c.ring == r).map AxisRec.axis).foldl (fun s n =>
    s.modAxis l n fun a => a.both fun b =>
      { b with hall := { b.hall with sector := none }, edge := { b.edge with seen := false } }) s

/-- Bring-up of a ring begins: in full (R246), or with CONFIG and ARM only, its tables being in the inactive banks (R249). -/
def State.ringStart (s : State) (l : LaneId) (r : Nat) (full rescan : Bool) : State :=
  let s := s.modRing l r fun x => { x with
    st := .bringUp, buerr := 0, brkat := 7, svc := [], bu := { step := if full then 1 else 5, rescan := rescan }, built := none
    noRetRun := 0, goodRun := 0, due := false
    slots := x.slots.map fun t => { t with inb := none, up := none, missRun := 0, cmdReady := false, sent := [], inForce := none, force := none,
                                            sfhold := t.sfhold && !full, cleared := none } }
  let s := if full then s.ringFresh l r else s
  let s := if full && s.owns l then s.modHw r fun h => { h with last := none } else s
  if full then s else
    let f := s.configFrame l r
    s.modRing l r fun x => { x with built := some f }

/-- Bring-up goes on with a frame for the next gate. -/
def State.ringNext (s : State) (l : LaneId) (r step : Nat) (f : List Byte) : State :=
  s.modRing l r fun x => { x with built := some f, bu := { x.bu with step := step } }

/-- Step 4 judged (R246, R248): descriptors refused, runs that agree, or a further run. -/
def State.descStep (s : State) (l : LaneId) (r : Nat) (f : List Byte) : State :=
  let i := s.ringImg l r
  let nb := i.nb r
  let ds := (List.range nb).map fun k => (k, descAt r k f)
  let ok := ds.all fun (p : Nat × Option (List Byte)) => match p.2 with
    | some b => !refusesDesc i r p.1 b
    | none => false
  let s := ds.foldl (fun s (p : Nat × Option (List Byte)) => match p.2 with
    | some b => s.modRing l r fun x => x.modSlot p.1 fun t => t.describe b
    | none => s) s
  if !ok then s.ringFault l r 4
  else
    let g := (s.lane l).ring r
    let run : Nat × List Word := (g.rtd, (List.range nb).map fun k => (vget g.slots {} k).serial)
    if g.bu.prev.contains run then
      let fwd := (List.range nb).map fun k => (vget g.slots {} k).fwd
      let s := s.modRing l r fun x => { x with
        bu := { x.bu with pushes := i.tableBlks r 256 }
        slots := x.slots.mapFinIdx fun k t _ => if k < nb then { t with dly := dlyOf x.rtd nb fwd k } else t }
      s.ringNext l r 5 (s.configFrame l r)
    else if 2 ≤ g.bu.prev.length then s.ringFault l r 6
    else
      let s := if s.owns l then s.modHw r fun h => { h with last := none } else s
      s.modRing l r fun x => { x with bu := { x.bu with step := 1, ticks := 0, prev := x.bu.prev ++ [run] } }

/-- Bring-up is complete (R246): the ring runs, and a RESCAN clears its lasting segments (R466). -/
def State.ringUp (s : State) (l : LaneId) (r : Nat) : State :=
  let rescan := ((s.lane l).ring r).bu.rescan
  let f := s.offFrame l r
  let s := s.modRing l r fun x => { x with st := .running, bu := {}, built := some f }
  if rescan then s.modLN l fun x => { x with hlth := { x.hlth with segs := x.hlth.segs.filter fun u => fld u.toNat 4 2 != r } }
  else s

/-- One tick of bring-up (R246): the frame that came back is judged, and the next frame is built. -/
def State.bringUp (s : State) (l : LaneId) (r : Nat) (idleBack : Bool) (rtd : Nat) : State :=
  let g := (s.lane l).ring r
  let f := (s.hw r).line
  let i := s.ringImg l r
  if g.st != .bringUp then s
  else match g.bu.step with
  | 1 =>
    let s := if s.owns l then s.modHw r fun h => { h with last := none } else s
    if g.bu.ticks < 3 then s.modRing l r fun x => { x with bu := { x.bu with ticks := x.bu.ticks + 1 } }
    else if !idleBack then (s.modRing l r fun x => { x with nfound := 0 }).ringFault l r 1
    else s.ringNext l r 2 ((s.nextHdr l .enum 0 false).bytes r)
  | 2 =>
    let n := match hdrOf r f with
      | some h => if h.typ == .enum then h.nb else 0
      | none => 0
    let s := s.modRing l r fun x => { x with nfound := n }
    if n ≠ i.nb r then s.ringFault l r 2 else s.ringNext l r 3 (s.offFrame l r)
  | 3 =>
    let s := s.modRing l r fun x => { x with rtd := min 1023 rtd }
    if 800 < rtd then s.ringFault l r 3 else s.ringNext l r 4 (s.descFrame l r)
  | 4 => s.descStep l r f
  | 5 | 6 =>
    match g.bu.pushes with
    | t :: ts =>
      let s := s.modRing l r fun x => { x with bu := { x.bu with pushes := ts } }
      s.ringNext l r 6 (pushFrame r (s.nextHdr l .push (i.nb r) false) t)
    | [] => s.ringNext l r 7 (s.armFrame l r)
  | 7 =>
    let ok := (List.range (i.nb r)).all fun k => match descAt r k f with
      | some b => byteAt b 20 == 0
      | none => false
    if ok then s.ringUp l r else s.ringFault l r 5
  | _ => s

/-- RING_BRINGUP (R246). -/
def execRingBringup (l : LaneId) (r : Fin 4) (idleBack : Bool) (rtd : Nat) (s : State) : Host.Outcome State Fault Refusal :=
  .next (s.bringUp l r idleBack rtd)

/-! ### Rejoin (R257) -/

/-- Every brick of a DESC frame matches bring-up and runs an armed table; a frame that did not come back, or whose header fails,
matches none. -/
def State.rejoinOk (s : State) (l : LaneId) (r : Nat) : Bool :=
  (List.range ((s.img l).nb r)).all fun k => match descAt r k (s.hw r).line with
    | some b => BitVec.ofNat 32 (le32 b 12) == (vget ((s.lane l).ring r).slots {} k).serial && bitOf (byteAt b 11) 2
    | none => false

/-- A ring that was broken runs again, and each of its bricks is released under R253: OFF with CLRSAFE first (R257). -/
def LaneRing.rejoined (g : LaneRing) : LaneRing :=
  { g with st := .running, brkat := 7, goodRun := 0, slots := g.slots.map fun t => { t with sfhold := true, cleared := none } }

/-- RING_REJOIN (R257): after four good frames one DESC frame is sent; the tick that sent it judges what came back. A DESC
frame that never left, the token having moved, is built again. -/
def execRingRejoin (l : LaneId) (r : Fin 4) (s : State) : Host.Outcome State Fault Refusal :=
  let g := (s.lane l).ring r
  let f := s.descFrame l r
  .next (
    if g.st == .broken && 4 ≤ g.goodRun then s.modRing l r fun x => { x with st := .rejoining, built := some f }
    else if g.st == .rejoining && !g.special r then
      if (s.hw r).typ == some .desc then
        if s.rejoinOk l r then s.modRing l r LaneRing.rejoined else s.ringFault l r 4
      else s.modRing l r fun x => { x with built := some f }
    else s)

/-! ### RESCAN (R260) -/

/-- A RESCAN of ring r is accepted. -/
def Lane.rescanOk (x : Lane) (r : Nat) : Bool :=
  let axes := idxs 24 fun n => x.hasAxis n && (x.acfg n).ring == r
  x.img.ringen r && axes.all (fun n => (x.axis n).cur.prof.phase == .idle && (x.axis n).cur.hall.still) &&
    axes.all fun n =>
      let st := (x.dway (x.acfg n).doorway).cur.st
      st == .locked || st == .stopped || st == .service

/-- RESCAN of the rings of a mask (R260). -/
def State.rescan (s : State) (l : LaneId) (rings : Nat) : State :=
  (idxs 4 fun r => bitOf rings r).foldl (fun s r =>
    if (s.lane l).rescanOk r then s.ringStart l r true true else s.modRing l r fun x => { x with rej := true }) s

/-- RESCAN (R260). -/
def execRescan (l : LaneId) (rings : BitVec 4) (s : State) : Host.Outcome State Fault Refusal := .next (s.rescan l rings.toNat)

/-! ### The GLID block (R259, R260) -/

/-- STATE (R260). -/
def RState.code : RState → Nat
  | .off => 0
  | .bringUp => 1
  | .running => 2
  | .broken => 3
  | .rejoining => 4
  | .fault => 5

/-- A register of brick slot k of ring r (R260). -/
def Lane.readSlot (x : Lane) (r k o : Nat) : Nat :=
  let i := x.img
  let t := vget (x.ring r).slots {} k
  if !i.slotUsed r k then 0
  else if o = 0 then
    pack [(8, t.stat), (2, i.brickSafe r k), (1, i.brickForm r k), (1, 0), (4, t.bflt), (8, t.temp), (8, t.dnerr)]
  else if o = 4 then pack [(16, t.vendor), (16, t.model)]
  else if o = 8 then pack [(16, t.ifs), (8, t.lag), (8, t.fwd)]
  else pack [(8, t.missup), (8, t.safecnt), (16, t.dly)]

/-- The GLID block (R259). -/
def State.readGlid (s : State) (l : LaneId) (o : Nat) : Nat :=
  let x := s.lane l
  let all := fun (f : Nat → Bool) => maskOf ((List.range 4).map f)
  if o = 0x00 then pack [(4, all x.img.ringen), (4, all fun r => !(x.ring r).svc.isEmpty)]
  else if o = 0x08 then
    pack [(1, laneNum s.ref.owner), (4, all fun r => (s.hw r).repNow), (11, 0), (16, s.lines.reptot)]
  else if 0x10 ≤ o ∧ o < 0x20 then
    let g := x.ring ((o - 0x10) / 4)
    pack [(3, g.st.code), (3, g.nfound), (3, g.brkat), (4, g.buerr), (1, b2n g.rbrk), (1, b2n g.rej)]
  else if 0x20 ≤ o ∧ o < 0x30 then
    let g := x.ring ((o - 0x20) / 4)
    pack [(8, g.upcrc), (8, g.noret), (8, g.beacons), (8, g.hdrerr)]
  else if 0x30 ≤ o ∧ o < 0x40 then
    let g := x.ring ((o - 0x30) / 4)
    pack [(10, g.rtd), (6, 0), (10, g.eoft)]
  else if 0x100 ≤ o ∧ o < 0x280 then
    let k := (o - 0x100) / 16
    x.readSlot (k / 6) (k % 6) (o % 16)
  else 0

/-- A write to the GLID block (R260). -/
def State.writeGlid (s : State) (l : LaneId) (o w : Nat) : State :=
  if o = 0x04 then s.rescan l (w % 16) else s

/-- The W1C flags of GLID_RSTAT. -/
def State.clearGlid (s : State) (l : LaneId) (o w : Nat) : State :=
  if 0x10 ≤ o ∧ o < 0x20 then
    s.modRing l ((o - 0x10) / 4) fun x => { x with rbrk := x.rbrk && !bitOf w 13, rej := x.rej && !bitOf w 14 }
  else s

end Sys2Proof.Machine
end

