-- ==== Sys2Proof/Machine/SafeFn.lean ====
section
/-! DEFINITION. Safety inputs, test pulses and safety functions (R266 to R279) as both technologies evaluate them. -/

namespace Sys2Proof.Machine

/-! ### Sources and mask windows (R267, R268) -/

/-- Where a source's pulse begins in the test frame, in µs (R267). -/
def pulseAt (src : Nat) : Nat := (src - 1) * 5000

/-- A sample instant, in µs from the start of a test frame of 20 ms or of the one before, lies in the mask window of a
source (R267, R268). -/
def masked (src t : Nat) : Bool := src != 0 && pulseAt src ≤ t % 20000 && t % 20000 < pulseAt src + 400

/-- The function that uses an input, with the input's source; from either payload's records. -/
def sourceIn (rec' : Nat → FnRec) (i : Nat) : Nat :=
  ((List.range 16).findSome? fun f =>
    let r := rec' f
    if r.typ = 0 then none
    else if r.ch1 = i then some r.tp1
    else if r.typ ≠ 7 ∧ r.ch2 = i then some r.tp2
    else none).getD 0

/-- The source of an input at a technology. -/
def SafetyCore.source (c : SafetyCore) (t : Tech) (i : Nat) : Nat :=
  match t with
  | .safetyCore => sourceIn (fnRec c.saf) i
  | .referee => sourceIn (refFnRec c.refRec) i

/-- Function f uses input i. -/
def FnRec.uses (r : FnRec) (i : Nat) : Bool := r.typ != 0 && (r.ch1 == i || (r.typ != 7 && r.ch2 == i))

/-- The levels of a function's channels; a RESET function has one. -/
def FnRec.levels (r : FnRec) (lev : BitVec 32) : Bool × Bool :=
  (lev.getLsbD r.ch1, lev.getLsbD (if r.typ = 7 then r.ch1 else r.ch2))

/-- Every channel of a function has its bit in a mask; channels without a source have nothing to show (R272). -/
def FnRec.allIn (r : FnRec) (m : BitVec 32) : Bool :=
  (r.tp1 == 0 || m.getLsbD r.ch1) && (r.typ == 7 || r.tp2 == 0 || m.getLsbD r.ch2)

/-! ### One evaluation (R272 to R276) -/

/-- TWOHAND and RESET functions have operations, not demands (R275, R276). -/
def FnRec.ev (r : FnRec) : Bool := r.typ == 3 || r.typ == 7

/-- The channels disagree in a way that DISC bounds (R273, R274). -/
def FnRec.disagrees (r : FnRec) (l : Bool × Bool) : Bool :=
  if r.ev then false else if r.typ = 2 then !l.1 && l.2 else l.1 != l.2

/-- The present levels are a demand (R273, R274). -/
def FnRec.demands (r : FnRec) (l : Bool × Bool) : Bool := !r.ev && !(l.1 && l.2)

/-- One more millisecond of disagreement, or none. -/
def FnEval.ms (r : FnRec) (l : Bool × Bool) (e : FnEval) : FnEval :=
  { e with discMs := if r.disagrees l then e.discMs + 1 else 0 }

/-- DISC has been exceeded (R273, R274). -/
def FnEval.discDue (r : FnRec) (e : FnEval) : Bool := e.st != .unused && e.st != .fault && r.disc < e.discMs

/-- FAULT with a code (R272). -/
def FnEval.fault (e : FnEval) (code : Nat) : FnEval := { e with st := .fault, code := code, bothLow := false, resetSeen := false }

/-- The cause of a fault has gone (R272, R276, R466); `pat` says that the channels have passed a test frame. -/
def FnEval.causeGone (e : FnEval) (l : Bool × Bool) (pat : Bool) : Bool :=
  if e.code = 1 ∨ e.code = 4 then e.discMs == 0
  else if e.code = 2 ∨ e.code = 3 then pat
  else if e.code = 5 then !l.1 && !l.2
  else e.code == 6

/-- A state left for another, with the fault's traces gone. -/
def FnEval.to (e : FnEval) (st : FnState) : FnEval := { e with st := st, code := 0, bothLow := false, resetSeen := false }

/-- One evaluation of a function (R272). `pat` says that its channels have passed a test frame, `free` that no lasting input
keeps it in START (R466). -/
def FnEval.step (r : FnRec) (l : Bool × Bool) (pat free : Bool) (e : FnEval) : FnEval :=
  let dem := r.demands l
  if e.discDue r then e.fault (if r.typ = 2 then 4 else 1)
  else match e.st with
  | .unused => e
  | .start =>
    if !dem && free && pat then e.to (if r.rstmode = 2 then .rstwait else .run) else e
  | .run => if dem then e.to .demand else e
  | .demand => if dem then e else e.to (if r.rstmode = 0 then .run else .rstwait)
  | .rstwait => if dem then e.to .demand else e
  | .fault =>
    let e := { e with bothLow := e.bothLow || (!l.1 && !l.2) }
    if e.bothLow && e.causeGone l pat && (e.code != 6 || e.resetSeen) then e.to (if r.ev then .run else .demand) else e

/-- A technology can take a reset for a function: no demand is present, and it waits for one or a fault's cause has gone
(R276). -/
def FnEval.canReset (r : FnRec) (l : Bool × Bool) (pat : Bool) (e : FnEval) : Bool :=
  !r.demands l && (e.st == .rstwait || (e.st == .fault && e.causeGone l pat))

/-- A reset taken (R276). -/
def FnEval.reset (e : FnEval) : FnEval := if e.st == .rstwait then e.to .run else { e with resetSeen := true }

/-! ### Recording what an evaluation did (R295) -/

/-- Function f of the safety core and the referee changed. -/
def State.modFn (s : State) (f : Nat) (g : SafeFn → SafeFn) : State := s.modSc fun c => { c with fns := vmod c.fns f g }

/-- Levels of a function at a technology. -/
def SafetyCore.fnLevels (c : SafetyCore) (t : Tech) (f : Nat) : Bool × Bool :=
  match t with
  | .safetyCore => (fnRec c.saf f).levels c.slev
  | .referee => (refFnRec c.refRec f).levels c.rlev

/-- A function's channels have passed a test frame at a technology; the referee checks no pattern (R270). -/
def SafetyCore.fnPat (c : SafetyCore) (t : Tech) (f : Nat) : Bool :=
  match t with
  | .safetyCore => (fnRec c.saf f).allIn c.patOk
  | .referee => (refFnRec c.refRec f).allIn c.rOk

/-- Bits of the inputs of a function. -/
def FnRec.bits (r : FnRec) : BitVec 32 :=
  BitVec.ofNat 32 (2 ^ (r.ch1 % 32)) ||| (if r.typ = 7 then 0 else BitVec.ofNat 32 (2 ^ (r.ch2 % 32)))

/-- The safety core's evaluation of function f becomes e: demands and faults are counted, a fault raises HATTN and is written
as an event, and CROSS and STUCK end with it (R295). -/
def State.setFn (s : State) (f : Nat) (e : FnEval) : State :=
  let old := (vget s.sc.fns {} f).sc
  let scan := s.sc.scan
  let s := s.modFn f fun x => { x with
    sc := e
    demands := if e.st == .demand && old.st != .demand then satInc 0xFFFF x.demands else x.demands
    lastdm := if e.st == .demand && old.st != .demand then scan else x.lastdm
    faults := if e.st == .fault && old.st != .fault then satInc 0xFFFF x.faults else x.faults }
  if e.st == .fault && old.st != .fault then
    (s.attnBoth 10).eventBoth 0x0301 (pack [(4, f), (4, 0), (4, e.code)])
  else if e.st != .fault && old.st == .fault then
    let m := ~~~(fnRec s.sc.saf f).bits
    s.modSc fun c => { c with cross := c.cross &&& m, stuck := c.stuck &&& m }
  else s

/-- The referee's evaluation of function f becomes e. -/
def State.setRf (s : State) (f : Nat) (e : FnEval) : State := s.modFn f fun x => { x with rf := e }

/-- Function f faulted at the safety core. -/
def State.fnFault (s : State) (f code : Nat) : State := s.setFn f ((vget s.sc.fns {} f).sc.fault code)

/-- No lasting input keeps function f in START (R466). -/
def State.fnFree (s : State) (f : Nat) : Bool := ((fnRec s.sc.saf f).bits &&& s.keep.inLast) == 0

/-- One evaluation of function f by the safety core. -/
def State.evalSc (s : State) (f : Nat) : State :=
  let c := s.sc
  s.setFn f ((vget c.fns {} f).sc.step (fnRec c.saf f) (c.fnLevels .safetyCore f) (c.fnPat .safetyCore f) (s.fnFree f))

/-- One evaluation of function f by the referee, which knows no TWOHAND (R271). -/
def State.evalRf (s : State) (f : Nat) : State :=
  let c := s.sc
  let r := refFnRec c.refRec f
  if r.typ = 3 then s
  else s.setRf f ((vget c.fns {} f).rf.step r (c.fnLevels .referee f) (c.fnPat .referee f) true)

/-! ### TWOHAND, ZSPEED and RESET presses (R275, R276) -/

/-- The ZSPEED permit (R271, R275). -/
def SafetyCore.zspd (c : SafetyCore) : Bool :=
  let zs := idxs 16 fun f => (fnRec c.saf f).typ == 6
  !zs.isEmpty && zs.all c.sperm

/-- The rise of a button, kept while it is high. -/
def riseOf (old : Option Nat) (high : Bool) (time : Nat) : Option Nat := if high then some (old.getD time) else none

/-- A button has been high for more than 30 s (R275). -/
def SafeFn.heldDue (x : SafeFn) (time : Nat) : Bool :=
  x.sc.st != .fault && x.sc.st != .unused &&
    [x.rise1, x.rise2].any fun o => match o with
      | some t => 30000 < time - t
      | none => false

/-- A TWOHAND function in one scan, or at its own event: rises, the held fault, and an operation (R275, R283). -/
def State.twohand (s : State) (f : Nat) : State :=
  let r := fnRec s.sc.saf f
  let time := s.sc.time
  let (l1, l2) := s.sc.fnLevels .safetyCore f
  let s := s.modFn f fun x => { x with rise1 := riseOf x.rise1 l1 time, rise2 := riseOf x.rise2 l2 time }
  let x := vget s.sc.fns {} f
  if r.typ ≠ 3 then s
  else if x.heldDue time then s.fnFault f 5
  else if x.sc.st != .run then s
  else if !l1 && !l2 then s.modFn f fun x => { x with armed := true }
  else if l1 && l2 && x.armed then
    let near := match x.rise1, x.rise2 with
      | some a, some b => a - b ≤ r.synct && b - a ≤ r.synct
      | _, _ => false
    let s := s.modFn f fun x => { x with armed := false }
    if near && s.sc.zspd then
      s.modSc fun c => { c with rell := c.rell || r.target == 0, relr := c.relr || r.target != 0 }
    else s
  else s

/-- Both technologies take a reset of function f where each can (R276). -/
def State.resetFn (s : State) (f : Nat) : State :=
  let c := s.sc
  let x := vget c.fns {} f
  let s := if x.sc.canReset (fnRec c.saf f) (c.fnLevels .safetyCore f) (c.fnPat .safetyCore f) then s.setFn f x.sc.reset else s
  if x.rf.canReset (refFnRec c.refRec f) (c.fnLevels .referee f) (c.fnPat .referee f) then s.setRf f x.rf.reset else s

/-- A RESET function: a press is timed, and acts on its falling edge when it lasted 100 ms to 3 s (R276). -/
def State.pressTick (s : State) (f : Nat) : State :=
  let r := fnRec s.sc.saf f
  let x := vget s.sc.fns {} f
  let (high, _) := s.sc.fnLevels .safetyCore f
  let time := s.sc.time
  if r.typ ≠ 7 then s
  else if x.sc.st != .run then s.modFn f fun x => { x with press := none }
  else match high, x.press with
  | true, none => s.modFn f fun x => { x with press := some time }
  | false, some t =>
    let s := s.modFn f fun x => { x with press := none }
    if 100 ≤ time - t ∧ time - t ≤ 3000 then (idxs 16 (bitOf r.rstmask)).foldl (fun s g => s.resetFn g) s else s
  | _, _ => s

/-! ### Outputs of the referee (R278, R282, R284) -/

/-- Output o of the safety path changed. -/
def State.modOut (s : State) (o : Nat) (f : SafeOut → SafeOut) : State := s.modSc fun c => { c with outs := vmod c.outs o f }

/-- The referee lets output o be on (R278). -/
def State.wantLow (s : State) (o : Nat) : Bool :=
  let c := s.sc
  let p := c.refRec
  refOutRole p o != 0 && c.refrun && !c.sclost && (vget c.outs {} o).ocode == 0 &&
    (idxs 16 (bitOf (refOutMask p o))).all (fun f => (vget c.fns {} f).rf.st == .run) &&
    (refOutRole p o != 2 || (c.sealtr && s.sealed))

/-- The longest low run, in µs, that the low channels of the functions of a mask showed before they were recognised. -/
def lowSpan (rec' : Nat → FnRec) (spans : Vector Nat 32) (lev : BitVec 32) (mask : Nat) : Nat :=
  let fs := idxs 16 (bitOf mask)
  let one := fun (f : Nat) =>
    let r := rec' f
    let ch := if r.typ = 7 then [r.ch1] else [r.ch1, r.ch2]
    ((ch.filter fun i => !lev.getLsbD i).map fun i => vget spans 0 i).foldl max 0
  (fs.map one).foldl max 0

/-- EDM of an output (R280): whatever turned it on or off, EDMIN is to change within EDMT. -/
def SafeOut.edmSee (x : SafeOut) (r : OutRec) : SafeOut :=
  if x.standing = x.edmOn then x
  else { x with edmOn := x.standing, edmLeft := if r.edmin = 0xFF then none else some (10 * r.edmt) }

/-- The referee switches the low side of every output (R278, R283, R284). An output never closes into a test pulse of its other
switch; a demand during a pulse of this switch leaves it open. -/
def State.lowSide (s : State) : State :=
  (List.range 6).foldl (fun s o =>
    let x := vget s.sc.outs {} o
    let want := s.wantLow o
    let r := outRec s.sc.saf o
    let otherTest := match x.testing with
      | some t => t.high
      | none => false
    let ownTest := match x.testing with
      | some t => !t.high
      | none => false
    if want = x.lon ∨ (want && otherTest) = true then s
    else
      let span := lowSpan (refFnRec s.sc.refRec) s.sc.rspan s.sc.rlev (refOutMask s.sc.refRec o)
      let took := span / 10 + if ownTest then 0 else Config.offDelay o false
      let s := s.modOut o fun x => ({ x with lon := want, fresh := true } : SafeOut).edmSee r
      if want || span = 0 then s else s.modOut o fun x => { x with reactr := max x.reactr (min 0xFFFF took) }) s

/-- The referee evaluates all functions and switches at once (R263, R284). -/
def State.referee (s : State) : State :=
  if s.sc.refrun then ((List.range 16).foldl (fun s f => s.evalRf f) s).lowSide else s

/-! ### Recognition (R266, R268, R269) -/

/-- Samples that a technology must see in a row (R269), and their period in µs (R266). -/
def samplesNeeded : Tech → Nat
  | .safetyCore => 5
  | .referee => 8
def samplePeriod : Tech → Nat
  | .safetyCore => 100
  | .referee => 50

/-- Length of a run from its first sample to its last. -/
def spanOf (ts : List Nat) : Nat := (ts.getLast?.getD 0) - (ts.head?.getD 0)

/-- Between two samples of a run lies no sample but those that a mask window leaves out (R268, R269). -/
def nextSample (src period a b : Nat) : Bool :=
  a < b && (b - a) % period == 0 && (List.range ((b - a) / period - 1)).all fun k => masked src (a + period * (k + 1))

/-- Sample instants of a run of consecutive samples outside the mask window. -/
def runOk (src period : Nat) : List Nat → Bool
  | a :: b :: ts => !masked src a && nextSample src period a b && runOk src period (b :: ts)
  | [a] => !masked src a
  | [] => true

/-- The samples that recognise input i at a technology: the first that it needs of a run, or none (R269). -/
def recognising (t : Tech) (src : Nat) (ts : List Nat) : Option (List Nat) :=
  let run := ts.filter fun x => !masked src x
  if samplesNeeded t ≤ run.length && runOk src (samplePeriod t) run then some (run.take (samplesNeeded t)) else none

/-- One bit of a mask of inputs set or cleared. -/
def setBit (m : BitVec 32) (i : Nat) (b : Bool) : BitVec 32 :=
  if b then m ||| BitVec.ofNat 32 (2 ^ i) else m &&& ~~~(BitVec.ofNat 32 (2 ^ i))

/-- Input i is recognised low or high by a technology from the samples of a run (R269); the referee acts at once. -/
def State.recognise (s : State) (t : Tech) (i : Nat) (ts : List Nat) (high : Bool) : State :=
  let lev := match t with
    | .safetyCore => s.sc.slev
    | .referee => s.sc.rlev
  match recognising t (s.sc.source t i) ts with
  | none => s
  | some ts =>
  if lev.getLsbD i = high then s
  else match t with
  | .safetyCore =>
    if !s.sc.scrun then s
    else (s.wake .safetyInput).modSc fun c => { c with
      slev := setBit c.slev i high, fhigh := setBit c.fhigh i false, patOk := setBit c.patOk i false
      sspan := if high then c.sspan else vmod c.sspan i fun _ => spanOf ts }
  | .referee =>
    if !s.sc.refrun then s
    else (s.modSc fun c => { c with
      rlev := setBit c.rlev i high, rhigh := setBit c.rhigh i false, rOk := setBit c.rOk i false
      rspan := if high then c.rspan else vmod c.rspan i fun _ => spanOf ts }).referee

/-- INPUT_LOW_RECOGNISED (R269). -/
def execInputLowRecognised (t : Tech) (i : Fin 32) (at' : List Nat) (s : State) : Host.Outcome State Fault Refusal :=
  .next (s.recognise t i at' false)

/-- INPUT_HIGH_RECOGNISED (R269). -/
def execInputHighRecognised (t : Tech) (i : Fin 32) (at' : List Nat) (s : State) : Host.Outcome State Fault Refusal :=
  .next (s.recognise t i at' true)

/-! ### Test frames and patterns (R267, R270) -/

/-- TEST_FRAME_START (R267): the frame just ended has passed for every input that stayed high without a deviation. -/
def execTestFrameStart (s : State) : Host.Outcome State Fault Refusal :=
  .next (if !s.sc.refrun then s
    else
      let s := s.modSc fun c => { c with
        frame := c.frame + 1, frameOn := true
        patOk := if c.frameOn then (c.patOk ||| c.fhigh) &&& ~~~c.patBad else c.patOk
        rOk := if c.frameOn then c.rOk ||| c.rhigh else c.rOk
        patBad := 0, fhigh := c.slev, rhigh := c.rlev }
      s.referee)

/-- A low run of a frame, as its first sample and its number of samples, is a foreign pulse to an input of this source
(R270). -/
def foreignRun (src : Nat) (r : Nat × Nat) : Bool :=
  1 ≤ r.2 && r.2 ≤ 4 &&
    [1, 2, 3, 4].any fun o => o != src && pulseAt o ≤ r.1 && r.1 ≤ pulseAt o + 400

/-- A low run shows the input's own pulse: one of its samples, 100 µs apart, lies in the mask window (R266, R270). -/
def ownRun (src : Nat) (r : Nat × Nat) : Bool := (List.range r.2).any fun k => masked src (r.1 + 100 * k)

/-- The low runs of a frame deviate from the pattern (R270). -/
def foreignIn (src : Nat) (rs : List (Nat × Nat)) : Bool := rs.any (foreignRun src)
def missingIn (src : Nat) (rs : List (Nat × Nat)) : Bool := !rs.any (ownRun src)

/-- CROSS or STUCK of input i: its function faults, and the input is to be checked (R270, R458). -/
def State.patternFault (s : State) (i code : Nat) : State :=
  let s := s.modSc fun c => { c with
    cross := if code = 2 then setBit c.cross i true else c.cross
    stuck := if code = 3 then setBit c.stuck i true else c.stuck
    chk := setBit c.chk i true }
  (idxs 16 fun f => (fnRec s.sc.saf f).uses i).foldl (fun s f =>
    if (vget s.sc.fns {} f).sc.st == .fault then s else s.fnFault f code) s

/-- PULSE_PATTERN_FAULT (R270): two consecutive frames as the safety core saw them. One deviating frame is no fault, yet no
frame with the correct pattern either (R272). -/
def execPulsePatternFault (i : Fin 32) (runs1 runs2 : List (Nat × Nat)) (s : State) : Host.Outcome State Fault Refusal :=
  let src := s.sc.source .safetyCore i
  if !s.sc.scrun || src == 0 || !s.sc.slev.getLsbD i then .next s
  else
    let bad := foreignIn src runs2 || missingIn src runs2
    let s := if bad then s.modSc fun c => { c with
        patBad := setBit c.patBad i true, patOk := setBit c.patOk i false } else s
    let s := if foreignIn src runs1 && foreignIn src runs2 then s.patternFault i 2 else s
    .next (if missingIn src runs1 && missingIn src runs2 then s.patternFault i 3 else s)

/-! ### Events of functions -/

/-- DISCREPANCY_FAULT (R273, R274). -/
def execDiscrepancyFault (f : Fin 16) (s : State) : Host.Outcome State Fault Refusal :=
  let x := vget s.sc.fns {} f
  let r := fnRec s.sc.saf f
  let q := refFnRec s.sc.refRec f
  let s := if x.sc.discDue r then s.fnFault f (if r.typ = 2 then 4 else 1) else s
  .next (if x.rf.discDue q then (s.setRf f (x.rf.fault (if q.typ = 2 then 4 else 1))).lowSide else s)

/-- TWOHAND_OPERATION (R275). -/
def execTwohandOperation (f : Fin 16) (s : State) : Host.Outcome State Fault Refusal := .next (s.twohand f)

/-- TWOHAND_HELD_FAULT (R275). -/
def execTwohandHeldFault (f : Fin 16) (s : State) : Host.Outcome State Fault Refusal :=
  .next (if (fnRec s.sc.saf f).typ = 3 ∧ (vget s.sc.fns {} f).heldDue s.sc.time = true then s.fnFault f 5 else s)

/-- RESET_BUTTON_PRESS (R276). -/
def execResetButtonPress (f : Fin 16) (s : State) : Host.Outcome State Fault Refusal := .next (s.pressTick f)

/-- SPERM and RPERM have differed for longer than DISC + 100 ms (R279). -/
def SafetyCore.disagDue (c : SafetyCore) (f : Nat) : Bool :=
  let r := fnRec c.saf f
  r.typ != 0 && r.typ != 3 && r.disc + 100 < (vget c.fns {} f).disagMs

/-- PERMIT_DISAGREE_FAULT (R279). -/
def State.disagree (s : State) (f : Nat) : State :=
  if s.sc.disagDue f then
    let s := s.fnFault f 6
    s.modFn f fun x => { x with rf := x.rf.fault 6, disagMs := 0 }
  else s

/-- PERMIT_DISAGREE_FAULT (R279). -/
def execPermitDisagreeFault (f : Fin 16) (s : State) : Host.Outcome State Fault Refusal :=
  .next (if s.sc.disagDue f then (s.disagree f).lowSide else s)

end Sys2Proof.Machine
end

