-- ==== Sys2Proof/Machine/SafeScan.lean ====
section
/-! DEFINITION. The safety core's scan (R278 to R287): outputs and their tests, commands from the mailboxes (R82 to R86, R293,
R313, R401, R402), the reports to the lanes (R189, R209, R277) and the SAFE block (R294). -/

namespace Sys2Proof.Machine

/-! ### Output faults and the high side (R278 to R282) -/

/-- Output o takes a fault: both switches open (R282, R295). -/
def State.outFault (s : State) (o code : Nat) : State :=
  if (vget s.sc.outs {} o).ocode ≠ 0 then s
  else
    let r := outRec s.sc.saf o
    let s := s.modOut o fun x => ({ x with ocode := code, hon := false, lon := false, testing := none } : SafeOut).edmSee r
    (s.attnBoth 10).eventBoth 0x0302 (pack [(3, o), (5, 0), (4, code)])

/-- The safety core lets output o be on (R278). -/
def State.wantHigh (s : State) (o : Nat) : Bool :=
  let c := s.sc
  let r := outRec c.saf o
  r.role != 0 && c.scrun && !c.reflost && (vget c.outs {} o).ocode == 0 &&
    (idxs 16 (bitOf r.fmask)).all c.sperm && (idxs 64 (bitOf r.cmask)).all (fun k => (c.conn k).permits) &&
    (r.role != 2 || (c.sealtr && s.sealed))

/-- The level EDMIN has while the contactor is released is high (R280). -/
def SafetyCore.edmHigh (c : SafetyCore) (r : OutRec) : Bool := r.edmin == 0xFF || c.slev.getLsbD r.edmin

/-- The safety core switches the high side of every output at the end of a scan (R278, R280, R283, R284). -/
def State.highSide (s : State) : State :=
  (List.range 6).foldl (fun s o =>
    let x := vget s.sc.outs {} o
    let r := outRec s.sc.saf o
    let lowTest := match x.testing with
      | some t => !t.high
      | none => false
    let want := s.wantHigh o && (x.hon || (s.sc.edmHigh r && !lowTest))
    if want = x.hon then s
    else
      let span := lowSpan (fnRec s.sc.saf) s.sc.sspan s.sc.slev r.fmask
      let took := span / 10 + Config.scanPhase s.sc.scan + 100 + Config.offDelay o true
      let s := s.modOut o fun x => ({ x with hon := want } : SafeOut).edmSee r
      if want || span = 0 then s else s.modOut o fun x => { x with reacts := max x.reacts (min 0xFFFF took) }) s

/-- The end of a test pulse (R281, R283): judged unless its switch is to stay off or VSOUT is low. -/
def State.pulseEnd (s : State) (o : Nat) : State :=
  let x := vget s.sc.outs {} o
  match x.testing with
  | none => s
  | some t =>
    let stays := if t.high then !s.wantHigh o else !x.lon
    let s := s.modOut o fun x => { x with testing := none }
    if stays || s.sc.vslow then s
    else if t.rb.bypassed then s.outFault o (if t.high then 4 else 3)
    else if !t.rb.off || !t.rb.on then s.outFault o (if t.high then 1 else 2)
    else s.modOut o fun x => { x with tests := satInc 0xFFFF x.tests }

/-- The nodes of output o read back in a scan (R281, R282). A switch commanded since the last scan is judged in the next. -/
def State.readNodes (s : State) (o : Nat) (rb : Readback) : State :=
  let high := rb.high.getLsbD o
  let low := rb.low.getLsbD o
  let x := vget s.sc.outs {} o
  let s := s.modOut o fun x => { x with hrb := high, lrb := low, fresh := false }
  if (outRec s.sc.saf o).role = 0 ∨ x.ocode ≠ 0 ∨ x.fresh = true ∨ x.testing.isSome = true ∨ s.sc.vslow = true then s
  else if x.hon && !high then s.outFault o 1
  else if x.lon && !low then s.outFault o 2
  else if !x.hon && high then s.outFault o 4
  else if x.hon && !x.lon && low then s.outFault o 3
  else s

/-- EDMIN of an output as it is to read (R280). -/
def SafeOut.edmOk (x : SafeOut) (r : OutRec) (slev : BitVec 32) : Bool := r.edmin == 0xFF || slev.getLsbD r.edmin == !x.standing
def SafetyCore.edmOk (c : SafetyCore) (o : Nat) : Bool := (vget c.outs {} o).edmOk (outRec c.saf o) c.slev

/-- EDM has not changed within EDMT (R280). -/
def State.edmFault (s : State) (o : Nat) : State :=
  if (vget s.sc.outs {} o).edmLeft = some 0 ∧ s.sc.edmOk o = false then s.outFault o 5 else s

/-- One scan of EDM. -/
def State.edmTick (s : State) (o : Nat) : State :=
  let s := s.modOut o fun x => x.edmSee (outRec s.sc.saf o)
  if s.sc.edmOk o then s.modOut o fun x => { x with edmLeft := none }
  else
    let s := s.edmFault o
    s.modOut o fun x => { x with edmLeft := x.edmLeft.map fun n => n - 1 }

/-- VSOUT below 16 V faults every used output, and above 17 V the fault ends by itself (R282). -/
def State.vsoutFault (s : State) : State :=
  if s.sc.vslow then
    (idxs 6 fun o => (outRec s.sc.saf o).role != 0).foldl (fun s o => s.outFault o 7) s
  else s.modSc fun c => { c with outs := c.outs.map fun x => if x.ocode = 7 then { x with ocode := 0 } else x }

/-- EDM_FAULT (R280). -/
def execEdmFault (o : Fin 6) (s : State) : Host.Outcome State Fault Refusal := .next (s.edmFault o)

/-- OUTPUT_OVERCURRENT (R282): the current stood above 0.7 A for 100 µs. -/
def execOutputOvercurrent (o : Fin 6) (milliamps : Nat) (s : State) : Host.Outcome State Fault Refusal :=
  .next (if 700 < milliamps then s.outFault o 6 else s)

/-- VSOUT reads a value, in 0.2 V: below 16 V is low, and above 17 V no longer (R282, R490). -/
def State.vsoutRead (s : State) (reading : Nat) : State :=
  ((s.modLines fun x => { x with vsout := reading }).modSc fun c => { c with
    vslow := decide (reading < 80) || (c.vslow && decide (reading ≤ 85)) }).vsoutFault

/-- VSOUT_LOW (R282, R283). -/
def execVsoutLow (reading : Byte) (s : State) : Host.Outcome State Fault Refusal := .next (s.vsoutRead reading.toNat)

/-- VSOUT_RECOVER (R282). -/
def execVsoutRecover (reading : Byte) (s : State) : Host.Outcome State Fault Refusal := .next (s.vsoutRead reading.toNat)

/-- The test frame holds a slot of output o: the 250 ms cycles begin with the referee, at frame 0, and a frame is 20 ms (R267,
R281). -/
def testSlot (o frame : Nat) : Bool := frame % 25 == 2 * o || frame % 25 == 12 + 2 * o

/-- OUTPUT_TEST_PULSE (R281, R283): in the slot of output o, once, the switch whose turn it is has its pulse, and the scan that
follows ends and judges it. It is deferred while EDM awaits its change, and an output that is off is not pulsed. In the slot of
the high-side switch the referee signals the safety core. -/
def State.testPulse (s : State) (o : Nat) (rb : PulseReadback) : State :=
  let x := vget s.sc.outs {} o
  let frame := s.sc.frame
  if !s.sc.refrun || !testSlot o frame || x.slot == some frame then s
  else
    let s := s.modSc fun c => { c with slotMs := if x.nextHigh then 0 else c.slotMs }
    let s := s.modOut o fun x => { x with slot := some frame }
    if !x.edmLeft.isNone then s
    else s.modOut o fun x => { x with
      testing := if x.on then some { high := x.nextHigh, rb := rb } else x.testing, nextHigh := !x.nextHigh }

/-- OUTPUT_TEST_PULSE. -/
def execOutputTestPulse (o : Fin 6) (rb : PulseReadback) (s : State) : Host.Outcome State Fault Refusal :=
  .next (s.testPulse o rb)

/-! ### Loss of the other technology (R265, R281) -/

/-- The outputs with the switches of one technology, or of both, open. -/
def SafetyCore.opened (c : SafetyCore) (high low : Bool) : Vector SafeOut 6 :=
  c.outs.mapFinIdx fun o x _ => ({ x with hon := x.hon && !high, lon := x.lon && !low, fresh := true } : SafeOut).edmSee (outRec c.saf o)

/-- The detecting technology opens all its switches until the next module reset (R265). -/
def State.techLost (s : State) (t : Tech) : State :=
  let s := match t with
    | .safetyCore => s.modSc fun c => { c with
      reflost := true, outs := c.opened true false }
    | .referee => s.modSc fun c => { c with
      sclost := true, outs := c.opened false true }
  (s.attnBoth 10).eventBoth 0x0303 (maskOf [s.sc.sclost, s.sc.reflost])

/-- ALIVE_LOSS (R265): the technology that misses the other's alive signal for 2 ms. -/
def execAliveLoss (t : Tech) (s : State) : Host.Outcome State Fault Refusal :=
  let seen := match t with
    | .safetyCore => !s.sc.scrun || s.sc.reflost
    | .referee => !s.sc.refrun || s.sc.sclost
  .next (if seen then s else s.techLost t)

/-- No slot signal for 1 s counts as the referee's loss (R281). -/
def State.slotLoss (s : State) : State :=
  if 1000 ≤ s.sc.slotMs && s.sc.scrun && !s.sc.reflost then s.techLost .safetyCore else s

/-- TEST_SLOT_LOSS (R281). -/
def execTestSlotLoss (s : State) : Host.Outcome State Fault Refusal := .next s.slotLoss

/-! ### Commands (R82, R83, R86, R293, R313, R401, R402) -/

/-- The mailbox a command came by, and its lane. -/
def srcLane : SafeSrc → LaneId
  | .mb2 l => l
  | .mb6 l => l
def srcBox : SafeSrc → Nat
  | .mb2 _ => 2
  | .mb6 _ => 6

/-- The command is the host's, not a steward's. -/
def srcHost : SafeSrc → Bool
  | .mb2 _ => true
  | .mb6 _ => false

/-- The message in the mailbox of a source. -/
def State.safeMsg (s : State) (src : SafeSrc) : Mbox := vget (s.lane (srcLane src)).keep.boxes {} (srcBox src)

/-- The answer to a command: the acknowledgement, and two words on MB3 or MB7 (R402). -/
def State.safeAnswer (s : State) (src : SafeSrc) (code rc : Nat) (seq : BitVec 16) : State :=
  let l := srcLane src
  let s := if (s.safeMsg src).full then s.ack l (srcBox src) (BitVec.ofNat 16 rc) seq else s
  s.deliver l (srcBox src + 1) (pisteOf (s.img s.ref.owner) 0 0 0 2) s.keep.scno
    [BitVec.ofNat 32 (pack [(16, code), (16, rc)]), seq.setWidth 32]

/-- The return code of CONFIRM (R83); which of several codes is given is the model's choice (log entry 22). Bits 31 to 16 of
words 0 and 2, which R82 gives as 0, are not judged (DEDUCED, log entry 63). -/
def State.confirmRc (s : State) (src : SafeSrc) (chk plug : Word) : Nat :=
  let f := foldOf s.sc.chkv
  if !srcHost src then 0x0109
  else if s.sc.sealSec.isNone then 0x0106
  else if s.sealed then 0x0105
  else if s.sc.chkv ≠ s.sc.refChkv then 0x0104
  else if f = 0 ∨ f = 0xFFFF then 0x0103
  else if chk ≠ s.sc.chkv then 0x0101
  else if plug.setWidth 16 ≠ f ∨ s.plugIs f = false then 0x0102
  else 0

/-- The seal record that CONFIRM writes (R85). -/
def State.newSeal (s : State) : SealRec :=
  let i := s.img s.ref.owner
  let r : SealRec := {
    chkv := s.sc.chkv, fold := foldOf s.sc.chkv, epoch := i.epoch, imgcrc := i.crc
    time := s.lines.now
    count := satInc 0xFFFF s.keep.sealRec.count }
  { r with crc := r.check }

/-- CONFIRM (R82, R83, R85). -/
def State.confirm (s : State) (src : SafeSrc) (chk plug : Word) : State × Nat :=
  let s := s.readPlug
  let rc := s.confirmRc src chk plug
  let r := s.newSeal
  (if rc = 0 then s.modModKeep fun k => { k with sealRec := r } else s, rc)

/-- Every door loop is closed and locked, at zero speed (R86). -/
def SafetyCore.doorsSafe (c : SafetyCore) : Bool := c.allLoops && c.zspd

/-- WITHDRAW (R86). -/
def State.withdraw (s : State) (src : SafeSrc) (chk : Word) : State × Nat :=
  if !srcHost src then (s, 0x0109)
  else if s.sealed && chk == s.sc.chkv && s.sc.doorsSafe then
    let s := s.modModKeep fun k => { k with sealRec := { k.sealRec with wdrawn := true } }
    (s.modSc fun c => { c with sealtr := false }, 0)
  else (s, 0x0107)

/-- Function f can be reset by command: each technology that evaluates it can take the reset (R276, R293). -/
def SafetyCore.canReset (c : SafetyCore) (f : Nat) : Bool :=
  let x := vget c.fns {} f
  let r := fnRec c.saf f
  x.sc.canReset r (c.fnLevels .safetyCore f) (c.fnPat .safetyCore f) &&
    (r.typ == 3 || x.rf.canReset (refFnRec c.refRec f) (c.fnLevels .referee f) (c.fnPat .referee f))

/-- RESET (R282, R293). -/
def State.safeReset (s : State) (sel : Nat) : State × Nat :=
  let fs := idxs 16 (bitOf sel)
  let os := idxs 6 fun o => bitOf sel (16 + o)
  if fs.all s.sc.canReset && os.all (fun o => let c := (vget s.sc.outs {} o).ocode; c == 0 || c == 5 || c == 6) then
    let s := fs.foldl (fun s f => s.resetFn f) s
    (os.foldl (fun s o => s.modOut o fun x => if x.ocode = 5 ∨ x.ocode = 6 then { x with ocode := 0 } else x) s, 0)
  else (s, 0x0108)

/-- RELCLR (R275, R293). -/
def State.relclr (s : State) (sides : Nat) : State :=
  s.modSc fun c => { c with rell := c.rell && !bitOf sides 0, relr := c.relr && !bitOf sides 1 }

/-- RECONN (R313). -/
def State.reconn (s : State) (lo hi : Nat) : State × Nat :=
  let ks := idxs 64 fun k => if k < 32 then bitOf lo k else bitOf hi (k - 32)
  if ks.all (fun k => (s.sc.conn k).st == .ackwait) then
    (ks.foldl (fun s k => s.modConn k fun c => { c with st := .valid, code := 0 }) s, 0)
  else (s, 0x010B)

/-- The word count of a command; none for an unknown code (R402). -/
def safeLen (code : Nat) : Option Nat :=
  if code = 0x31 ∨ code = 0x43 then some 3 else if code = 0x32 ∨ code = 0x41 ∨ code = 0x42 then some 2 else none

/-- RESET and RECONN act in the next scan (R293, R313). -/
def State.deferSafe (s : State) (src : SafeSrc) (code : Nat) (seq : BitVec 16) (words : List Word) : State :=
  s.modSc fun c => { c with cmds := c.cmds ++ [{ src := src, code := code, seq := seq, words := words }] }

/-- A message taken at the start of a scan: refused, answered in this scan, or left for the next (R401, R402). -/
def State.takeSafe (s : State) (src : SafeSrc) : State :=
  let b := s.safeMsg src
  let x := s.lane (srcLane src)
  let w := fun (k : Nat) => vget b.body 0 k
  let code := (w 0).toNat % 65536
  let sender := if srcHost src then x.keep.hstart else x.keep.swno
  if !b.full || s.sc.cmds.any (fun q => q.src == src) then s
  else if b.startno ≠ sender then s.safeAnswer src code 0x010C b.seq
  else if b.len = 0 then s.safeAnswer src 0 0x010D b.seq
  else match safeLen code with
  | none => s.safeAnswer src code 0x010A b.seq
  | some n =>
    if b.len ≠ n then s.safeAnswer src code 0x010D b.seq
    else if code = 0x31 then
      let (s, rc) := s.confirm src (w 1) (w 2)
      s.safeAnswer src code rc b.seq
    else if code = 0x32 then
      let (s, rc) := s.withdraw src (w 1)
      s.safeAnswer src code rc b.seq
    else if code = 0x42 then (s.relclr (w 1).toNat).safeAnswer src code 0 b.seq
    else s.deferSafe src code b.seq [w 1, w 2]

/-- A command of the scan before acts and is answered. -/
def State.actSafe (s : State) (q : SafeCmd) : State :=
  let w := fun (k : Nat) => ((q.words[k]?).getD 0).toNat
  let (s, rc) := if q.code = 0x41 then s.safeReset (w 0) else s.reconn (w 0) (w 1)
  s.safeAnswer q.src q.code rc q.seq

/-- The four mailboxes the safety core serves (R400). -/
def safeSources : List SafeSrc := [.mb2 .a, .mb6 .a, .mb2 .b, .mb6 .b]

/-- CONFIRM (R83). -/
def execConfirm (src : SafeSrc) (chk plug : Word) (s : State) : Host.Outcome State Fault Refusal :=
  if s.sc.scrun then
    let (t, rc) := s.confirm src chk plug
    .next (t.safeAnswer src 0x31 rc (s.safeMsg src).seq)
  else .next s

/-- WITHDRAW (R86). -/
def execWithdraw (src : SafeSrc) (chk : Word) (s : State) : Host.Outcome State Fault Refusal :=
  if s.sc.scrun then
    let (t, rc) := s.withdraw src chk
    .next (t.safeAnswer src 0x32 rc (s.safeMsg src).seq)
  else .next s

/-- RESET (R293): it acts in the next scan. -/
def execSafeReset (src : SafeSrc) (sel : Word) (s : State) : Host.Outcome State Fault Refusal :=
  .next (if s.sc.scrun then s.deferSafe src 0x41 (s.safeMsg src).seq [sel, 0] else s)

/-- RELCLR (R293). -/
def execRelclr (src : SafeSrc) (sides : Word) (s : State) : Host.Outcome State Fault Refusal :=
  .next (if s.sc.scrun then (s.relclr sides.toNat).safeAnswer src 0x42 0 (s.safeMsg src).seq else s)

/-- RECONN (R313): it acts in the next scan. -/
def execReconn (src : SafeSrc) (lo hi : Word) (s : State) : Host.Outcome State Fault Refusal :=
  .next (if s.sc.scrun then s.deferSafe src 0x43 (s.safeMsg src).seq [lo, hi] else s)

/-! ### Reports (R189, R209, R272, R277) -/

/-- The edge and curtain functions that satisfy p report: bit 0 that one is active, bit 1 that one is faulted. -/
def SafetyCore.sensed (c : SafetyCore) (p : FnRec → Bool) : Nat :=
  let sts := (idxs 16 fun f => p (fnRec c.saf f)).map fun f => (vget c.fns {} f).sc.st
  maskOf [sts.any fun st => st != .run && st != .fault, sts.any (· == .fault)]

/-- The report of a completed scan. -/
def SafetyCore.report (c : SafetyCore) : Report :=
  let any := fun (t d : Nat) (run : Bool) => (List.range 16).any fun f =>
    let r := fnRec c.saf f
    r.typ == t && bitOf r.dmask d && c.sperm f == run
  { zspd := c.zspd, rell := c.rell, relr := c.relr
    loops := BitVec.ofNat 12 (maskOf ((List.range 12).map fun d => any 2 d true))
    egr := BitVec.ofNat 12 (maskOf ((List.range 12).map fun d => any 1 d false))
    edges := Vector.ofFn fun (n : Fin 24) => c.sensed fun r => r.typ == 5 && r.target == n.val
    curts := Vector.ofFn fun (d : Fin 12) => c.sensed fun r => r.typ == 4 && bitOf r.dmask d.val
    sperm := BitVec.ofNat 16 (maskOf ((List.range 16).map c.sperm))
    outon := BitVec.ofNat 6 (maskOf (c.outs.toList.map SafeOut.on))
    tract := c.tract }

/-- The reports of R189 and R209, whose change QUIET watches (R342). -/
def Report.car (r : Report) : Report := { r with sperm := 0, outon := 0, tract := false }

/-- A lane has a report: an unchanged one leaves the count of start gates without a change as it is. -/
def RptLN.take (r : RptLN) (rep : Report) : RptLN := { r with rep := rep, same := if rep.car = r.rep.car then r.same else 0 }

/-- SAFETY_REPORT (R277, R294): both lanes have the report of the latest completed scan. -/
def execSafetyReport (s : State) : Host.Outcome State Fault Refusal :=
  let rep := s.sc.rep
  let view := s.sc.view
  .next (if s.sc.scrun then
      s.modLanes fun x => { x with
        ln := { x.ln with rpt := { x.ln.rpt.take rep with rptok := true, missed := 0 } }
        mr := { x.mr with view := view } }
    else s)

/-- Every reported value as safe (R277). -/
def Report.safe : Report :=
  { egr := BitVec.allOnes 12, edges := Vector.replicate 24 2, curts := Vector.replicate 12 1 }

/-- A lane without a report at four start gates takes every reported value as safe (R277). -/
def State.reportLoss (s : State) (l : LaneId) : State :=
  if 4 ≤ (s.lane l).ln.rpt.missed then s.modLN l fun x => { x with rpt := x.rpt.take Report.safe } else s

/-- REPORT_LOSS (R277). -/
def execReportLoss (l : LaneId) (s : State) : Host.Outcome State Fault Refusal := .next (s.reportLoss l)

/-- The reports at a start gate: the gate counts as one without a report until the report has come. -/
def State.reportGate (s : State) (l : LaneId) : State :=
  (s.reportLoss l).modLN l fun x => { x with rpt := { x.rpt with
    rptok := false, missed := x.rpt.missed + 1, same := x.rpt.same + 1 } }

/-! ### The scan (R284) -/

/-- Without the ZSPEED permit both releases end (R275). -/
def State.relEnd (s : State) : State := if s.sc.zspd then s else s.modSc fun c => { c with rell := false, relr := false }

/-- Functions and permits of a scan, in both technologies (R279, R283): a function's own ms are counted first, and ZSPEED is
judged before TWOHAND. -/
def State.fnScan (s : State) : State :=
  let fs := List.range 16
  let s := s.modSc fun c =>
    let tick := fun (x : SafeFn) (f : Nat) =>
      let r := fnRec c.saf f
      let q := refFnRec c.refRec f
      let differ := r.typ != 0 && r.typ != 3 && (x.sc.st == .run) != (x.rf.st == .run)
      { x with
        sc := x.sc.ms r (c.fnLevels .safetyCore f), rf := x.rf.ms q (c.fnLevels .referee f)
        disagMs := if differ then x.disagMs + 1 else 0 }
    { c with fns := c.fns.mapFinIdx fun f x _ => tick x f }
  let s := fs.foldl (fun s f => s.evalSc f) s
  let s := if s.sc.refrun then fs.foldl (fun s f => s.evalRf f) s else s
  let s := fs.foldl (fun s f => s.twohand f) s
  fs.foldl (fun s f => s.pressTick f) s.relEnd

/-- The outputs of a scan (R278 to R283). -/
def State.outScan (s : State) : State :=
  let os := List.range 6
  let s := os.foldl (fun s o => s.pulseEnd o) s
  let s := os.foldl (fun s o => s.edmTick o) s
  (s.vsoutFault.lowSide).highSide

/-- The outputs as the report of a scan shows them: a pulse that was in progress may still be (R281, R295). -/
def SafetyCore.shown (c : SafetyCore) (old : Vector SafeOut 6) : Vector SafeOut 6 :=
  c.outs.mapFinIdx fun o x _ =>
    if x.testing.isNone && Config.pulseSeen o c.scan then { x with testing := (vget old {} o).testing } else x

/-- What the registers of the lanes are to show of this scan (R294, R319). -/
def State.safeView (s : State) (outs : Vector SafeOut 6) : SafeView :=
  let c := s.sc
  { scrun := c.scrun, refrun := c.refrun, sclost := c.sclost, reflost := c.reflost, sealtr := c.sealtr && s.sealed
    vslow := c.vslow, tbad := c.tbad, scan := c.scan, slev := c.slev, rlev := c.rlev, cross := c.cross, stuck := c.stuck
    rep := c.rep, fns := c.fns, outs := outs, conns := c.conns }

/-- SAFETY_SCAN: one scan of 1 ms (R284, R304, R402). -/
def State.safetyScan (s : State) (rb : Readback) : State :=
  let s := s.modSc fun c => { c with time := c.time + 1, scan := (c.scan + 1) % 65536, slotMs := c.slotMs + 1 }
  let due := s.sc.cmds
  let s := s.modSc fun c => { c with cmds := [] }
  let s := (List.range 6).foldl (fun s o => s.readNodes o rb) s
  let s := s.connScan
  let s := s.fnScan
  let s := due.foldl (fun s q => s.actSafe q) s
  let s := safeSources.foldl (fun s src => s.takeSafe src) s
  let s := ((List.range 16).foldl (fun s f => s.disagree f) s).relEnd
  let old := s.sc.outs
  let s := (s.slotLoss).outScan
  let outs := s.sc.shown old
  let s := s.modSc fun c => { c with rep := { c with outs := outs }.report }
  let s := (List.range 64).foldl (fun s k => s.frameProduce k) s
  s.modSc fun c => { c with view := s.safeView outs }

/-- SAFETY_SCAN (R284). -/
def execSafetyScan (rb : Readback) (s : State) : Host.Outcome State Fault Refusal :=
  .next (if s.sc.scrun then s.safetyScan rb else s)

/-! ### Start and load (R285, R286, R401) -/

/-- The functions restart from START, every switch open, with the sealed sections of an image (R272, R286). -/
def SafetyCore.restart (c : SafetyCore) (i : Image) : SafetyCore :=
  let saf := i.sec 0x10
  let ref := i.sec 0x11
  let one := fun (f : Nat) (x : SafeFn) =>
    let t := (fnRec saf f).typ
    let e : FnEval := { st := if t = 0 then .unused else .start }
    { x with sc := e, rf := if t = 3 then { e with st := .unused } else e, disagMs := 0, armed := false, rise1 := none,
             rise2 := none, press := none }
  { c with
    sealSec := some (saf, ref), chkv := i.chkv, refChkv := i.chkv
    fns := c.fns.mapFinIdx fun f x _ => one f x
    outs := (c.opened true true).map fun x => { x with testing := none }
    conns := connsOf saf c.conns, inbox := [], patOk := 0, rOk := 0, cross := 0, stuck := 0, rell := false, relr := false }

/-- A full load takes effect on the safety path (R286): nothing where the check value is the running one. -/
def SafetyCore.load (c : SafetyCore) (i : Image) : SafetyCore :=
  if c.sealSec.isSome && i.chkv == c.chkv then c else c.restart i

/-- At its start the safety core answers every FULL message with 010Ch, and its number advances (R395, R401). -/
def State.safetyStart (s : State) : State :=
  let s := s.modModKeep fun k => { k with scno := k.scno + 1 }
  let s := s.modSc fun c => { c with scrun := true, refrun := true }
  safeSources.foldl (fun s src =>
    let b := s.safeMsg src
    if b.full then s.safeAnswer src ((vget b.body 0 0).toNat % 65536) 0x010C b.seq else s) s

/-- SEAL_PLUG_READ: three samples of the seal lands, 1 ms apart (R79, R95). -/
def execSealPlugRead (s0 s1 s2 : BitVec 16) (s : State) : Host.Outcome State Fault Refusal :=
  .next (s.modLines fun x => { x with plugLevel := s2, plugGood := s0 == s1 && s1 == s2 }).readPlug

/-! ### The SAFE block (R294, R295) -/

/-- STATE of SAFE_FN. -/
def FnState.code : FnState → Nat
  | .unused => 0
  | .start => 1
  | .run => 2
  | .demand => 3
  | .rstwait => 4
  | .fault => 5

/-- SAFE_FN and SAFE_FNT of function f, with the SAFETY payload in use. -/
def SafeView.readFn (v : SafeView) (saf : List Byte) (f r : Nat) : Nat :=
  let x := vget v.fns {} f
  let q := fnRec saf f
  let l := q.levels v.slev
  if r = 0 then
    pack [(3, q.typ), (1, 0), (3, x.sc.st.code), (1, b2n (x.sc.st == .run)), (1, b2n (x.rf.st == .run)),
      (1, b2n (q.typ != 0 && l.1)), (1, b2n (q.typ != 0 && q.typ != 7 && l.2)), (1, 0), (4, x.sc.code), (16, x.demands)]
  else pack [(16, x.lastdm), (16, x.faults)]

/-- SAFE_OUT and SAFE_OUTT of output o. A test pulse opens the switch it is on. -/
def SafeView.readOut (v : SafeView) (saf : List Byte) (o r : Nat) : Nat :=
  let x := vget v.outs {} o
  let q := outRec saf o
  let test := fun (high : Bool) => match x.testing with
    | some t => t.high == high
    | none => false
  if r = 0 then
    pack [(2, q.role), (1, b2n (x.hon && !test true)), (1, b2n (x.lon && !test false)), (1, b2n x.hrb),
      (1, b2n x.lrb), (1, b2n x.on), (1, b2n x.testing.isSome), (4, x.ocode), (1, b2n (x.edmOk q v.slev)), (3, 0), (16, x.tests)]
  else pack [(16, x.reactr), (16, x.reacts)]

/-- The SAFE block of a lane: the latest report that it has (R294). -/
def State.readSafe (s : State) (l : LaneId) (o : Nat) : Nat :=
  let x := s.lane l
  let v := x.mr.view
  let saf := s.sc.saf
  if o = 0x00 then
    pack [(1, b2n v.scrun), (1, b2n v.refrun), (1, b2n v.sclost), (1, b2n v.reflost), (1, b2n x.ln.rpt.rptok),
      (1, b2n v.sealtr), (6, v.rep.outon.toNat), (1, b2n v.vslow), (3, 0), (16, v.scan)]
  else if o = 0x04 then v.slev.toNat
  else if o = 0x08 then v.rlev.toNat
  else if o = 0x0C then v.cross.toNat
  else if o = 0x10 then v.stuck.toNat
  else if o = 0x14 then maskOf [v.rep.zspd, v.rep.rell, v.rep.relr, v.rep.tract]
  else if o = 0x18 then pack [(12, v.rep.loops.toNat), (4, 0), (12, v.rep.egr.toNat)]
  else if 0x40 ≤ o ∧ o < 0xC0 then v.readFn saf ((o - 0x40) / 8) (o % 8)
  else if 0xC0 ≤ o ∧ o < 0xF0 then v.readOut saf ((o - 0xC0) / 8) (o % 8)
  else 0

end Sys2Proof.Machine
end

