-- ==== Sys2Proof/Machine/Health.lean ====
section
/-! DEFINITION. Patrol checks and their outcomes, the health table, degradation, and the input checks of the safety core
(chapter 16). -/

namespace Sys2Proof.Machine

/-- HLTH fields of lane l changed. -/
def State.modHlth (s : State) (l : LaneId) (f : HlthLN → HlthLN) : State := s.modLN l fun x => { x with hlth := f x.hlth }

/-! ### Taking a check (R460) -/

/-- The home pod of the RING context of a ring. -/
def Image.ringHome (i : Image) (r : Nat) : Nat :=
  ((i.ctxs.find? fun c => c.typ == 6 && c.index == r).map CtxRec.home).getD 0

/-- A pod can run the check of a unit: a Blade's own pod, the home of a segment's RING context, any pod for the rest. -/
def podCan (i : Image) (pod : Nat) (u : Word) : Bool :=
  if unitType u = 2 then fld u.toNat 3 3 == pod
  else if unitType u = 3 then i.ringHome (fld u.toNat 4 2) == pod
  else true

/-- No check of a unit's kind is under way that a second one would disturb: one quarantine, one test row for each bank, one
segment check. -/
def HlthLN.free (h : HlthLN) (u : Word) : Bool :=
  !h.cur.any fun c => unitType c.2 == unitType u &&
    (unitType u != 1 || fld c.2.toNat 24 4 == fld u.toNat 24 4)

/-- The check begins: a quarantine (R462), a test row taken (R461), the LOOP frames of a segment (R463), a lane check. -/
def State.checkBegin (s : State) (l : LaneId) (u : Word) : State :=
  match unitType u with
  | 1 => s.modHlth l fun h => { h with tbusy := h.tbusy ||| BitVec.ofNat 16 (2 ^ fld u.toNat 24 4) }
  | 2 => s.modLN l fun x => { x with sched := { x.sched with quar := some (u.toNat % 64) } }
  | 3 => s.modHlth l fun h => { h with loops := 0, loopOut := false, loopAt := none, loopHop := none }
  | 5 => s.modHlth l fun h => { h with lchk := true }
  | _ => s

/-- The PATROL task of a pod is running (R102, R460). -/
def Lane.patrols (x : Lane) (pod : Nat) : Bool :=
  x.ln.sched.tasks.any fun t => t.home == pod && ((x.img.ctx t.ctx).any fun r => r.typ == 11) &&
    (match t.pos with
      | .running _ _ => true
      | _ => false)

/-- PATROL (R460): the running PATROL task of the pod takes the first check of the queue that it can run. A row of a bank
without a free replacement cannot be checked: its error counts as a transient (R461). -/
def State.patrol (s : State) (l : LaneId) (pod : Nat) : State :=
  let x := s.lane l
  let h := x.ln.hlth
  if !x.ln.on || !x.patrols pod || h.cur.any (fun c => c.1 == pod) then s
  else match h.queue.find? fun u => podCan x.img pod u && h.free u with
    | none => s
    | some u =>
      let s := s.modHlth l fun h => { h with queue := h.queue.erase u }
      if unitType u = 1 && (vget x.keep.banks {} (fld u.toNat 24 4)).notest then
        let s := s.modHlth l fun h => { h with ordered := h.ordered.filter fun v => v != u }
        if h.ordered.contains u then s else s.transient l u
      else (s.modHlth l fun h => { h with cur := h.cur ++ [(pod, u)] }).checkBegin l u

/-- PATROL. -/
def execPatrol (l : LaneId) (pod : Fin 8) (s : State) : Host.Outcome State Fault Refusal := .next (s.patrol l pod)

/-! ### Outcomes (R464, R466) -/

/-- The check of a type under way in lane l. -/
def HlthLN.under (h : HlthLN) (typ : Nat) : Option Word := (h.cur.find? fun c => unitType c.2 == typ).map Prod.snd

/-- A check ends: it leaves the list, and is counted. -/
def State.checkEnd (s : State) (l : LaneId) (u : Word) (good : Bool) : State :=
  s.modHlth l fun h => { h with
    cur := h.cur.filter fun c => c.2 != u
    ordered := h.ordered.filter fun v => v != u
    passes := if good then satInc 0xFFFF h.passes else h.passes
    fails := if good then h.fails else satInc 0xFFFF h.fails }

/-- The outcome of a check: a fail makes a unit lasting; a pass makes the error a transient, where there was one. -/
def State.outcome (s : State) (l : LaneId) (u tested : Word) (good : Bool) : State :=
  let host := (s.lane l).ln.hlth.ordered.contains u
  let s := s.checkEnd l u good
  if !good then s.lasting l tested true else if host then s else s.transient l u

/-- SRAM_ROW_CHECK (R461, R472): an uncorrectable error while the row is copied makes it lasting at once. -/
def execSramRowCheck (l : LaneId) (good uncorrectable : Bool) (s : State) : Host.Outcome State Fault Refusal :=
  .next (match (s.lane l).ln.hlth.under 1 with
    | none => s
    | some u =>
      let b := fld u.toNat 24 4
      let s := s.modHlth l fun h => { h with tbusy := h.tbusy &&& ~~~(BitVec.ofNat 16 (2 ^ b)) }
      s.outcome l u u (good && !uncorrectable))

/-- The results of the self-checks of a Blade are good: their CRC-32C is the ROM constant (R462). -/
def selfCheckOk (results : List Byte) : Bool := crc32c results == Config.selfCheckCrc

/-- Blade k still runs the task that it had when its quarantine began (R462). -/
def Lane.busyOther (x : Lane) (k : Nat) : Bool :=
  x.ln.sched.tasks.any fun t => t.pos == .running (k / 8) (k % 8) && !((x.img.ctx t.ctx).any fun r => r.typ == 11)

/-- BLADE_CHECK (R462): the twelve slices have run on the Blade in quarantine, after the task that it was running. -/
def execBladeCheck (l : LaneId) (results : List Byte) (s : State) : Host.Outcome State Fault Refusal :=
  .next (match (s.lane l).ln.hlth.under 2 with
    | none => s
    | some u =>
      if (s.lane l).busyOther (u.toNat % 64) then s
      else
        let s := s.modLN l fun x => { x with sched := { x.sched with quar := none } }
        s.outcome l u u (selfCheckOk results))

/-- RELAY_POINT_CHECK (R457, R466). -/
def execRelayPointCheck (l : LaneId) (good : Bool) (s : State) : Host.Outcome State Fault Refusal :=
  .next (match (s.lane l).ln.hlth.under 4 with
    | none => s
    | some u => s.outcome l u u good)

/-! ### The ring segment check (R463) -/

/-- A LOOP frame may go out on ring r: no axis of it is homing or in OSTATE 1 to 5. -/
def Lane.loopAllowed (x : Lane) (r : Nat) : Bool :=
  (x.ring r).st.tracked && x.img.axisRecs.all fun a => a.ring != r ||
    (let c := (x.axis a.axis).cur
     !(c.hom.st == .backOff || c.hom.st == .approach || c.hom.st == .settle) &&
       (c.obs.ostate == .watching || c.obs.ostate == .held || c.obs.ostate == .notEval))

/-- The hop that a returned LOOP frame names, or none when it is clean. -/
def loopHopOf (r nb : Nat) (f : List Byte) : Option Nat :=
  match (List.range nb).find? fun k => byteAt f (tallyAt k) != 1 with
  | some k => some k
  | none => if loopOk r f && (hdrOf r f).isSome then none else some 6

/-- RING_SEGMENT_CHECK: a LOOP frame that came back is judged; else the next one, 100 ticks after the last, takes the place of
the frame for the next gate. -/
def State.segmentCheck (s : State) (l : LaneId) (err : LineErr) : State :=
  let x := s.lane l
  let h := x.ln.hlth
  match h.under 3 with
  | none => s
  | some u =>
    let r := fld u.toNat 4 2
    let nb := (x.ringImg r).nb r
    let line := (s.hw r).line
    if h.loopOut then
      if (s.hw r).typ != some .loopT then s
      else
        let hop := h.loopHop <|> loopHopOf r nb (applyErr line err)
        let s := s.modHlth l fun h => { h with loops := h.loops + 1, loopOut := false, loopHop := hop }
        if h.loops + 1 < 4 then s
        else match hop with
          | some k => s.outcome l u (segUnit r k) false
          | none => s.outcome l u u true
    else
      let due := match h.loopAt with
        | some t => 100 ≤ ticksSince s.tick t
        | none => true
      if due && x.loopAllowed r && s.owns l then
        let f := loopFrame r (s.nextHdr l .loopT nb false)
        let s := s.modRing l r fun g => { g with built := some f }
        s.modHlth l fun h => { h with loopOut := true, loopAt := some s.tick }
      else s

/-- RING_SEGMENT_CHECK (R463). -/
def execRingSegmentCheck (l : LaneId) (err : LineErr) (s : State) : Host.Outcome State Fault Refusal :=
  .next (s.segmentCheck l err)

/-! ### The lane check and degradation (R467, R468) -/

/-- A cause of R467 is gone; without any, the lane is degraded no more, and a degraded lane has to join again. -/
def State.causeGone (s : State) (l : LaneId) (why : Nat) : State :=
  let s := s.modHlth l fun h =>
    let cs := h.causes.filter fun c => c != why
    { h with causes := cs, degr := !cs.isEmpty, why := cs.headD 0 }
  let x := (s.lane l).ln
  if !x.hlth.degr && x.role == .degraded then s.setRole l .unsync else s

/-- LANE_CHECK (R468): Blades that failed are fenced; the check fails with the golden merge or a relay loopback, or when the
Blades that are left no longer carry class B. A check that passes ends cause 4, and starts the count of cause 1. -/
def State.laneCheck (s : State) (l : LaneId) (bad : List Nat) (golden relays : Bool) : State :=
  match (s.lane l).ln.hlth.under 5 with
  | none => s
  | some u =>
    let bad := bad.filter fun k => !(s.lane l).fencedBlade (k / 8) (k % 8)
    let s := bad.foldl (fun s k => s.lasting l (bladeUnit (k / 8) (k % 8)) true) s
    let good := golden && relays && (bad.isEmpty || !(s.lane l).bOverload)
    let s := s.modHlth l fun h => { h with
      lchk := false, lcpass := good, lcSince := h.lcSince || good, calm := if good then 0 else h.calm }
    let s := s.modRef fun r => match l with
      | .a => { r with lapass := good, divA := some good }
      | .b => { r with divB := some good }
    let s := if good then s.causeGone l 4 else s
    s.outcome l u u good

/-- The Blades whose self-check results are not the ROM constant's. -/
def badBlades (blades : List (Fin 64 × List Byte)) : List Nat :=
  (blades.filter fun b => !selfCheckOk b.2).map fun b => b.1.val

/-- LANE_CHECK (R468): the results of the Blade checks, the bytes that the merge of the golden set gave, whether every relay
loopback passed, and whether every link pair is trained, which is part of the check and fails nothing. -/
def execLaneCheck (l : LaneId) (blades : List (Fin 64 × List Byte)) (golden : List Byte) (relays link : Bool) (s : State) :
    Host.Outcome State Fault Refusal :=
  let _ := link
  .next (s.laneCheck l (badBlades blades) (crc32c golden == Config.goldenCrc) relays)

/-- DEGRADE_CLEAR (R467): cause 1, after a lane check passed and 80,000 ticks ran with no deadline miss. -/
def execDegradeClear (l : LaneId) (s : State) : Host.Outcome State Fault Refusal :=
  let h := (s.lane l).ln.hlth
  .next (if h.causes.contains 1 && h.lcSince && 80000 ≤ h.calm then s.causeGone l 1 else s)

/-! ### Input checks (R466, R469) -/

/-- Input i fails, or its transients make it lasting: FCODE 7 in the functions that use it, and LASTNEW in both lanes. -/
def State.inputLasting (s : State) (i : Nat) : State :=
  let s := [LaneId.a, LaneId.b].foldl (fun (s : State) l => (s.modMR l fun m => { m with lastnew := true }).attn l 4) s
  let s := s.modModKeep fun k => { k with
    inLast := setBit k.inLast i true, inputs := tableDrop k.inputs (inputUnit i) }
  (List.range 16).foldl (fun s f =>
    if (fnRec s.sc.saf f).uses i then s.fnFault f 7 else s) s

/-- The input passes: a transient in the safety core's table, and no longer lasting when it passes in START. -/
def State.inputPass (s : State) (i : Nat) : State :=
  let life := (s.lane s.ref.owner).keep.life
  if s.keep.inLast.getLsbD i then s.modModKeep fun k => { k with inLast := setBit k.inLast i false }
  else
    let s := s.modModKeep fun k => { k with inputs := (tableAdd k.inputs life (inputUnit i)).1 }
    match tableFind s.keep.inputs (inputUnit i) with
    | some e => if 8 ≤ e.count life then s.inputLasting i else s
    | none => s

/-- A test frame of an input with this source passes: its own pulse, no foreign one, and the same level at both technologies. -/
def testGood (src : Nat) (f : TestFrame) : Bool := !missingIn src f.runs && !foreignIn src f.runs && f.same

/-- INPUT_CHECK: of the next 4 test frames in which the input was high, all pass, or one fails it. -/
def State.inputCheck (s : State) (i : Nat) (frames : List TestFrame) : State :=
  let fs := (frames.filter fun f => f.high).take 4
  if !s.sc.scrun || !s.sc.chk.getLsbD i then s
  else if fs.any fun f => !testGood (s.sc.source .safetyCore i) f then
    (s.modSc fun c => { c with chk := setBit c.chk i false }).inputLasting i
  else if fs.length = 4 then (s.modSc fun c => { c with chk := setBit c.chk i false }).inputPass i
  else s

/-- INPUT_CHECK (R469). -/
def execInputCheck (i : Fin 32) (frames : List TestFrame) (s : State) : Host.Outcome State Fault Refusal :=
  .next (s.inputCheck i frames)

/-! ### The host's checks, and time (R464, R471) -/

/-- A unit that HLTH_REQ may name: types 1 to 5, every index in range, every other bit 0, and the lane's own number. -/
def unitOk (l : LaneId) (u : Word) : Bool :=
  let n := u.toNat
  match unitType u with
  | 1 => fld n 10 14 == 0 && n % 1024 ≤ 522
  | 2 => fld n 6 22 == 0
  | 3 => fld n 6 22 == 0 && !bitOf n 3 && n % 8 ≤ 6
  | 4 => fld n 8 20 == 0 && n % 256 ≤ 63
  | 5 => fld n 1 27 == 0 && n % 2 == laneNum l
  | _ => false

/-- HEALTH_CHECK_REQUEST: the check joins the queue, or FMT is set (R471). -/
def State.healthRequest (s : State) (l : LaneId) (u : Word) : State :=
  let h := (s.lane l).ln.hlth
  if !unitOk l u then s.modLN l fun x => { x with host := { x.host with fmt := true } }
  else if h.queue.contains u || h.cur.any (fun c => c.2 == u) then s
  else if unitType u = 1 && (vget (s.lane l).keep.banks {} (fld u.toNat 24 4)).notest then s
  else if 64 ≤ h.queue.length then s.modHlth l fun h => { h with qdrop := satInc 0xFFFF h.qdrop }
  else s.modHlth l fun h => { h with queue := insertCheck u h.queue, ordered := u :: h.ordered }

/-- HEALTH_CHECK_REQUEST. -/
def execHealthCheckRequest (l : LaneId) (unit : Word) (s : State) : Host.Outcome State Fault Refusal :=
  .next (s.healthRequest l unit)

/-- LIFE_SECOND: a second of powered operation (R464). -/
def execLifeSecond (l : LaneId) (s : State) : Host.Outcome State Fault Refusal :=
  .next (s.modKeep l fun k => { k with life := (k.life + 1) % 2 ^ 32 })

/-! ### The HLTH block (R470, R471) -/

/-- A register of HLTH, by offset. -/
def Lane.readHlth (x : Lane) (o : Nat) : Nat :=
  let h := x.ln.hlth
  let k := x.keep
  let e := (k.table[x.mr.tsel]?).getD {}
  if 0x400 ≤ o then
    match k.retired[(o - 0x400) / 8]? with
    | some r => if o % 8 = 0 then r.1.toNat else r.2
    | none => 0
  else if 0x40 ≤ o ∧ o < 0x80 then
    let b := (o - 0x40) / 4
    let y := vget k.banks {} b
    pack [(4, y.spused), (1, b2n (h.tbusy.getLsbD b)), (1, b2n y.notest)]
  else match o with
  | 0x00 => pack [(1, b2n h.degr), (3, h.why), (1, b2n x.mr.lastnew), (1, b2n h.seglast), (1, b2n x.ln.sched.quar.isSome),
      (1, b2n h.lchk), (1, b2n h.lcpass)]
  | 0x04 => k.life
  | 0x08 => pack [(16, h.passes), (16, h.fails)]
  | 0x0C => pack [(7, h.queue.length), (9, 0), (16, h.qdrop)]
  | 0x14 => h.lasterr.toNat
  | 0x18 => x.mr.tsel
  | 0x1C => e.unit.toNat
  | 0x20 => pack [(4, e.count k.life)]
  | 0x24 => e.newest
  | 0x28 => pack [(8, k.retired.length), (8, k.tevict)]
  | _ => 0

/-- A write of HLTH, by offset. -/
def State.writeHlth (s : State) (l : LaneId) (o : Nat) (w : Word) : State :=
  let n := w.toNat
  match o with
  | 0x10 => s.healthRequest l w
  | 0x18 => s.modMR l fun m => { m with tsel := n % 256 }
  | _ => s

/-- The W1C flags of HLTH_STAT. -/
def State.clearHlth (s : State) (l : LaneId) (o n : Nat) : State :=
  if o = 0 then
    let s := s.modMR l fun m => { m with lastnew := m.lastnew && !bitOf n 4 }
    s.modHlth l fun h => { h with seglast := h.seglast && !bitOf n 5 }
  else s

end Sys2Proof.Machine
end

