-- ==== Sys2Proof/Machine/Ledger.lean ====
section
/-! DEFINITION. The cycle ledger (chapter 15): records and traces in lane MRAM, the scan, the mirror, and acknowledgement. -/

namespace Sys2Proof.Machine

/-! ### The record area (R439, R444) -/

/-- Slots and bytes of a record by FORMAT (R439). -/
def nslot (fmt : Nat) : Nat := if fmt = 0 then 49152 else 262144
def recSize (fmt : Nat) : Nat := if fmt = 0 then 256 else 48

/-- The FMT byte of a FORMAT (R441, R444). -/
def fmtByte (fmt : Nat) : Nat := if fmt = 0 then 0x4E else 0x4B

/-- Where the record of a SEQ lies (R439). -/
def recAddr (fmt : Nat) (seq : Nat) : Nat := mramBase + (seq - 1) % nslot fmt * recSize fmt

/-- Where trace t lies (R439). -/
def traceAddr (t : Nat) : Nat := traceBase + t * 0x10000

/-- Axis block k of a native record, where its axis is defined. -/
def blockOf (n : List Byte) (k : Nat) : Option (List Byte) :=
  let b := slice n (56 + 64 * k) 64
  if byteAt b 0 = 0xFF then none else some b

/-- The highest of some numbers; 0 where there are none. -/
def highest : List Int → Int
  | [] => 0
  | x :: xs => xs.foldl max x

/-- The K-format record of a native one, before its CRC (R444). -/
def kRecord (n : List Byte) : List Byte :=
  let bs := (List.range 3).filterMap (blockOf n)
  let fpk := fun (k : Nat) => le16 ((blockOf n k).getD []) 18
  let lost := le32 n 8
  toLE 1 0x4B ++ slice n 1 7 ++ slice n 24 8 ++ slice n 40 8 ++ slice n 48 1 ++
    toLE 1 (min 0xFF (bs.map fun b => byteAt b 1).sum) ++ toLE 2 (fpk 0) ++ toLE 2 (fpk 1) ++
    toLE 2 (enc 16 (highest (bs.map fun b => sgn 16 (le16 b 20)))) ++
    toLE 2 (highest (bs.map fun b => (le16 b 24 : Int))).toNat ++ toLE 2 (min 0xFFFF lost) ++ slice n 50 2 ++
    toLE 1 (enc 8 (highest (bs.map fun b => sgn 8 (byteAt b 36)))) ++ toLE 1 (bs.foldl (fun a b => a ||| byteAt b 34) 0) ++
    zeros 4

/-- A record as it is written: FMT, SEQ, LOST, TRACE and DEFER in place in a layout of 256 bytes, in the running FORMAT,
with its CRC (R440, R441). -/
def finishRecord (fmt : Nat) (body : List Byte) (seq lost trace : Nat) (defer : Bool) : List Byte :=
  let n := (toLE 1 0x4E ++ body.drop 1 ++ zeros 256).take 256
  let n := putBytes n 4 (toLE 4 seq ++ toLE 4 lost)
  let n := putBytes n 48 (toLE 1 trace)
  let n := if defer then putBytes n 47 (toLE 1 (byteAt n 47 ||| 8)) else n
  let n := if fmt = 0 then n.take 252 else kRecord n
  n ++ toLE 4 (crc32c n).toNat

/-- A trace as it is written (R446). -/
def traceBytes (doorway seq tseq : Nat) (b : TraceBuf) : List Byte :=
  let h := toLE 2 0x5254 ++ toLE 1 doorway ++ toLE 1 b.nax ++ toLE 4 seq ++ toLE 4 tseq ++
    toLE 4 (match b.samples with
      | s :: _ => s.1
      | [] => 0) ++
    toLE 2 b.samples.length ++ toLE 1 b.tdec ++ toLE 1 (b2n b.wrap) ++ toLE 2 b.trig ++ zeros 38
  let d := b.samples.flatMap (·.2)
  h ++ toLE 4 (crc32c (h ++ d)).toNat ++ d

/-- The layout of an event or an overflow gap record, before SEQ, LOST, DEFER and CRC (R441, R443). -/
def plainBody (x : Lane) (l : LaneId) (kind code detail gapwhy tick : Nat) (tend : BitVec 64) : List Byte :=
  toLE 1 0x4E ++ toLE 1 kind ++ toLE 1 0xFF ++ toLE 1 0 ++ zeros 8 ++
    toLE 4 (pisteOf x.img (laneNum l) 0 0 1).toNat ++ toLE 8 0 ++ toLE 8 tend.toNat ++ toLE 4 0 ++ toLE 4 tick ++
    toLE 4 code ++ toLE 4 detail ++ toLE 1 0xFF ++ toLE 1 gapwhy ++ toLE 2 0 ++ toLE 1 x.ln.net.tsync ++ zeros 3 ++
    noAxisBlock ++ noAxisBlock ++ noAxisBlock ++ zeros 8

/-! ### Writing (R437, R438, R440, R445, R448, R449) -/

/-- Records written and not yet acknowledged (R449). -/
def LedgLN.pending (g : LedgLN) : Nat := g.nextseq.toNat - g.upseq.toNat

/-- NEARFULL follows the pending records; its rise raises HATTN (R449, R455). -/
def State.ledgNear (s : State) (l : LaneId) : State :=
  let x := s.lane l
  let nf := decide (9 * nslot x.img.ledFormat ≤ 10 * x.ln.ledg.pending)
  let s := if nf && !x.ln.ledg.nearfull then s.attn l 14 else s
  s.modLN l fun z => { z with ledg := { z.ledg with nearfull := nf } }

/-- A full ledger gives way to a write (R449). -/
def State.ledgRoom (s : State) (l : LaneId) : State :=
  let x := s.lane l
  if x.ln.ledg.pending < nslot x.img.ledFormat then s
  else
    let s := s.modLN l fun z => { z with ledg := { z.ledg with upseq := z.ledg.upseq + 1, lost := z.ledg.lost + 1 } }
    (s.modMR l fun m => { m with ovrnew := true }).attn l 14

/-- The bytes go to the lane's memory, and into what its epoch and AUTOSEND carry. -/
def State.ledgStore (s : State) (l : LaneId) (a : Nat) (bs : List Byte) : State :=
  let s := s.modKeep l fun k => { k with mem := Memory.write k.mem a bs }
  s.modLN l fun z => { z with ledg := { z.ledg with recent := z.ledg.recent ++ [(a, bs)] } }

/-- A trace takes slot TNEXT; one whose cycle record is still pending counts in TOVR (R445). -/
def State.writeTrace (s : State) (l : LaneId) (doorway seq : Nat) (b : TraceBuf) : State :=
  let g := (s.lane l).ln.ledg
  let m := (s.lane l).keep.mem
  let a := traceAddr g.tnext
  let old := Memory.read m a 8
  let spill := le16 old 0 == 0x5254 && decide (g.upseq.toNat ≤ le32 old 4) && decide (le32 old 4 < g.nextseq.toNat)
  let s := s.ledgStore l a (traceBytes doorway seq (g.tseq + 1) b)
  s.modLN l fun z => { z with ledg := { z.ledg with
    tnext := (g.tnext + 1) % 64
    tseq := g.tseq + 1
    tovr := if spill then satInc 0xFFFF g.tovr else g.tovr } }

/-- A record is written under the next SEQ (R437, R440, R449), with its trace. -/
def State.writeRecord (s : State) (l : LaneId) (doorway : Nat) (body : List Byte) (trace : Option TraceBuf) (defer : Bool) :
    State :=
  let s := s.ledgRoom l
  let g := (s.lane l).ln.ledg
  let fmt := (s.lane l).img.ledFormat
  let seq := g.nextseq.toNat
  let slot := match trace with
    | some _ => g.tnext
    | none => 0xFF
  let s := match trace with
    | some b => s.writeTrace l doorway seq b
    | none => s
  let s := s.ledgStore l (recAddr fmt seq) (finishRecord fmt body seq g.lost slot defer)
  let s := s.modKeep l fun k => { k with seqhw := g.nextseq, losthw := g.lost }
  let s := s.modLN l fun z => { z with ledg := { z.ledg with
    nextseq := g.nextseq + 1
    autoSeqs := if (s.lane l).img.autoSend then z.ledg.autoSeqs ++ [g.nextseq] else z.ledg.autoSeqs } }
  s.ledgNear l

/-- One entry is written; what a cycle teaches waits for the next start gate (R183, R438). -/
def State.writeEntry (s : State) (l : LaneId) (defer : Bool) (e : LedEntry) : State :=
  match e with
  | .cycle d _ body trace learn =>
    let s := s.writeRecord l d body trace defer
    learn.foldl (fun s (p : Nat × List LearnCell) => s.modAxis l p.1 (·.both fun a =>
      { a with learn := { a.learn with apply := true, due := a.learn.due ++ p.2 } })) s
  | .event code detail t tend => s.writeRecord l 0xFF (plainBody (s.lane l) l 3 code detail 0 t tend) none defer

/-- The tick of an entry. -/
def LedEntry.tick : LedEntry → Nat
  | .cycle _ t _ _ _ => t
  | .event _ _ t _ => t

/-- Place of an entry in the order of R437: cycles by doorway, then events by CODE, tick by tick. -/
def LedEntry.rank : LedEntry → Nat
  | .cycle d _ _ _ _ => d
  | .event c _ _ _ => 0x100 + c

/-- x goes before y in a list of the entries before tick t, oldest first. -/
def LedEntry.before (t : Nat) (x y : LedEntry) : Bool :=
  let ax := ticksSince t x.tick
  let ay := ticksSince t y.tick
  decide (ay < ax) || (ax == ay && decide (x.rank < y.rank))

/-- Insert an entry behind those that are not after it. -/
def insertEntry (t : Nat) (x : LedEntry) : List LedEntry → List LedEntry
  | [] => [x]
  | y :: ys => if x.before t y then x :: y :: ys else y :: insertEntry t x ys

/-- The entries of the ticks before t, in the order they are written. -/
def LedgLN.ready (g : LedgLN) (t : Nat) : List LedEntry :=
  (g.due.filter fun e => e.tick != t).foldl (fun acc e => insertEntry t e acc) []

/-- Entries join the pending queue of 128; those past it are dropped (R448). -/
def LedgLN.enqueue (g : LedgLN) (es : List LedEntry) : LedgLN :=
  let all := g.pend ++ es
  let spill := all.length - 128
  { g with pend := all.take 128, deflost := satAdd 0xFFFF g.deflost spill, dropped := g.dropped + spill }

/-- The overflow gap record, where entries were dropped (R448). -/
def State.writeGap (s : State) (l : LaneId) : State :=
  let n := (s.lane l).ln.ledg.dropped
  if n = 0 then s
  else
    let s := s.modLN l fun z => { z with ledg := { z.ledg with dropped := 0 } }
    s.writeRecord l 0xFF (plainBody (s.lane l) l 2 n 0 2 s.tick (s.trainTime l)) none false

/-- One run of the LEDGER task (R438, R447, R448). A standby writes nothing: what it has gathered waits for the epoch that
brings the records. -/
def State.ledgerRun (s : State) (l : LaneId) : State :=
  let g := (s.lane l).ln.ledg
  let new := g.ready s.tick
  if !s.owns l then s
  else
    let s := s.modLN l fun z => { z with ledg := { z.ledg with due := z.ledg.due.filter fun e => e.tick == s.tick } }
    if g.scan || 3 ≤ (s.lane l).ln.sched.step then
      s.modLN l fun z => { z with ledg := z.ledg.enqueue new }
    else if g.pend.isEmpty then new.foldl (fun s e => s.writeEntry l false e) (s.writeGap l)
    else
      let s := s.modLN l fun z => { z with ledg := z.ledg.enqueue new }
      let q := (s.lane l).ln.ledg.pend
      let s := s.modLN l fun z => { z with ledg := { z.ledg with pend := q.drop 8 } }
      (q.take 8).foldl (fun s e => s.writeEntry l true e) s

/-- LEDGER_REC (R438). -/
def execLedgerRec (l : LaneId) (s : State) : Host.Outcome State Fault Refusal := .next (s.ledgerRun l)

/-! ### The scan (R440) -/

/-- The records of the running FORMAT that are valid, as bytes. -/
def validRecords (fmt : Nat) (m : Memory) : List (List Byte) :=
  let size := recSize fmt
  let starts := m.filterMap fun c =>
    if mramBase ≤ c.1 ∧ c.1 < traceBase ∧ (c.1 - mramBase) % size = 0 ∧ c.2.toNat = fmtByte fmt ∧
      (c.1 - mramBase) / size < nslot fmt then some c.1 else none
  (starts.map fun a => Memory.read m a size).filter fun r => (crc32c (r.take (size - 4))).toNat == le32 r (size - 4)

/-- The traces that are valid, as (TSEQ, slot). -/
def validTraces (m : Memory) : List (Nat × Nat) :=
  ((List.range 64).map fun t => (Memory.read m (traceAddr t) 64, t)).filterMap fun p =>
    let n := le16 p.1 16
    if le16 p.1 0 == 0x5254 && n ≤ 4092 &&
        (crc32c (p.1.take 60 ++ Memory.read m (traceAddr p.2 + 64) (16 * n))).toNat == le32 p.1 60 then
      some (le32 p.1 8, p.2)
    else none

/-- The element with the highest key. -/
def topBy {α : Type} (key : α → Nat) : List α → Option α
  | [] => none
  | x :: xs =>
    match topBy key xs with
    | some y => if key x < key y then some y else some x
    | none => some x

/-- The slot that the next record takes holds a body without its SEQ and CRC. -/
def tornAt (fmt : Nat) (m : Memory) (next : Nat) : Bool :=
  let size := recSize fmt
  let r := Memory.read m (recAddr fmt next) size
  byteAt r 0 == fmtByte fmt && (crc32c (r.take (size - 4))).toNat != le32 r (size - 4)

/-- What a scan finds (R440). -/
def LedgLN.scanned (g : LedgLN) (fmt : Nat) (k : LaneKeep) : LedgLN :=
  let rs := validRecords fmt k.mem
  let seqOf := fun r => le32 r 4
  let newest := topBy seqOf rs
  let next := max k.seqhw.toNat ((newest.map seqOf).getD 0) + 1
  let code := if fmt = 0 then 40 else 16
  let mark := topBy seqOf (rs.filter fun r => byteAt r 1 == 3 && le16 r code == 0x0701)
  let up := ((mark.map fun r => le32 r (code + 4) + 1).getD 1)
  let up := max up (max (next - nslot fmt) k.fmtbase.toNat)
  let lost := max k.losthw ((newest.map fun r => if fmt = 0 then le32 r 8 else le16 r 34).getD 0)
  let tr := topBy (fun (p : Nat × Nat) => p.1) (validTraces k.mem)
  { g with
    scan := false
    nextseq := BitVec.ofNat 32 next
    upseq := BitVec.ofNat 32 (min up next)
    lost := lost
    tnext := (tr.map fun p => (p.2 + 1) % 64).getD 0
    tseq := (tr.map fun p => p.1).getD 0
    torncnt := if tornAt fmt k.mem next then satInc 0xFFFF g.torncnt else g.torncnt }

/-- LEDGER_SCAN: the scan of a lane start ends (R440). -/
def execLedgerScan (l : LaneId) (s : State) : Host.Outcome State Fault Refusal :=
  let x := s.lane l
  if x.ln.ledg.scan then
    .next ((s.modLN l fun z => { z with ledg := z.ledg.scanned x.img.ledFormat x.keep }).ledgNear l)
  else .next s

/-! ### The mirror (R447) -/

/-- MRAM cells of the record area and the trace pool. -/
def ledgerCells (m : Memory) : Memory := m.filter fun c => mramBase ≤ c.1 && c.1 < romBase

/-- The memory with its record area and trace pool as another lane's. -/
def mirrorMem (mine other : Memory) : Memory :=
  mine.filter (fun c => c.1 < mramBase) ++ ledgerCells other ++ mine.filter (fun c => romBase ≤ c.1)

/-- MIRROR_COPY: the standby's copy of the slots it lacks completes (R447). -/
def execMirrorCopy (l : LaneId) (s : State) : Host.Outcome State Fault Refusal :=
  let o := s.lane l.other
  if (s.lane l).ln.ledg.mirgap && s.owns l.other then
    let s := s.modKeep l fun k => { k with mem := mirrorMem k.mem o.keep.mem }
    .next ((s.modLN l fun z => { z with ledg := { z.ledg with
      mirgap := false
      nextseq := o.ln.ledg.nextseq
      upseq := o.ln.ledg.upseq
      lost := o.ln.ledg.lost
      tnext := o.ln.ledg.tnext
      tseq := o.ln.ledg.tseq } }).ledgNear l)
  else .next s

/-! ### Acknowledgement and sending (R450, R451) -/

/-- An acknowledgement is in range (R450). -/
def LedgLN.ackOk (g : LedgLN) (upto : Nat) : Bool := decide (g.upseq.toNat ≤ upto + 1) && decide (upto < g.nextseq.toNat)

/-- An acknowledgement judged (R450): one that advances UPSEQ writes an upload mark. -/
def State.ledgerAck (s : State) (l : LaneId) (upto : Nat) : State :=
  let g := (s.lane l).ln.ledg
  if g.ackOk upto then
    let s := s.modLN l fun z => { z with ledg := { z.ledg with upseq := BitVec.ofNat 32 (upto + 1) } }
    let s := if upto + 1 = g.upseq.toNat then s else s.event l 0x0701 upto
    s.ledgNear l
  else s.modLN l fun z => { z with ledg := { z.ledg with lenerr := true } }

/-- LEDGER_UPACK (R450). -/
def execLedgerUpack (l : LaneId) (upto : Word) (s : State) : Host.Outcome State Fault Refusal :=
  .next (s.ledgerAck l upto.toNat)

/-- LEDGER_ACK (R450, R451). -/
def execLedgerAck (l : LaneId) (upto : Word) (s : State) : Host.Outcome State Fault Refusal := .next (s.ledgerAck l upto.toNat)

/-- The return code of LEDGER_SEND (R451). -/
def Lane.sendRc (x : Lane) (count : Nat) : Nat :=
  if x.ln.ledg.sending ≠ 0 then 0x00F3
  else if x.img.colIp = 0 then 0x0002
  else if count ≠ 0xFFFF ∧ x.ln.ledg.pending < count then 0x0001
  else 0

/-- LEDGER_SEND acts (R451): COUNT FFFFh is all that is pending. A COUNT out of range is rejected whole. -/
def State.ledgerSend (s : State) (l : LaneId) (count : Nat) : State :=
  let x := s.lane l
  let rc := x.sendRc count
  if rc = 0 then
    s.modLN l fun z => { z with ledg := { z.ledg with
      sending := if count = 0xFFFF then x.ln.ledg.pending else count
      sendSeq := x.ln.ledg.upseq } }
  else if rc = 1 then s.modLN l fun z => { z with ledg := { z.ledg with lenerr := true } }
  else s

/-- LEDGER_SEND (R451). -/
def execLedgerSend (l : LaneId) (count : Nat) (s : State) : Host.Outcome State Fault Refusal := .next (s.ledgerSend l count)

end Sys2Proof.Machine
end

