-- ==== Sys2Proof/Machine/Mailbox.lean ====
section
/-! DEFINITION. Mailboxes of the host and the steward (chapter 13): posts, acknowledgements, and the steward's commands. -/

namespace Sys2Proof.Machine

/-- MBX_MSTAT of mailbox m changed. -/
def State.modMstat (s : State) (l : LaneId) (m : Nat) (f : MStat → MStat) : State :=
  s.modLN l fun x => { x with mstat := vmod x.mstat m f }

/-- A post of the host on MB0 or MB2, judged (R395, R396). -/
def State.mailboxPost (s : State) (l : LaneId) (m len : Nat) : State :=
  let x := s.lane l
  if m ≠ 0 ∧ m ≠ 2 then s
  else if !bitOf (x.img.kinds m) 4 then s.modMstat l m fun q => { q with permerr := true }
  else if 16 < len then s.modMstat l m fun q => { q with lenerr := true }
  else
    s.deliver l m (pisteOf x.img (laneNum l) 0 0 4) x.keep.hstart ((vget x.keep.boxes {} m).staging.toList.take len)

/-- The lane's steward is the sender of mailbox m (R393). -/
def stewardSends (l : LaneId) (m : Nat) : Bool :=
  m == 1 || m == 6 || (8 ≤ m && m < 16) || (m == 4 && l == .a) || (m == 5 && l == .b)

/-- The mailbox lies in the other lane (R400). -/
def farBox (l : LaneId) (m : Nat) : Bool := (m == 4 && l == .a) || (m == 5 && l == .b)

/-- The sending lane's view of mailbox m of lane l: its header and acknowledge register are carried back (R400). -/
def State.carryBack (s : State) (l : LaneId) (m : Nat) : State :=
  if farBox l.other m && s.linkUp l then
    let b := vget (s.lane l).keep.boxes {} m
    s.modKeep l.other fun k => { k with boxes := vmod k.boxes m fun v => { b with body := v.body, staging := v.staging } }
  else s

/-- A post of the steward (R393, R395, R397, R400): never on MB1, MB4, MB5 or MB6 while that mailbox is FULL, and MB4 and
MB5 over the sync link. -/
def State.stewardPost (s : State) (l : LaneId) (m : Nat) (words : List Word) : State :=
  let x := s.lane l
  if !stewardSends l m || !x.ln.host.swrun || (m < 8 && (vget x.keep.boxes {} m).full) then s
  else
    let stamp := pisteOf x.img (laneNum l) 0 0 1
    if !farBox l m then s.deliver l m stamp x.keep.swno words
    else if s.linkUp l then (s.deliver l.other m stamp x.keep.swno words).carryBack l.other m
    else s.modMstat l m fun q => { q with noreach := true }

/-- MAILBOX_POST (R396): the host's staging on MB0 or MB2, or what the steward posts on a mailbox of its own. -/
def execMailboxPost (l : LaneId) (m : Fin 16) (len : Fin 32) (own : List Word) (s : State) : Host.Outcome State Fault Refusal :=
  .next (if m.val = 0 ∨ m.val = 2 then s.mailboxPost l m len else s.stewardPost l m (own.take 16))

/-- MAILBOX_ACK (R398, R400). -/
def execMailboxAck (l : LaneId) (m : Fin 16) (rc aseq : BitVec 16) (s : State) : Host.Outcome State Fault Refusal :=
  .next ((s.ack l m rc aseq).carryBack l m)

/-- The steward's accesses to memory while it acts on a command (R352, R372): at a fault the access returns 0 or is not
performed, and the steward reports it in HOST_SWST and goes on. -/
def State.stewardAccesses (s : State) (l : LaneId) (accs : List MemAccess) : State :=
  accs.foldl (fun s a => match s.access l .steward a with
    | (s, none) => s
    | (s, some e) =>
      let s := (s.modLN l fun x => { x with
        host := { x.host with swflt := true, swfcnt := satInc 0xFFFF x.host.swfcnt } }).attn l 1
      let s := s.faultRec l {
        code := e, origin := 5, wr := a.write, dom := a.dom, va := a.va, req := pisteOf (s.img l) (laneNum l) 0 0 1 }
      if e = 1 ∨ e = 2 then s.queueCheck l ((s.lane l).entryUnit a.dom a.va) else s) s

/-- The return code of a steward command, and what it does (R401, R403, R451). A message from the tunnel carries start
number 00h and is judged as any other (R395). -/
def State.stewardAct (s : State) (l : LaneId) (b : Mbox) : Nat × State :=
  let w0 := (vget b.body 0 0).toNat
  let w1 := (vget b.body 0 1).toNat
  let code := w0 % 65536
  if b.startno ≠ (s.lane l).keep.hstart then (0x00F0, s)
  else if code = 0x0051 then
    if b.len ≠ 2 then (0x00F2, s)
    else
      let count := w1 % 65536
      ((s.lane l).sendRc count, s.ledgerSend l count)
  else if code = 0x0052 then
    if b.len ≠ 2 then (0x00F2, s)
    else (if (s.lane l).ln.ledg.ackOk w1 then 0 else 0x0001, s.ledgerAck l w1)
  else if b.len = 0 then (0x00F2, s)
  else (0x00F1, s)

/-- STEWARD_COMMAND: the steward takes the message in MB0, acts on it and acknowledges it (R401, R403). -/
def execStewardCommand (l : LaneId) (accs : List MemAccess) (s : State) : Host.Outcome State Fault Refusal :=
  let b := vget (s.lane l).keep.boxes {} 0
  if b.full then
    let (rc, s) := (s.stewardAccesses l accs).stewardAct l b
    .next (s.ack l 0 (BitVec.ofNat 16 rc) b.seq)
  else .next s

end Sys2Proof.Machine
end

