-- ==== Sys2Proof/Machine/RegsRead1.lean ====
section
/-! DEFINITION. What a host reads of the MOD, HOST, MBX, SCHD, DWAY, MMU, DMA and LEDG blocks (chapters 1, 3, 7, 12, 13, 15).
Offsets are within the block; a reserved address reads as 0 (R14). -/

namespace Sys2Proof.Machine

/-- One bit of a register. -/
def bit1 (b : Bool) : Nat × Nat := (1, b2n b)

/-! ### MOD (R42 to R53) -/

/-- HYPKEEP and SHED of a shed step (R122). -/
def shedOf (step : Nat) : Nat := if step = 0 then 0 else if step ≤ 2 then 1 else if step = 3 then 2 else 3

/-- MOD_STATUS (R44). -/
def State.modStatus (s : State) (l : LaneId) : Nat :=
  let x := s.lane l
  pack [bit1 s.lines.tblock, bit1 x.running, bit1 s.sealed, bit1 (s.owns l), (3, x.ln.role.code), (1, 0),
    (2, shedOf x.ln.sched.step), bit1 x.mr.ynew, bit1 x.ln.mod.dlmiss, bit1 x.ln.mod.gateloss]

/-- A word of a yield log entry (R53). -/
def YEntry.word (e : YEntry) : Nat → Nat
  | 0 => e.tick.toNat
  | 1 => pack [(4, e.broken), (4, e.served), (8, e.ctx), (5, e.axis.getD 0), bit1 e.axis.isNone, bit1 e.shadow, (1, 0),
      (8, e.cause)]
  | 2 => e.seq.toNat
  | _ => e.detail.toNat

/-- The MOD block (R42). -/
def State.readMod (s : State) (l : LaneId) (o : Nat) : Nat :=
  let x := s.lane l
  if o = 0x00 then pack [(16, partNumber s.part), (8, Config.mfgStep)]
  else if o = 0x04 then (if s.part = .sk2440 then 0x00FF0000 else 0)
  else if o = 0x08 then (if s.part = .sk2440 then 0xFF000000 else 0)
  else if o = 0x0C then s.modStatus l
  else if o = 0x10 then pack [(2, x.mr.target), (2, 0), (1, laneNum l), (3, 0), bit1 x.mr.noreach]
  else if o = 0x14 then s.lines.now.toNat % 2 ^ 32
  else if o = 0x18 then x.tbhi.toNat
  else if o = 0x1C then s.tick
  else if o = 0x20 then pack [(16, x.ln.mod.misscnt), (5, x.ln.mod.lastax)]
  else if o = 0x40 then pack [(7, x.mr.ylog.next), (1, 0), (8, x.mr.ylog.count), (15, x.mr.ylog.ovr)]
  else if 0x800 ≤ o then (vget x.keep.ylog {} ((o - 0x800) / 16)).word (o / 4 % 4)
  else 0

/-! ### HOST (R407, R408) -/

/-- HOST_PSTAT (R408). -/
def HostLN.pstat (h : HostLN) : Nat :=
  pack [bit1 h.ign, bit1 h.wcrcBad, bit1 h.wlen, bit1 h.rcrc, bit1 h.fmt, bit1 h.lockwr, bit1 h.abort, bit1 h.reqerr,
    bit1 h.remrd, bit1 h.mode3, (6, 0), (8, h.igncnt), (8, h.rejcnt)]

/-- HOST_RHDR (R408). -/
def slotHdr (q : ResSlot) (pend : Bool) : Nat :=
  pack [(16, q.seq.toNat), (5, q.len), bit1 q.valid, bit1 q.consumed, (2, q.rstat), bit1 pend]

/-- The HOST block (R407). -/
def State.readHost (s : State) (l : LaneId) (o : Nat) : Nat :=
  let x := s.lane l
  let h := x.ln.host
  if o = 0x00 then x.keep.hstart.toNat
  else if o = 0x04 then h.pstat
  else if o = 0x08 then pack [(16, h.wcrc.toNat), (8, h.wcount), (1, laneNum l)]
  else if o = 0x0C then h.attn.toNat
  else if o = 0x10 then x.mr.attnmsk.toNat
  else if o = 0x14 then pack [bit1 h.swrun, bit1 h.swflt, (14, 0), (16, h.swfcnt)]
  else if 0x100 ≤ o ∧ o < 0x300 then
    let j := (o - 0x100) / 0x80
    let r := o % 0x80
    let q := vget x.ln.rreq {} j
    let z := vget x.keep.slots {} j
    if r = 0 then pack [(24, q.raddr), (5, q.rlen), bit1 q.rtgt]
    else if r = 0x3C then slotHdr z q.pend
    else if 0x40 ≤ r then (vget z.data 0 ((r - 0x40) / 4)).toNat
    else 0
  else 0

/-! ### MBX (R409, R410) -/

/-- The MBX block (R409). -/
def State.readMbx (s : State) (l : LaneId) (o : Nat) : Nat :=
  let x := s.lane l
  if o < 0x800 then
    let m := o / 0x80
    let r := o % 0x80
    let b := vget x.keep.boxes {} m
    let q := vget x.ln.mstat {} m
    if r = 0 then b.stamp.toNat
    else if r = 0x04 then pack [(16, b.seq.toNat), (5, b.len), bit1 b.full, bit1 b.coll, (1, 0), (8, b.startno.toNat)]
    else if r = 0x08 then pack [(16, b.rc.toNat), (16, b.aseq.toNat)]
    else if r = 0x10 then
      pack [bit1 q.msgnew, bit1 q.acknew, bit1 q.coll, bit1 q.lenerr, bit1 q.permerr, bit1 q.ackerr, bit1 q.noreach, (1, 0),
        (8, q.collcnt)]
    else if 0x40 ≤ r then
      (if m = 0 ∨ m = 2 then (vget b.staging 0 ((r - 0x40) / 4)).toNat
       else if m = 1 ∨ m = 3 then (vget b.body 0 ((r - 0x40) / 4)).toNat
       else 0)
    else 0
  else if o = 0x800 then
    pack [(8, x.keep.swno.toNat), (8, (s.lane l.other).keep.swno.toNat), (8, s.keep.scno.toNat)]
  else 0

/-! ### SCHD (R125, R126) -/

/-- The mean of a list of percentages, truncated, over the ticks so far (UTIL: DESIGN CHOICE, log entry 64). -/
def meanNat (xs : List Nat) : Nat := if xs.isEmpty then 0 else xs.sum / xs.length

/-- The SCHD block (R125). -/
def State.readSchd (s : State) (l : LaneId) (o : Nat) : Nat :=
  let x := s.lane l
  let q := x.ln.sched
  let c := x.mr.ctxsel
  if o = 0x00 then pack [(8, x.st.slackmin), (3, x.mr.shfloor)]
  else if o = 0x04 then pack [(3, q.step), (3, hypkeep q.step), (10, 0), (16, q.raises)]
  else if o = 0x08 then pack [(16, q.slackLast), (16, q.slackMin)]
  else if o = 0x0C then pack [(8, min 0xFF (meanNat q.utils)), (8, q.pred), (16, q.capUnits)]
  else if o = 0x10 then pack [(10, q.lastcyc), (10, q.maxcyc)]
  else if o = 0x14 then pack [(10, q.lastSteals), (10, q.lastPreempts)]
  else if o = 0x18 then pack [(16, q.migflt), (16, q.sqflt)]
  else if o = 0x1C then c
  else if o = 0x20 then
    match x.img.ctx c with
    | some r => pack [(4, r.typ), (3, (clsOf r.typ).code), (1, 0), (3, r.home), (5, 0), (16, r.kernel)]
    | none => 0
  else if o = 0x24 then
    let r := vget x.st.ctxrun {} c
    pack [(3, r.pod), (3, r.blade), bit1 r.stolen, bit1 r.preempted, (8, 0), (16, r.late)]
  else if 0x40 ≤ o ∧ o < 0x60 then
    let p := (o - 0x40) / 4
    pack [(8, maskOf ((List.range 8).map (x.fencedBlade p))), bit1 (q.gated.getLsbD p), (7, 0), (6, vget q.qdepth 0 p),
      (10, vget q.freq 0 p)]
  else 0

/-! ### DWAY (R231, R232) -/

/-- DSTATE (R211). -/
def DState.code : DState → Nat
  | .none => 0
  | .locked => 1
  | .unlock => 2
  | .stepOut => 3
  | .opening => 4
  | .openSt => 5
  | .warning => 6
  | .closing => 7
  | .locking => 8
  | .stepIn => 9
  | .obstr => 10
  | .reopen => 11
  | .stopped => 12
  | .fault => 13
  | .service => 14

/-- The defined doorways of a lane. -/
def Lane.doors (x : Lane) : List Nat := idxs 12 fun d => (x.dcfg d).defd

/-- CLMASK (R232). -/
def Lane.clmask (x : Lane) : Nat := maskOf ((List.range 12).map fun d => (x.dcfg d).defd && (x.dway d).cur.st == .locked)

/-- ALLCL and LOOPS: every defined doorway is LOCKED, or has its loop reported closed (R222). -/
def Lane.allcl (x : Lane) : Bool := !x.doors.isEmpty && x.doors.all fun d => (x.dway d).cur.st == .locked
def Lane.loopsAll (x : Lane) : Bool := !x.doors.isEmpty && x.doors.all fun d => x.ln.rpt.rep.loops.getLsbD d

/-- A register of doorway d (R232). -/
def Lane.readDoor (x : Lane) (d r : Nat) : Nat :=
  let c := x.dcfg d
  let y := x.dway d
  let z := y.cur
  let f := z.flags
  if c.defd = false then 0
  else if r = 0x04 then
    pack [(4, z.st.code), bit1 z.waitg, bit1 z.releff, bit1 z.nopos, bit1 z.stepskip, (8, y.seq.toNat), (8, y.rc),
      bit1 f.clmiss, bit1 f.lockf, bit1 f.obstr, bit1 f.stepf, bit1 f.egrstop]
  else if r = 0x08 then pack [(8, c.warn), (8, c.rwarn), (12, c.dwell)]
  else if r = 0x0C then pack [(12, c.cltgt), (20, f.lastcl)]
  else if r = 0x10 then pack [(3, c.reopmax), bit1 c.reopmode, (2, c.lockrty), (2, 0), (8, c.lockto), (16, c.reopd)]
  else if r = 0x14 then pack [(12, c.istart), (20, f.wait)]
  else if r = 0x18 then pack [(8, f.reopn), (8, f.lockn), (16, f.misses)]
  else if r = 0x1C then
    pack [bit1 c.defd, bit1 c.right, bit1 c.paired, bit1 c.autoopen, bit1 c.btnsrc, (2, c.chime), (1, 0),
      (5, c.leaf0.getD 0x1F), (5, c.leaf1.getD 0x1F), (5, c.stepax.getD 0x1F)]
  else 0

/-- The DWAY block (R231). -/
def Lane.readDway (x : Lane) (o : Nat) : Nat :=
  let q := x.ln.slalom
  let c := x.st.car
  let rep := x.ln.rpt.rep
  if o = 0x00 then
    pack [(12, x.clmask), bit1 x.allcl, bit1 rep.zspd, bit1 rep.rell, bit1 rep.relr, bit1 x.loopsAll, bit1 x.ln.car.disag,
      bit1 q.buderr, bit1 q.caphold]
  else if o = 0x04 then pack [(12, c.cap), (12, c.spacing), (8, c.disto)]
  else if o = 0x08 then pack [(16, q.isum), (16, q.alloc)]
  else if o = 0x0C then pack [(4, q.waiting), (4, q.lastgr), (8, 0), (16, q.grants)]
  else if o = 0x10 then pack [(8, c.supg), (8, c.iqui)]
  else if 0x100 ≤ o ∧ o < 0x280 then x.readDoor ((o - 0x100) / 0x20) (o % 0x20)
  else 0

/-! ### MMU and DMA (R374, R375) -/

/-- A word of a fault record (R370). -/
def FRec.word (r : FRec) : Nat → Nat
  | 0 => pack [(4, r.code), (4, r.origin), bit1 r.wr, bit1 r.spec, bit1 r.resumable, bit1 r.pres, (4, 0), (8, r.ctx),
      (5, r.dom)]
  | 1 => r.va % 2 ^ 24
  | 2 => r.offset
  | 3 => r.req.toNat
  | 4 => r.tick.toNat
  | 5 => r.seq.toNat
  | 6 => r.aux1.toNat
  | _ => r.aux2.toNat

/-- The MMU block (R374). -/
def Lane.readMmu (x : Lane) (o : Nat) : Nat :=
  let i := x.img
  let d := x.ln.dma
  let dr := i.dom x.mr.domsel
  if o = 0x00 then pack [(6, (idxs 32 fun k => (i.dom k).npages != 0).length), (2, 0), (14, i.nent)]
  else if o = 0x04 then pack [(6, x.mr.fhead.next), (2, 0), (7, x.mr.fhead.count), (1, 0), (15, x.mr.fhead.ovr)]
  else if o = 0x08 then pack [bit1 x.mr.mfnew, bit1 d.apflt, bit1 d.eccue, (5, 0), (8, d.eccce), (16, d.suppr)]
  else if o = 0x0C then x.mr.domsel
  else if o = 0x10 then pack [(13, dr.npages), bit1 dr.host, bit1 dr.hostwr, (1, 0), (8, dr.pods)]
  else if o = 0x14 then dr.reach
  else if 0x20 ≤ o ∧ o < 0x30 then
    let a := vget x.mr.apers {} ((o - 0x20) / 4)
    pack [bit1 a.en, bit1 a.wr, (5, a.dom), (1, 0), (4, a.vbase)]
  else if 0x800 ≤ o then (vget x.keep.flog {} ((o - 0x800) / 0x20)).word (o / 4 % 8)
  else 0

/-- A register of DMA channel c (R375). -/
def Lane.readDmaCh (x : Lane) (c r : Nat) : Nat :=
  let h := x.dmaCh c
  let i := x.img
  if r < 0x14 then (vget h.regs 0 (r / 4)).toNat
  else if r = 0x18 then
    pack [(3, h.st), (1, 0), (4, h.fcode), bit1 h.resumable, bit1 h.done, bit1 h.flt, bit1 h.pres, bit1 h.rej, (3, 0),
      (16, h.precnt)]
  else if r = 0x1C then h.off % 2 ^ 24
  else if r = 0x20 then pack [(24, h.curva), (8, h.tag)]
  else if r = 0x24 then pack [(2, i.chOwner c), (2, i.chPrio c), (5, i.chDom c), (7, 0), (8, i.chCtx c)]
  else 0

/-- The DMA block (R374). -/
def Lane.readDma (x : Lane) (o : Nat) : Nat :=
  let d := x.ln.dma
  if o = 0 then
    pack [(8, maskOf (d.chs.toList.map fun h => h.st == 1 || h.st == 2 || h.st == 3)), bit1 d.lenerr, (7, 0), (16, d.faults)]
  else if 0x100 ≤ o ∧ o < 0x300 then x.readDmaCh ((o - 0x100) / 0x40) (o % 0x40)
  else 0

/-! ### LEDG (R454, R455) -/

/-- The LEDG block (R454). -/
def Lane.readLedg (x : Lane) (o : Nat) : Nat :=
  let g := x.ln.ledg
  if o = 0x00 then pack [(1, x.img.ledFormat), (8, x.st.tdec), (7, 0), (16, x.st.trig)]
  else if o = 0x04 then
    pack [bit1 g.scan, bit1 g.mirgap, bit1 g.nearfull, bit1 x.mr.ovrnew, bit1 g.lenerr, bit1 (g.sending != 0), (10, 0),
      (8, g.pend.length)]
  else if o = 0x08 then g.nextseq.toNat
  else if o = 0x0C then g.upseq.toNat
  else if o = 0x10 then g.lost
  else if o = 0x18 then pack [(6, g.tnext), (10, 0), (16, g.tovr)]
  else if o = 0x1C then pack [(16, g.deflost), (16, g.torncnt)]
  else 0

end Sys2Proof.Machine
end

