-- ==== Sys2Proof/Machine/RegsWrite1.lean ====
section
/-! DEFINITION. What a host write does in the MOD, HOST, MBX, SCHD, DWAY, MMU, DMA and LEDG blocks at the start gate at which
it takes effect (R12, R15, R41). A value outside a field's range leaves the field as it was. -/

namespace Sys2Proof.Machine

/-- A W1C flag under a written word: bit i clears it (R12). -/
def w1c (w i : Nat) (b : Bool) : Bool := b && !bitOf w i

/-- The MOD block (R44, R45, R52). -/
def State.writeMod (s : State) (l : LaneId) (o w : Nat) : State :=
  if o = 0x10 then s.modMR l fun m => { m with target := if w % 4 = 3 then m.target else w % 4 }
  else if o = 0x40 then
    s.modMR l fun m => if bitOf w 31 then { m with ylog := { m.ylog with count := 0, ovr := 0 } } else m
  else s

/-- The W1C flags of the MOD block. -/
def State.clearMod (s : State) (l : LaneId) (o w : Nat) : State :=
  if o = 0x0C then
    let s := s.modMR l fun m => { m with ynew := w1c w 10 m.ynew }
    s.modLN l fun x => { x with mod := { x.mod with dlmiss := w1c w 11 x.mod.dlmiss, gateloss := w1c w 12 x.mod.gateloss } }
  else if o = 0x10 then s.modMR l fun m => { m with noreach := w1c w 8 m.noreach }
  else s

/-- A request in HOST_RGO, judged (R389). -/
def State.resultRequest (s : State) (l : LaneId) (j : Nat) (reqseq : BitVec 16) : State :=
  let q := vget (s.lane l).ln.rreq {} j
  let bad := q.rlen == 0 || 16 < q.rlen || q.raddr % 4 != 0 || 0x1000000 < q.raddr + 4 * q.rlen || q.pend
  if bad then s.modLN l fun x => { x with host := { x.host with reqerr := true } }
  else
    let s := s.modLN l fun x => { x with rreq := vmod x.rreq j fun q => { q with pend := true, reqseq := reqseq } }
    s.modKeep l fun k => { k with slots := vmod k.slots j fun z => { z with valid := false } }

/-- The W1C flags of the HOST block (R388, R408). -/
def State.clearHost (s : State) (l : LaneId) (o w : Nat) : State :=
  let modH := fun (f : HostLN → HostLN) => s.modLN l fun x => { x with host := f x.host }
  if o = 0x04 then modH fun h => { h with
    ign := w1c w 0 h.ign, wcrcBad := w1c w 1 h.wcrcBad, wlen := w1c w 2 h.wlen, rcrc := w1c w 3 h.rcrc, fmt := w1c w 4 h.fmt,
    lockwr := w1c w 5 h.lockwr, abort := w1c w 6 h.abort, reqerr := w1c w 7 h.reqerr, remrd := w1c w 8 h.remrd }
  else if o = 0x0C then modH fun h => { h with attn := h.attn &&& ~~~(BitVec.ofNat 17 w) }
  else if o = 0x14 then modH fun h => { h with swflt := w1c w 1 h.swflt }
  else s

/-- The HOST block but for HOST_RGO (R408). -/
def State.writeHost (s : State) (l : LaneId) (o w : Nat) : State :=
  if o = 0x00 then s.modKeep l fun k => { k with hstart := BitVec.ofNat 8 w }
  else if o = 0x10 then s.modMR l fun m => { m with attnmsk := BitVec.ofNat 17 w }
  else if 0x100 ≤ o ∧ o < 0x300 ∧ o % 0x80 = 0 then
    s.modLN l fun x => { x with rreq := vmod x.rreq ((o - 0x100) / 0x80) fun q =>
      { q with raddr := w % 2 ^ 24, rlen := fld w 24 5, rtgt := bitOf w 29 } }
  else s

/-- HOST_RGO (R389). -/
def State.actHost (s : State) (l : LaneId) (o w : Nat) : State :=
  if 0x100 ≤ o ∧ o < 0x300 ∧ o % 0x80 = 4 then s.resultRequest l ((o - 0x100) / 0x80) (BitVec.ofNat 16 w) else s

/-- The MBX block but for MBX_POST (R398, R410). -/
def State.writeMbx (s : State) (l : LaneId) (o w : Nat) : State :=
  let m := o / 0x80
  let r := o % 0x80
  if 0x800 ≤ o then s
  else if r = 0x08 ∧ (m = 1 ∨ m = 3) then s.ack l m (BitVec.ofNat 16 w) (BitVec.ofNat 16 (w / 65536))
  else if 0x40 ≤ r ∧ (m = 0 ∨ m = 2) then
    s.modKeep l fun k => { k with boxes := vmod k.boxes m fun b =>
      { b with staging := vmod b.staging ((r - 0x40) / 4) fun _ => BitVec.ofNat 32 w } }
  else s

/-- The W1C flags of MBX_MSTAT (R410). -/
def State.clearMbx (s : State) (l : LaneId) (o w : Nat) : State :=
  if o < 0x800 ∧ o % 0x80 = 0x10 then s.modMstat l (o / 0x80) fun q => { q with
    msgnew := w1c w 0 q.msgnew, acknew := w1c w 1 q.acknew, coll := w1c w 2 q.coll, lenerr := w1c w 3 q.lenerr,
    permerr := w1c w 4 q.permerr, ackerr := w1c w 5 q.ackerr, noreach := w1c w 6 q.noreach }
  else s

/-- MBX_POST (R396). -/
def State.actMbx (s : State) (l : LaneId) (o w : Nat) : State :=
  let m := o / 0x80
  if o % 0x80 = 0x0C ∧ (m = 0 ∨ m = 2) then s.mailboxPost l m (w % 32) else s

/-- The SCHD block (R126). -/
def State.writeSchd (s : State) (l : LaneId) (o w : Nat) : State :=
  if o = 0x00 then
    let s := s.modST l fun x => { x with slackmin := inRange 5 80 x.slackmin (w % 256) }
    s.modMR l fun m => { m with shfloor := inRange 0 4 m.shfloor (fld w 8 3) }
  else if o = 0x1C then s.modMR l fun m => { m with ctxsel := w % 256 }
  else s

/-- The configuration of doorway d changed by f. -/
def State.modDcfg (s : State) (l : LaneId) (d : Nat) (f : DwayCfg → DwayCfg) : State :=
  s.modST l fun x => { x with dways := vmod x.dways d f }

/-- A register of doorway d (R232, R233). -/
def State.writeDoor (s : State) (l : LaneId) (d r w : Nat) : State :=
  if r = 0x00 then
    (if w % 16 = 0 then s
     else s.modDway l d fun y => { y with cmd := some (w % 16, BitVec.ofNat 8 (w / 256)) })
  else if ((s.lane l).dcfg d).defd = false then s
  else if r = 0x08 then s.modDcfg l d fun c => { c with
    warn := inRange 5 100 c.warn (fld w 0 8), rwarn := inRange 0 100 c.rwarn (fld w 8 8), dwell := fld w 16 12 }
  else if r = 0x0C then s.modDcfg l d fun c => { c with cltgt := inRange (max 10 (c.warn + 1)) 600 c.cltgt (fld w 0 12) }
  else if r = 0x10 then s.modDcfg l d fun c => { c with
    reopmax := fld w 0 3, reopmode := bitOf w 3, lockrty := fld w 4 2, lockto := inRange 5 200 c.lockto (fld w 8 8),
    reopd := inRange 0 20000 c.reopd (fld w 16 16) }
  else if r = 0x14 then s.modDcfg l d fun c => { c with istart := inRange 0 4000 c.istart (fld w 0 12) }
  else if r = 0x1C then s.modDcfg l d fun c => { c with autoopen := bitOf w 3, btnsrc := bitOf w 4 }
  else s

/-- The DWAY block (R232). -/
def State.writeDway (s : State) (l : LaneId) (o w : Nat) : State :=
  if o = 0x04 then s.modST l fun x => { x with car := { x.car with
    cap := inRange 10 4000 x.car.cap (fld w 0 12), spacing := inRange 0 4000 x.car.spacing (fld w 12 12),
    disto := inRange 1 255 x.car.disto (fld w 24 8) } }
  else if o = 0x10 then s.modST l fun x => { x with car := { x.car with
    supg := inRange 1 255 x.car.supg (fld w 0 8), iqui := inRange 0 50 x.car.iqui (fld w 8 8) } }
  else if 0x100 ≤ o ∧ o < 0x280 then s.writeDoor l ((o - 0x100) / 0x20) (o % 0x20) w
  else s

/-- The W1C flags of the DWAY block (R232). -/
def State.clearDway (s : State) (l : LaneId) (o w : Nat) : State :=
  if o = 0x00 then s.modLN l fun x => { x with
    car := { x.car with disag := w1c w 17 x.car.disag }
    slalom := { x.slalom with buderr := w1c w 18 x.slalom.buderr }
    slalomWork := x.slalomWork.map fun q => { q with buderr := w1c w 18 q.buderr } }
  else if 0x100 ≤ o ∧ o < 0x280 ∧ o % 0x20 = 0x04 ∧ ((s.lane l).dcfg ((o - 0x100) / 0x20)).defd = true then
    s.modDway l ((o - 0x100) / 0x20) (·.both fun z => { z with flags := { z.flags with
      clmiss := w1c w 24 z.flags.clmiss, lockf := w1c w 25 z.flags.lockf, obstr := w1c w 26 z.flags.obstr,
      stepf := w1c w 27 z.flags.stepf, egrstop := w1c w 28 z.flags.egrstop } })
  else s

/-- MMU_APER written (R359): the word is rejected whole where the domain does not permit it. -/
def State.writeAper (s : State) (l : LaneId) (k w : Nat) : State :=
  let d := (s.img l).dom (fld w 2 5)
  if d.host = false ∨ (bitOf w 1 = true ∧ d.hostwr = false) then s
  else s.modMR l fun m => { m with apers := vmod m.apers k fun _ =>
    { en := bitOf w 0, wr := bitOf w 1, dom := fld w 2 5, vbase := fld w 8 4 } }

/-- The MMU block (R375). -/
def State.writeMmu (s : State) (l : LaneId) (o w : Nat) : State :=
  if o = 0x04 then
    s.modMR l fun m => if bitOf w 31 then { m with fhead := { m.fhead with count := 0, ovr := 0 } } else m
  else if o = 0x0C then s.modMR l fun m => { m with domsel := w % 32 }
  else if 0x20 ≤ o ∧ o < 0x30 then s.writeAper l ((o - 0x20) / 4) w
  else s

/-- The W1C flags of the MMU block (R375). -/
def State.clearMmu (s : State) (l : LaneId) (o w : Nat) : State :=
  if o = 0x08 then
    let s := s.modMR l fun m => { m with mfnew := w1c w 0 m.mfnew }
    s.modLN l fun x => { x with dma := { x.dma with apflt := w1c w 1 x.dma.apflt, eccue := w1c w 2 x.dma.eccue } }
  else s

/-- A DMA register of channel c (R367, R375). A channel of another owner ignores the host. -/
def State.writeDmaCh (s : State) (l : LaneId) (c r w : Nat) : State :=
  let h := (s.lane l).dmaCh c
  if (s.img l).chOwner c ≠ 2 then s
  else if r < 0x14 then
    (if h.st = 0 ∨ h.st = 4 ∨ h.st = 6 then
      s.modDma l c fun h => { h with regs := vmod h.regs (r / 4) fun _ => BitVec.ofNat 32 w }
     else s)
  else if r = 0x14 then
    let s := if bitOf w 0 then s.dmaStart l c (Vector.replicate 5 0) else s
    let s := if bitOf w 1 then s.dmaResume l c else s
    if bitOf w 2 then s.dmaAbort l c else s
  else s

/-- The DMA block (R375). -/
def State.writeDma (s : State) (l : LaneId) (o w : Nat) : State :=
  if 0x100 ≤ o ∧ o < 0x300 then s.writeDmaCh l ((o - 0x100) / 0x40) (o % 0x40) w
  else s

/-- The W1C flags of the DMA block (R367, R375); a channel of another owner ignores the host. -/
def State.clearDma (s : State) (l : LaneId) (o w : Nat) : State :=
  let c := (o - 0x100) / 0x40
  if o = 0 then s.modLN l fun x => { x with dma := { x.dma with lenerr := w1c w 8 x.dma.lenerr } }
  else if 0x100 ≤ o ∧ o < 0x300 ∧ o % 0x40 = 0x18 ∧ (s.img l).chOwner c = 2 then s.modDma l c fun h => { h with
    done := w1c w 9 h.done, flt := w1c w 10 h.flt, rej := w1c w 12 h.rej }
  else s

/-- The LEDG block (R455). -/
def State.writeLedg (s : State) (l : LaneId) (o w : Nat) : State :=
  if o = 0x00 then
    s.modST l fun x => { x with tdec := inRange 1 255 x.tdec (fld w 1 8), trig := fld w 16 16 }
  else if o = 0x14 then s.ledgerAck l w
  else s

/-- The W1C flags of the LEDG block (R455). -/
def State.clearLedg (s : State) (l : LaneId) (o w : Nat) : State :=
  if o = 0x04 then
    let s := s.modMR l fun m => { m with ovrnew := w1c w 3 m.ovrnew }
    s.modLN l fun x => { x with ledg := { x.ledg with lenerr := w1c w 4 x.ledg.lenerr } }
  else s

end Sys2Proof.Machine
end

