-- ==== Sys2Proof/Machine/AxisRegs.lean ====
section
/-! DEFINITION. The registers of an axis: what a host reads of them, and what a write does (R146 to R148, R175 to R177, R205
to R207). Offsets are within the axis's window of 400h. -/

namespace Sys2Proof.Machine

/-! ### Reading -/

/-- HSTATE of AXIS_HOMST (R176). -/
def HomState.code : HomState → Nat
  | .idle => 0
  | .backOff => 1
  | .approach => 2
  | .settle => 3
  | .done => 4
  | .fault => 5

/-- OSTATE (R206). -/
def OState.code : OState → Nat
  | .watching => 0
  | .exceeding => 1
  | .preArmed => 2
  | .confirmed => 3
  | .braking => 4
  | .relief => 5
  | .held => 6
  | .notEval => 7

/-- The Hall tracking registers (R146, R147). -/
def readHall (c : HallCfg) (a : AxisSt) (o : Nat) : Nat :=
  let h := a.hall
  let e := a.edge
  if o = 0x00 then pack [(2, c.hmode), bit1 c.hdir, (1, 0), (11, c.hofs), (1, 0), (9, c.spdto), (7, c.invmax)]
  else if o = 0x04 then
    pack [(3, h.hstate), (3, h.sector.getD 0), bit1 h.still, bit1 h.dirNeg, (2, h.posq.code), bit1 h.hinv, bit1 h.hflt,
      bit1 h.hskip, bit1 h.spdsat, bit1 h.edgeovr, bit1 h.nots]
  else if o = 0x08 then h.raw.toNat
  else if o = 0x0C then h.track.toNat
  else if o = 0x10 then enc 32 (a.pos c)
  else if o = 0x14 then pack [(16, enc 16 h.spd), (16, enc 16 h.v4)]
  else if o = 0x18 then e.edget.toNat
  else if o = 0x1C then min 0xFFFFFFFF e.edgei
  else if o = 0x20 then pack [(11, e.elpos), (8, e.f)]
  else if o = 0x24 then pack [(8, e.invcnt), (8, e.skipcnt), (8, e.ovrcnt), (8, e.misscnt)]
  else if o = 0x28 then pack [(16, c.cpmm), (6, c.poles)]
  else 0

/-- The motion registers up to AXIS_FCFG (R175, R176). -/
def readMotion (c : AxisCfg) (q : AxisCmdSt) (a : AxisSt) (o : Nat) : Nat :=
  let m := c.mot
  let p := a.prof
  if o = 0x84 then pack [(8, q.seq.toNat), (8, q.rc), bit1 q.ownhost]
  else if o = 0x88 then q.ptgt.toNat
  else if o = 0x8C then pack [(16, m.vmax), bit1 m.scurve]
  else if o = 0x90 then pack [(16, m.acc), (16, m.dec)]
  else if o = 0x94 then pack [(16, m.jerk), (16, m.qdec)]
  else if o = 0x98 then enc 32 p.pref
  else if o = 0x9C then pack [(16, enc 16 p.vref), (16, enc 16 p.aref)]
  else if o = 0xA0 then
    pack [(3, p.phase.code), bit1 p.pdone, bit1 a.amp.inpos, bit1 p.accDefer, bit1 a.amp.stall, bit1 a.amp.sat, bit1 p.lstop,
      (7, 0), (16, p.decNow)]
  else if o = 0xA4 then enc 32 a.amp.ferr
  else if o = 0xA8 then pack [(12, m.abase), (12, m.ahold), (8, m.inposw)]
  else if o = 0xAC then m.kboost
  else if o = 0xB0 then pack [(12, a.amp.amp), (12, a.amp.aceil), bit1 a.amp.tdNeg]
  else if o = 0xB4 then pack [(16, m.kforce), (12, m.amax)]
  else 0

/-- The motion registers from AXIS_LEAD to AXIS_HTIM (R175, R176). -/
def readMotion2 (c : AxisCfg) (a : AxisSt) (o : Nat) : Nat :=
  let m := c.mot
  let h := c.hom
  let lim := fun (f : LimIn → Bool) => maskOf (a.lim.toList.map f)
  if o = 0xB8 then pack [(9, m.tlead), (1, 0), (10, m.leadmax)]
  else if o = 0xBC then pack [(12, a.amp.addr), (12, enc 12 a.amp.lead)]
  else if o = 0xC0 then pack [bit1 m.keep, (3, a.keep.kres)]
  else if o = 0xC4 then enc 32 a.amp.stepu
  else if o = 0xC8 then pack [(12, m.nstall), (4, 0), (12, m.vstall)]
  else if 0xD0 ≤ o ∧ o < 0xF0 then
    let s := vget a.cmp {} ((o - 0xD0) / 8)
    if o % 8 = 0 then s.cpos.toNat else pack [bit1 s.arm, bit1 s.cdir, (2, s.act), bit1 s.hit, bit1 s.late]
  else if 0xF0 ≤ o ∧ o < 0x100 then (vget a.cmp {} ((o - 0xF0) / 4)).ctime.toNat
  else if o = 0x100 then pack [(3, h.hseq), (1, 0), (12, h.hceil), (16, h.hspd)]
  else if o = 0x104 then enc 32 h.hoffp
  else if o = 0x108 then pack [(3, a.hom.st.code), bit1 a.hom.hdone, (4, a.hom.hfault)]
  else if o = 0x10C then
    pack [(4, lim LimIn.raw), (4, lim LimIn.deb), (4, lim LimIn.chat), (2, h.lsstop), (2, 0), (16, h.lsdec)]
  else if o = 0x110 then pack [(6, h.htmo), (2, 0), (8, h.hback)]
  else 0

/-- The obstacle registers up to AXIS_STEPB (R205, R206). -/
def readObsCfg (c : AxisCfg) (a : AxisSt) (o : Nat) : Nat :=
  let b := c.obs
  let w := c.snow
  if o = 0x200 then
    pack [bit1 b.oben, bit1 b.obeno, bit1 b.preden, bit1 b.edgeen, bit1 b.curten, bit1 b.learn, bit1 b.clneg]
  else if o = 0x204 then pack [(16, b.fthr), (16, b.fthro)]
  else if o = 0x208 then pack [(16, b.fthrs), (8, b.npre), (8, b.nclr)]
  else if o = 0x20C then pack [(16, b.fconf), (12, b.prelook)]
  else if o = 0x210 then pack [(16, b.fmaxc), (16, b.fmaxo)]
  else if o = 0x214 then pack [(16, b.fmaxs), (16, b.fbrk)]
  else if o = 0x218 then pack [(16, b.fpeak), (16, a.obs.flim)]
  else if o = 0x21C then pack [(16, b.sealz), (16, b.sealgap)]
  else if o = 0x220 then pack [(16, b.vseal), (16, b.edgegap)]
  else if o = 0x224 then enc 32 b.closepos
  else if o = 0x228 then pack [(16, w.mleaf), (16, w.dragmax)]
  else if o = 0x22C then pack [(4, w.lrate), (4, 0), (8, w.dstep), (16, w.curtgap)]
  else if o = 0x230 then w.xspan
  else if o = 0x234 then pack [(16, w.spdmin), (16, w.spdmax)]
  else if o = 0x238 then pack [(16, w.sprel), (16, w.spvr)]
  else if o = 0x23C then pack [(8, w.stagel), (10, w.passmax), (8, w.prio)]
  else if o = 0x240 then pack [(16, vget w.kh 0 0), (16, vget w.kh 0 1)]
  else if o = 0x244 then pack [(16, vget w.kh 0 2), (16, vget w.kh 0 3)]
  else if o = 0x248 then pack [(16, w.stepmin), (16, w.kplat)]
  else if o = 0x24C then pack [(16, w.stepback), (16, w.vedgef)]
  else 0

/-- The obstacle registers from AXIS_OSTAT to AXIS_PLAT (R205, R206). -/
def readObs (a : AxisSt) (o : Nat) : Nat :=
  let b := a.obs
  let f := b.flags
  if o = 0x250 then
    pack [(3, b.ostate.code), (2, b.zone), bit1 f.edge, bit1 f.curt, bit1 f.edgeflt, bit1 f.obst, bit1 f.plat,
      bit1 f.pkover, bit1 f.sealstop, bit1 f.prewd, (3, 0), (16, f.obstcnt)]
  else if o = 0x254 then pack [(6, f.confsrc), (2, 0), (2, f.sel), bit1 f.basesp, (1, 0), (4, f.stage)]
  else if o = 0x258 then pack [(16, enc 16 b.fest), (16, enc 16 b.fexp)]
  else if o = 0x25C then pack [(16, enc 16 b.e), (16, enc 16 b.emax)]
  else if o = 0x260 then b.xc.toNat
  else if o = 0x264 then pack [(16, b.kest), bit1 b.kvalid]
  else if o = 0x268 then pack [(16, b.spdec), (16, b.fpk)]
  else if o = 0x26C then b.reld % 65536
  else if o = 0x270 then f.conft.toNat
  else if o = 0x274 then pack [(16, f.sqcnt), (16, f.sqfcnt)]
  else if o = 0x278 then f.platpos.toNat
  else 0

/-- The registers of hypothesis h (R205, R206). -/
def readHyp (a : AxisSt) (y : Hyp) (h r : Nat) : Nat :=
  if r = 0 then
    pack [bit1 y.hq, bit1 y.hrdy, bit1 (vget a.fit false h), bit1 y.hflt,
      (4, y.hstg), (10, y.hage)]
  else if r = 4 then (vget a.res 0 h).toNat
  else if r = 8 then pack [(16, y.fpred), (16, y.hthit)]
  else pack [(16, y.hspdec), (16, y.hfpk)]

/-- The window of axis n (R3, R146, R175, R205). -/
def State.readAxis (s : State) (l : LaneId) (n o : Nat) : Nat :=
  let x := s.lane l
  let c := x.acfg n
  let a := (x.axis n).cur
  if axFused s.part n then 0
  else if o < 0x80 then readHall c.hall a o
  else if o < 0xB8 then readMotion c (x.axis n).cmd a o
  else if o < 0x200 then readMotion2 c a o
  else if o < 0x250 then readObsCfg c a o
  else if o < 0x280 then readObs a o
  else if o < 0x2C0 then readHyp a (x.hyp n ((o - 0x280) / 16)) ((o - 0x280) / 16) (o % 16)
  else if 0x300 ≤ o ∧ o < 0x400 then
    let d := vget c.dmap {} ((o - 0x300) / 4)
    pack [(16, d.drc), (16, d.dro)]
  else 0

/-! ### Writing -/

/-- A field of access RWL takes a value (R12, R13): while a seal record is in force the field keeps its content. -/
def rwl (lock : Bool) (old new : Nat) : Nat := if lock then old else new

/-- A write reaches an RWL field (R13). -/
def reaches (lock : Bool) (old new : Nat) : Bool := lock && old != new

/-- AXIS_HCFG written (R147): HDIR only at standstill. -/
def HallCfg.write (c : HallCfg) (still : Bool) (w : Nat) : HallCfg :=
  { c with
    hdir := if still then bitOf w 2 else c.hdir
    hofs := inRange 0 1535 c.hofs (fld w 4 11)
    spdto := inRange 5 500 c.spdto (fld w 16 9)
    invmax := inRange 1 127 c.invmax (fld w 25 7) }

/-- A motion register written (R176). -/
def MotCfg.write (c : MotCfg) (lock : Bool) (o w : Nat) : MotCfg :=
  if o = 0x8C then { c with vmax := inRange 10 10000 c.vmax (fld w 0 16), scurve := bitOf w 16 }
  else if o = 0x90 then c.writeAcc w
  else if o = 0x94 then c.writeJerk w
  else if o = 0xA8 then { c with abase := fld w 0 12, ahold := fld w 12 12, inposw := inRange 1 255 c.inposw (fld w 24 8) }
  else if o = 0xAC then { c with kboost := fld w 0 16 }
  else if o = 0xB4 then { c with
    kforce := rwl lock c.kforce (inRange 100 65535 c.kforce (fld w 0 16))
    amax := rwl lock c.amax (inRange 100 4095 c.amax (fld w 16 12)) }
  else if o = 0xB8 then { c with tlead := inRange 0 500 c.tlead (fld w 0 9), leadmax := fld w 10 10 }
  else if o = 0xC0 then { c with keep := bitOf w 0 }
  else if o = 0xC8 then { c with
    nstall := inRange 40 4000 c.nstall (fld w 0 12), vstall := inRange 1 4095 c.vstall (fld w 16 12) }
  else c

/-- A position in two's complement, in its stated range or the previous one (R176). -/
def posInRange (old : Int) (w : Nat) : Int :=
  let p := sgn 32 w
  if -200000 ≤ p ∧ p ≤ 200000 then p else old

/-- A homing or limit register written (R176). -/
def HomCfg.write (c : HomCfg) (o w : Nat) : HomCfg :=
  if o = 0x100 then { c with
    hseq := inRange 0 5 c.hseq (fld w 0 3), hceil := fld w 4 12, hspd := inRange 10 2000 c.hspd (fld w 16 16) }
  else if o = 0x104 then { c with hoffp := posInRange c.hoffp w }
  else if o = 0x10C then { c with
    lsstop := inRange 0 2 c.lsstop (fld w 12 2), lsdec := inRange 500 10000 c.lsdec (fld w 16 16) }
  else if o = 0x110 then { c with htmo := inRange 1 60 c.htmo (fld w 0 6), hback := inRange 1 255 c.hback (fld w 8 8) }
  else c

/-- An obstacle register written, of the first part (R206). -/
def ObsCfg.write (c : ObsCfg) (lock : Bool) (o w : Nat) : ObsCfg :=
  let lo := fld w 0 16
  let hi := fld w 16 16
  if o = 0x200 then { c with
    oben := if lock then c.oben else bitOf w 0
    obeno := if lock then c.obeno else bitOf w 1
    preden := bitOf w 2
    learn := bitOf w 5 }
  else if o = 0x204 then { c with fthr := inRange 10 10000 c.fthr lo, fthro := inRange 10 10000 c.fthro hi }
  else if o = 0x208 then { c with
    fthrs := inRange 10 10000 c.fthrs lo, npre := inRange 1 200 c.npre (fld w 16 8), nclr := inRange 1 255 c.nclr (fld w 24 8) }
  else if o = 0x20C then { c with
    fconf := rwl lock c.fconf (inRange 50 20000 c.fconf lo), prelook := inRange 0 3200 c.prelook (fld w 16 12) }
  else if o = 0x210 then { c with
    fmaxc := rwl lock c.fmaxc (inRange 100 20000 c.fmaxc lo), fmaxo := rwl lock c.fmaxo (inRange 100 20000 c.fmaxo hi) }
  else if o = 0x214 then { c with
    fmaxs := rwl lock c.fmaxs (inRange 100 20000 c.fmaxs lo), fbrk := rwl lock c.fbrk (inRange 100 65535 c.fbrk hi) }
  else if o = 0x218 then { c with fpeak := rwl lock c.fpeak (inRange 100 20000 c.fpeak lo) }
  else if o = 0x21C then
    let z := rwl lock c.sealz (inRange 0 2000 c.sealz lo)
    { c with sealz := z, sealgap := rwl lock c.sealgap (inRange 0 z c.sealgap hi) }
  else if o = 0x220 then { c with
    vseal := rwl lock c.vseal (inRange 10 2000 c.vseal lo), edgegap := rwl lock c.edgegap (inRange 0 2000 c.edgegap hi) }
  else if o = 0x224 then { c with closepos := if lock then c.closepos else posInRange c.closepos w }
  else c

/-- PRIO is a permutation of 0 to 3 (R206). -/
def prioCodeOk (p : Nat) : Bool := allDiff ((List.range 4).map fun i => fld p (2 * i) 2)

/-- An obstacle register written, of the second part (R206). -/
def SnowCfg.write (c : SnowCfg) (lock : Bool) (o w : Nat) : SnowCfg :=
  let lo := fld w 0 16
  let hi := fld w 16 16
  let kh := fun (i v : Nat) (k : Vector Nat 4) => vmod k i fun old => inRange 1 65535 old v
  if o = 0x228 then { c with
    mleaf := rwl lock c.mleaf (inRange 10 5000 c.mleaf lo), dragmax := rwl lock c.dragmax (inRange 0 5000 c.dragmax hi) }
  else if o = 0x22C then { c with
    lrate := inRange 0 7 c.lrate (fld w 0 4), dstep := inRange 1 255 c.dstep (fld w 8 8)
    curtgap := inRange 0 2000 c.curtgap hi }
  else if o = 0x234 then
    let top := rwl lock c.spdmax hi
    if 500 ≤ lo ∧ lo ≤ top ∧ top ≤ 10000 then { c with spdmin := lo, spdmax := top }
    else
      let least := inRange 500 c.spdmax c.spdmin lo
      { c with spdmin := least, spdmax := rwl lock c.spdmax (inRange least 10000 c.spdmax hi) }
  else if o = 0x238 then { c with sprel := inRange 0 2000 c.sprel lo, spvr := inRange 10 5000 c.spvr hi }
  else if o = 0x23C then { c with
    stagel := inRange 1 200 c.stagel (fld w 0 8), passmax := inRange 17 800 c.passmax (fld w 8 10)
    prio := if prioCodeOk (fld w 18 8) then fld w 18 8 else c.prio }
  else if o = 0x240 then { c with kh := kh 1 hi (kh 0 lo c.kh) }
  else if o = 0x244 then { c with kh := kh 3 hi (kh 2 lo c.kh) }
  else if o = 0x248 then { c with stepmin := inRange 0 20000 c.stepmin lo, kplat := inRange 1 65535 c.kplat hi }
  else if o = 0x24C then { c with
    stepback := inRange 0 2000 c.stepback lo, vedgef := rwl lock c.vedgef (inRange 10 10000 c.vedgef hi) }
  else c

/-- The RWL fields of an axis register, as (content, value carried) (R13, R206). -/
def rwlFields (c : AxisCfg) (o w : Nat) : List (Nat × Nat) :=
  let lo := fld w 0 16
  let hi := fld w 16 16
  let b := c.obs
  if o = 0xB4 then [(c.mot.kforce, lo), (c.mot.amax, fld w 16 12)]
  else if o = 0x200 then [(b2n b.oben, fld w 0 1), (b2n b.obeno, fld w 1 1)]
  else if o = 0x20C then [(b.fconf, lo)]
  else if o = 0x210 then [(b.fmaxc, lo), (b.fmaxo, hi)]
  else if o = 0x214 then [(b.fmaxs, lo), (b.fbrk, hi)]
  else if o = 0x218 then [(b.fpeak, lo)]
  else if o = 0x21C then [(b.sealz, lo), (b.sealgap, hi)]
  else if o = 0x220 then [(b.vseal, lo), (b.edgegap, hi)]
  else if o = 0x224 then [(enc 32 b.closepos, w)]
  else if o = 0x228 then [(c.snow.mleaf, lo), (c.snow.dragmax, hi)]
  else if o = 0x234 then [(c.snow.spdmax, hi)]
  else if o = 0x24C then [(c.snow.vedgef, hi)]
  else []

/-- LOCKWR is set where a write reaches a locked RWL field (R13). -/
def State.lockCheck (s : State) (l : LaneId) (fs : List (Nat × Nat)) : State :=
  if fs.any (fun f => reaches s.sealed f.1 f.2) then
    s.modLN l fun x => { x with host := { x.host with lockwr := true } }
  else s

/-- The W1C flags of an axis block (R147, R176, R206). -/
def AxisSt.clear (a : AxisSt) (o w : Nat) : AxisSt :=
  if o = 0x04 then { a with hall := { a.hall with
    hinv := w1c w 10 a.hall.hinv, hflt := w1c w 11 a.hall.hflt, hskip := w1c w 12 a.hall.hskip,
    spdsat := w1c w 13 a.hall.spdsat, edgeovr := w1c w 14 a.hall.edgeovr } }
  else if o = 0xA0 then { a with
    prof := { a.prof with pdone := w1c w 3 a.prof.pdone, lstop := w1c w 8 a.prof.lstop }
    amp := { a.amp with stall := w1c w 6 a.amp.stall } }
  else if o = 0x108 then { a with hom := { a.hom with hdone := w1c w 3 a.hom.hdone } }
  else if o = 0x10C then { a with lim := a.lim.mapFinIdx fun k i _ => { i with chat := w1c w (8 + k) i.chat } }
  else if 0xD0 ≤ o ∧ o < 0xF0 ∧ o % 8 = 4 then { a with cmp := vmod a.cmp ((o - 0xD0) / 8) (·.clear w) }
  else if o = 0x250 then { a with obs := { a.obs with flags := { a.obs.flags with
    obst := w1c w 8 a.obs.flags.obst, plat := w1c w 9 a.obs.flags.plat, pkover := w1c w 10 a.obs.flags.pkover,
    sealstop := w1c w 11 a.obs.flags.sealstop, prewd := w1c w 12 a.obs.flags.prewd } } }
  else a

/-- The W1C flags of the window of axis n (R3, R15). -/
def State.clearAxis (s : State) (l : LaneId) (n o w : Nat) : State :=
  if axFused s.part n then s else s.modAxis l n (·.both fun a => a.clear o w)

/-- A compare register written (R163, R164). -/
def AxisSt.writeCmp (a : AxisSt) (o w : Nat) : AxisSt :=
  { a with cmp := vmod a.cmp ((o - 0xD0) / 8) fun q =>
      if o % 8 = 0 then (if q.arm then q else { q with cpos := BitVec.ofNat 32 w }) else q.write w a.hall.track.toInt }

/-- The register holds configuration fields, which change after the commands of the gate are judged (R178). -/
def isAxisCfg (o : Nat) : Bool := o == 0 || (0x8C ≤ o && o < 0xD0) || (0x100 ≤ o && o < 0x250)

/-- The configuration that the commands of this gate are judged by stays known when a write changes it. -/
def AxisCmdSt.keepCfg (q : AxisCmdSt) (c : AxisCfg) : AxisCmdSt := { q with prevCfg := some (q.prevCfg.getD c) }

/-- The window of axis n at the gate at which a write takes effect (R3, R41, R147, R176, R184, R206). -/
def State.writeAxis (s : State) (l : LaneId) (n o w : Nat) : State :=
  let c := (s.lane l).acfg n
  let still := ((s.lane l).axis n).cur.hall.still
  let lock := s.sealed
  if axFused s.part n then s
  else
    let s := s.lockCheck l (rwlFields c o w)
    let s := if isAxisCfg o then s.modAxis l n fun a => { a with cmd := a.cmd.keepCfg c } else s
    if o = 0x00 then s.modAcfg l n fun c => { c with hall := c.hall.write still w }
    else if o = 0x80 then
      s.modAxis l n fun a => { a with cmd := { a.cmd with
        hostCmd := if w % 16 = 0 then a.cmd.hostCmd
          else some { code := w % 16, seq := BitVec.ofNat 8 (w / 256), target := none } } }
    else if o = 0x88 then s.modAxis l n fun a => { a with cmd := { a.cmd with ptgt := BitVec.ofNat 32 w } }
    else if o = 0x90 ∨ o = 0x94 then
      let s := s.modAcfg l n fun c => { c with mot := c.mot.write lock o w }
      s.modAxis l n fun a => { a with cmd := { a.cmd with accWrite := a.cmd.accWrite || accTaken o w } }
    else if o < 0xD0 then s.modAcfg l n fun c => { c with mot := c.mot.write lock o w }
    else if o < 0xF0 then s.modAxis l n (·.both fun a => a.writeCmp o w)
    else if o < 0x200 then s.modAcfg l n fun c => { c with hom := c.hom.write o w }
    else if o < 0x250 then
      let s := s.modAcfg l n fun c => { c with obs := c.obs.write lock o w, snow := c.snow.write lock o w }
      if o = 0x200 ∧ bitOf w 7 = true then s.seedMap l n else s
    else if 0x300 ≤ o ∧ o < 0x400 then s.writeMap l n ((o - 0x300) / 4) w
    else s

end Sys2Proof.Machine
end

