-- ==== Sys2Proof/Machine/Operands.lean ====
section
/-! DEFINITION. The operands of a host transaction (chapter 13): the blocks of the host address map, and the address, the
words and the check value that its bytes carry. -/

namespace Sys2Proof.Machine

/-- A block of the host map (R18), with what selects a part of it. -/
inductive Blk
  | mod | host | mbx | strm | hlth | schd
  | axis (n : Nat)
  | glid | dway | load | safe | net | mmu | dma | ledg | lane | pwr
  | aper (w : Nat)
  | none
  deriving DecidableEq, Repr

/-- The block that an address lies in, and the offset in it (R18, R19, R359). -/
def blkOf (a : Nat) : Blk × Nat :=
  if a < 0x1000 then (.mod, a)
  else if a < 0x2000 then (.host, a - 0x1000)
  else if a < 0x4000 then (.mbx, a - 0x2000)
  else if a < 0x6000 then (.strm, a - 0x4000)
  else if a < 0x8000 then (.hlth, a - 0x6000)
  else if a < 0x10000 then (.schd, a - 0x8000)
  else if a < 0x16000 then (.axis ((a - 0x10000) / 0x400), (a - 0x10000) % 0x400)
  else if a < 0x17000 then (.glid, a - 0x16000)
  else if a < 0x18000 then (.dway, a - 0x17000)
  else if a < 0x19000 then (.load, a - 0x18000)
  else if a < 0x1A000 then (.safe, a - 0x19000)
  else if a < 0x1B000 then (.net, a - 0x1A000)
  else if a < 0x1C000 then (.mmu, a - 0x1B000)
  else if a < 0x1D000 then (.dma, a - 0x1C000)
  else if a < 0x1E000 then (.ledg, a - 0x1D000)
  else if a < 0x1F000 then (.lane, a - 0x1E000)
  else if a < 0x20000 then (.pwr, a - 0x1F000)
  else if 0x100000 ≤ a ∧ a < 0x500000 then (.aper ((a - 0x100000) / 0x100000), a % 0x100000)
  else (.none, 0)

/-- MOD_LANESEL, which the lane holding the token always answers itself (R45). -/
def laneselAddr : Nat := 0x10

/-- Command bytes of a transaction (R378). -/
def cmdWrite : Byte := 0x02
def cmdRead : Byte := 0x0B
def cmdStatus : Byte := 0x05

/-- The failures of a WRITE (R381) in the order in which they are judged. -/
inductive WriteErr | wlen | fmt | wcrc
  deriving DecidableEq, Repr

/-- The check value of a WRITE, over its command, its address and its words (R378). -/
def writeCrc (addr : HAddr) (words : List Byte) : BitVec 16 := crc16 (cmdWrite :: toBE 3 addr.toNat ++ words)

/-- A WRITE judged (R381): the bytes after the address are the words and their CRC-16. -/
def judgeWrite (addr : HAddr) (rest : List Byte) : Except WriteErr (List Word × BitVec 16) :=
  let n := rest.length
  let data := rest.take (n - 2)
  let crc := BitVec.ofNat 16 (ofBE (rest.drop (n - 2)))
  if n < 6 ∨ (n - 2) % 4 ≠ 0 ∨ 1026 < n ∨ 0x1000000 < addr.toNat + (n - 2) then .error .wlen
  else if addr.toNat % 4 ≠ 0 then .error .fmt
  else if writeCrc addr data ≠ crc then .error .wcrc
  else .ok (wordsBE data, crc)

/-- The check value of a READ's request (R378). -/
def readCrc (addr : HAddr) (ta : Byte) : BitVec 16 := crc16 (cmdRead :: toBE 3 addr.toNat ++ [ta])

/-- Words of a READ: TA is LEN − 1 (R378). -/
def readLen (ta : Byte) : Nat := ta.toNat + 1

/-- Bytes that a READ lasts (R378). -/
def readBytes (ta : Byte) : Nat := 7 + 4 * readLen ta

/-- The addresses of the words of a burst. -/
def burst (addr n : Nat) : List Nat := (List.range n).map fun k => addr / 4 * 4 + 4 * k

end Sys2Proof.Machine
end

