-- ==== Sys2Proof/Machine/Flags.lean ====
section
/-! DEFINITION. The flags and counts of the host port (R379, R381, R382, R386, R408), and the header of a transaction. -/

namespace Sys2Proof.Machine

/-- HOST registers of class LN of lane l changed. -/
def State.modHost (s : State) (l : LaneId) (f : HostLN → HostLN) : State := s.modLN l fun x => { x with host := f x.host }

/-- A transaction is ignored (R386). -/
def HostLN.ignore (h : HostLN) : HostLN := { h with ign := true, igncnt := satInc 0xFF h.igncnt }

/-- A write is rejected: the bit of its first failure, and REJCNT (R381). -/
def HostLN.reject (h : HostLN) (e : WriteErr) : HostLN :=
  let h : HostLN := { h with rejcnt := satInc 0xFF h.rejcnt }
  match e with
  | .wlen => { h with wlen := true }
  | .fmt => { h with fmt := true }
  | .wcrc => { h with wcrcBad := true }

/-- A write is accepted: WCRC takes its check value, and WCOUNT counts modulo 256 (R379, R381). -/
def HostLN.accept (h : HostLN) (crc : BitVec 16) : HostLN := { h with wcrc := crc, wcount := (h.wcount + 1) % 256 }

/-- H0 of the header: HOST_PSTAT [6:0], and the level of HATTN in bit 7 (R379). -/
def State.h0 (s : State) (l : LaneId) : Byte := BitVec.ofNat 8 ((s.lane l).ln.host.pstat % 128 + 128 * b2n s.hattn)

/-- The header H0 to H3, taken at the fall of HCSB (R379). -/
def State.header (s : State) (l : LaneId) : List Byte :=
  let h := (s.lane l).ln.host
  s.h0 l :: toBE 2 h.wcrc.toNat ++ [BitVec.ofNat 8 h.wcount]

end Sys2Proof.Machine
end

