-- ==== Sys2Proof/Machine/StreamCheck.lean ====
section
/-! DEFINITION. What a load judges of an image (R68 steps 1 to 9, R88, R514, R515): its header, lengths and checks, the
ranges of every section's fields, and the cross-references. -/

namespace Sys2Proof.Machine

/-- A failure as STRM_ERR and STRM_ERROFF report it (R75). -/
structure LoadErr where
  code : Nat
  sect : Nat := 0
  typ : Nat := 0
  off : Nat := 0
  deriving DecidableEq, Repr

/-- One judgement of a section: the payload offset of the field, the error it gives, and whether it holds. -/
structure Judged where
  off : Nat
  ok : Bool
  code : Nat := 9
  deriving DecidableEq, Repr

/-- The failing judgement of lowest offset; of one field, the one listed first (R515). -/
def firstBad (js : List Judged) : Option Judged :=
  js.foldl (fun acc j => if j.ok then acc else match acc with
    | none => some j
    | some a => if j.off < a.off then some j else some a) none

/-- n bytes of a payload as a little-endian number. -/
def leN (p : List Byte) (o n : Nat) : Nat := (slice p o n).foldr (fun b a => b.toNat + 256 * a) 0

/-- A field of n bytes lies from lo to hi. -/
def jRng (p : List Byte) (o n lo hi : Nat) : Judged := { off := o, ok := lo ≤ leN p o n && leN p o n ≤ hi }

/-- A rule at an offset. -/
def jMust (o : Nat) (ok : Bool) : Judged := { off := o, ok := ok }

/-- Bytes a to b − 1 are 0. -/
def jZero (p : List Byte) (a b : Nat) : List Judged := (List.range (b - a)).map fun k => jMust (a + k) (byteAt p (a + k) == 0)

/-- Nothing but 0 stands from an offset to the end of the payload (R514). -/
def jRest (p : List Byte) (a : Nat) : List Judged := jZero p a p.length

/-- The judgements that apply only under a condition. -/
def jIf (c : Bool) (js : List Judged) : List Judged := if c then js else []

/-- n records of some size from an offset on, each judged at its offset. -/
def jRecs (n base size : Nat) (f : Nat → Nat → List Judged) : List Judged :=
  (List.range n).flatMap fun k => f k (base + size * k)

/-- Fields of a record, as (place, bytes, lowest, highest). -/
def jFields (p : List Byte) (o : Nat) (fs : List (Nat × Nat × Nat × Nat)) : List Judged :=
  fs.map fun f => jRng p (o + f.1) f.2.1 f.2.2.1 f.2.2.2

/-! ### The catalogue (R59) -/

/-- Largest LEN, SEALED flag, and whether a full stream must contain the section. -/
def catalogue (typ : Nat) : Option (Nat × Bool × Bool) :=
  match typ with
  | 0x01 => some (256, false, true)
  | 0x02 => some (1024, false, true)
  | 0x03 => some (256, false, true)
  | 0x04 => some (8192, false, true)
  | 0x05 => some (65536, false, true)
  | 0x06 => some (1024, false, true)
  | 0x07 => some (1024, false, true)
  | 0x08 => some (512, false, false)
  | 0x09 => some (73728, false, true)
  | 0x0A => some (8192, false, true)
  | 0x0B => some (24576, false, true)
  | 0x0C => some (131072, false, false)
  | 0x0D => some (8192, false, false)
  | 0x0E => some (256, false, true)
  | 0x10 => some (32768, true, true)
  | 0x11 => some (4096, true, true)
  | 0x12 => some (256, false, false)
  | _ => none

/-- The sections that a full stream must contain. -/
def requiredTypes : List Nat := [0x01, 0x02, 0x03, 0x04, 0x05, 0x06, 0x07, 0x09, 0x0A, 0x0B, 0x0E, 0x10, 0x11]

/-- The end of the last field that a payload's layout defines, counts read as they stand (R514). -/
def minLen (typ : Nat) (p : List Byte) : Nat :=
  match typ with
  | 0x01 => 68
  | 0x02 => if p.length < 4 then 4 else 4 + 16 * le32 p 0
  | 0x03 => 10
  | 0x04 => if p.length < 4 then 4 else 4 + 24 * le32 p 0
  | 0x05 => if p.length < 592 then 592 else 592 + 4 * le16 p 0
  | 0x06 => 128
  | 0x07 => 32
  | 0x08 => 336
  | 0x09 => if p.length < 480 then 480 else 480 + 8192 * (idxs 8 (fun t => byteAt p (416 + 8 * t) != 0)).length
  | 0x0A => if p.length < 16 then 16 else 16 + 48 * le32 p 0
  | 0x0B => Config.motionEnd p
  | 0x0D => 1448
  | 0x0E => 256
  | 0x10 => if p.length < 368 then 368 else 368 + 32 * le32 p 8
  | 0x11 => 184
  | 0x12 => 4
  | _ => 0

/-- LEN of a section is good (R56, R514): a multiple of 4, up to its type's maximum, and past every defined field. -/
def lenOk (typ len : Nat) (p : List Byte) : Bool :=
  len % 4 == 0 && len == p.length && minLen typ p ≤ len && match catalogue typ with
    | some (mx, _, _) => len ≤ mx
    | none => true

/-! ### MOTION (R59; layout free, log entry 6) -/

/-- The fields of an axis in MOTION by the model's numbers, with their ranges (R147, R176, R206): HMODE, HDIR, HOFS, SPDTO,
INVMAX; VMAX, PTYPE, ACC, DEC, JERK, QDEC; ABASE, AHOLD, INPOSW, KBOOST, KFORCE, AMAX, TLEAD, LEADMAX, NSTALL, VSTALL; HSEQ,
HCEIL, HSPD, HOFFP, LSSTOP, LSDEC, HTMO, HBACK; OBEN, OBENO, PREDEN, LEARN, CLDIR. -/
def motionRanges1 : List (Int × Int) :=
  [(0, 2), (0, 1), (0, 1535), (5, 500), (1, 127),
   (10, 10000), (0, 1), (50, 10000), (50, 10000), (100, 65535), (500, 10000),
   (0, 4095), (0, 4095), (1, 255), (0, 65535), (100, 65535), (100, 4095), (0, 500), (0, 1023), (40, 4000), (1, 4095),
   (0, 5), (0, 4095), (10, 2000), (-200000, 200000), (0, 2), (500, 10000), (1, 60), (1, 255),
   (0, 1), (0, 1), (0, 1), (0, 1), (0, 1)]

/-- The rest, from number 34: FTHR, FTHRO, FTHRS, NPRE, NCLR, FCONF, PRELOOK; FMAXC, FMAXO, FMAXS, FBRK, FPEAK; SEALZ,
SEALGAP, VSEAL, EDGEGAP, CLOSEPOS; MLEAF, DRAGMAX, LRATE, DSTEP, CURTGAP, XSPAN; SPDMIN, SPDMAX, SPREL, SPVR, STAGEL,
PASSMAX, PRIO; KH0 to KH3; STEPMIN, KPLAT, STEPBACK, VEDGEF. -/
def motionRanges2 : List (Int × Int) :=
  [(10, 10000), (10, 10000), (10, 10000), (1, 200), (1, 255), (50, 20000), (0, 3200),
   (100, 20000), (100, 20000), (100, 20000), (100, 65535), (100, 20000),
   (0, 2000), (0, 2000), (10, 2000), (0, 2000), (-200000, 200000),
   (10, 5000), (0, 5000), (0, 7), (1, 255), (0, 2000), (64, 4000000),
   (500, 10000), (500, 10000), (0, 2000), (10, 5000), (1, 200), (17, 800), (0, 255),
   (1, 65535), (1, 65535), (1, 65535), (1, 65535),
   (0, 20000), (1, 65535), (0, 2000), (10, 10000)]

/-- A rule on field f of axis n of MOTION. -/
def jMot (p : List Byte) (n f : Nat) (ok : Int → Bool) : Judged :=
  { off := Config.motionOffset p n f, ok := ok (Config.motionField p n f) }

/-- PRIO is a permutation of 0 to 3 (R206). -/
def prioOk (v : Int) : Bool := allDiff ((List.range 4).map fun j => fld v.toNat (2 * j) 2)

/-! ### First pass: ranges (R515) -/

/-- Kernel and BUDGET of a context type (R99, R102). -/
def kernelOf (typ : Nat) : Nat × Nat :=
  match typ with
  | 1 => (0x0101, 4700)
  | 2 => (0x0201, 3200)
  | 3 => (0x0301, 1500)
  | 4 => (0x0401, 4000)
  | 5 => (0x0402, 1500)
  | 6 => (0x0501, 500)
  | 7 => (0x0502, 500)
  | 8 => (0x0503, 500)
  | 9 => (0x0601, 4000)
  | 10 => (0x0701, 10000)
  | 11 => (0x0801, 1500)
  | 12 => (0x0802, 0)
  | _ => (0, 0)

/-- IDENT (R60), AXES (R61), PODS (R107), CTXT (R100, R105). -/
def rangesIdent (p : List Byte) : List Judged := jMust 0 (le32 p 0 % 4096 == 0) :: jRest p 68

def rangesAxes (p : List Byte) : List Judged :=
  let n := le32 p 0
  jRng p 0 4 1 24 :: jRecs (min n 24) 4 16 (fun _ o =>
    jFields p o [(0, 1, 0, 23), (1, 1, 0, 3), (2, 1, 0, 5), (3, 1, 1, 2), (4, 1, 0, 1), (5, 1, 0, 11), (6, 1, 0, 1),
      (7, 1, 0, 7), (8, 2, 100, 20000), (10, 1, 1, 32), (11, 1, 0, 1), (12, 4, 0, 0)]) ++ jRest p (4 + 16 * n)

def rangesPods (p : List Byte) : List Judged := jRng p 8 2 5 80 :: jRest p 10

def rangesCtxt (p : List Byte) : List Judged :=
  let n := le32 p 0
  jRng p 0 4 1 256 :: jRecs (min n 256) 4 24 (fun _ o =>
    jFields p o [(1, 1, 1, 12), (2, 1, 0, 7), (3, 1, 0, 2), (5, 1, 0, 3), (6, 1, 0, 31), (7, 1, 0, 0), (12, 2, 1, 2048),
      (14, 2, 64, 2048), (20, 4, 0, 0)] ++
    [jMust (o + 8) ((List.range 12).any fun t => (kernelOf (t + 1)).1 == le16 p (o + 8)),
     jMust (o + 14) (le16 p (o + 14) % 64 == 0)]) ++ jRest p (4 + 24 * n)

/-- MMU (R351, R353 to R355). -/
def rangesMmu (p : List Byte) : List Judged :=
  let n := le16 p 0
  jRng p 0 2 0 16236 :: jZero p 2 16 ++
    jRecs 32 16 16 (fun _ o => jFields p o [(0, 2, 0, 4096), (8, 1, 0, 3), (9, 1, 0, 0), (11, 4, 0, 0), (15, 1, 0, 0)]) ++
    jRecs 8 528 8 (fun _ o => jFields p o [(0, 1, 0, 3), (2, 1, 0, 3), (3, 1, 0, 31), (4, 4, 0, 0)]) ++
    jRecs (min n 16236) 592 4 (fun _ o => [jMust o (le32 p o / 2 ^ 23 == 0)]) ++ jRest p (592 + 4 * n)

/-- The kinds that MBOX may permit for mailbox m (R393). -/
def mayKinds (m : Nat) : Nat := if m = 0 then 0x50 else if m = 2 then 0x10 else if m = 3 ∨ m = 7 then 0x04 else 0x02

/-- MBOX (R405, R406), LANDS (R494, R495). -/
def rangesMbox (p : List Byte) : List Judged :=
  jRecs 16 0 8 (fun m o =>
    let k := byteAt p (o + 1)
    [jMust o (byteAt p o == m),
     jMust (o + 1) ((List.range 8).all fun b => !bitOf k b || bitOf (mayKinds m) b),
     jMust (o + 1) (m == 0 || m == 2 || k == mayKinds m)] ++
    jFields p o [(2, 1, 0, 3), (3, 1, 0, 0), (4, 4, 0, 0)]) ++ jRest p 128

def rangesLands (p : List Byte) : List Judged :=
  jRecs 8 0 4 (fun m o => jMust o (byteAt p o == m) :: jFields p o [(1, 1, 0, 4), (2, 1, 0, 1), (3, 1, 0, 1)]) ++ jRest p 32

/-- LOADG (R432). -/
def rangesLoadg (p : List Byte) : List Judged :=
  let en := le32 p 0
  jZero p 4 16 ++ jRecs 32 16 8 (fun k o =>
    if !bitOf en k then jZero p o (o + 8)
    else
      let g := byteAt p (o + 1)
      [jMust o (byteAt p o == k), jMust (o + 1) ([0, 1, 2, 4, 8].contains g)] ++
      (if g = 0 then jZero p (o + 2) (o + 8)
      else
        [if g = 8 then jRng p (o + 2) 1 0 0 else jRng p (o + 2) 1 12 30] ++
        jFields p o [(3, 1, 0, 15), (4, 1, 1, 255), (5, 1, 0, 2), (6, 1, 0, 3)] ++
        [if byteAt p (o + 5) = 1 then jRng p (o + 7) 1 5 200 else jRng p (o + 7) 1 0 0])) ++
  jRecs 4 272 16 (fun i o =>
    if bitOf en (28 + i) && byteAt p (16 + 8 * (28 + i) + 5) == 2 then
      jFields p o [(0, 2, 200, 2000), (2, 2, 200, 2000), (4, 2, 200, 2000), (6, 1, 1, 100), (7, 1, 1, 100), (8, 1, 1, 100),
        (10, 1, 10, 50)] ++ jZero p (o + 11) (o + 16)
    else jZero p o (o + 16)) ++ jRest p 336

/-- GLIDE (R258). -/
def rangesGlide (p : List Byte) : List Judged :=
  let tabs := (idxs 8 (fun t => byteAt p (416 + 8 * t) != 0)).length
  [jRng p 0 1 0 15, jRng p 1 1 0 8] ++ jZero p 2 16 ++
    jRecs 4 16 4 (fun r o => (if bitOf (byteAt p 0) r then jRng p o 1 1 6 else jRng p o 1 0 0) :: jZero p (o + 1) (o + 4)) ++
    jRecs 24 32 16 (fun _ o => jRng p o 1 0 1 ::
      (if byteAt p o = 0 then jZero p (o + 1) (o + 16)
      else jFields p o [(1, 1, 0, 2), (2, 1, 0, 1), (3, 1, 0, 0)] ++ jZero p (o + 10) (o + 16))) ++
    jRecs 8 416 8 (fun _ o => jRng p o 1 0 1 ::
      (if byteAt p o = 0 then jZero p (o + 1) (o + 8) else jFields p o [(1, 1, 0, 1), (2, 2, 0, 0)])) ++
    jRest p (480 + 8192 * tabs)

/-- A channel number from 0 to 31, or FFh. -/
def jChan (p : List Byte) (o : Nat) : Judged := jMust o (byteAt p o ≤ 31 || byteAt p o == 0xFF)

/-- A position within the range of PTGT (R176). -/
def jPos (p : List Byte) (o : Nat) : Judged :=
  jMust o (decide (-200000 ≤ sgn 32 (le32 p o)) && decide (sgn 32 (le32 p o) ≤ 200000))

/-- DWAY (R228, R229). -/
def rangesDway (p : List Byte) : List Judged :=
  let n := le32 p 0
  jFields p 0 [(0, 4, 1, 12), (4, 2, 10, 4000), (6, 2, 0, 4000), (8, 1, 1, 255), (9, 1, 0, 50), (10, 1, 1, 255)] ++
    jZero p 11 16 ++ jRecs (min n 12) 16 48 (fun _ o =>
      jFields p o [(0, 1, 0, 11), (1, 1, 0, 1), (2, 1, 0, 7), (3, 1, 0, 2), (7, 1, 0, 0), (8, 2, 5, 100), (10, 2, 0, 100),
        (12, 2, 0, 4095), (14, 2, 10, 600), (16, 2, 0, 4000), (18, 1, 0, 7), (19, 1, 0, 1), (20, 2, 0, 20000),
        (22, 1, 5, 200), (23, 1, 0, 3)] ++
      [jChan p (o + 4), jChan p (o + 5), jChan p (o + 6), jPos p (o + 24), jPos p (o + 28), jPos p (o + 32)] ++
      jZero p (o + 36) (o + 48)) ++ jRest p (16 + 48 * n)

/-- MOTION: every field of every axis that AXES of the image names (log entry 6), and nothing but 0 past the last of them
(R514). -/
def rangesMotion (m : Image) (p : List Byte) : List Judged :=
  (m.axisRecs.flatMap fun a =>
    ((motionRanges1 ++ motionRanges2).zipIdx.map fun r =>
      jMot p a.axis r.2 (fun v => decide (r.1.1 ≤ v) && decide (v ≤ r.1.2))) ++
    (jMot p a.axis 63 prioOk :: (List.range 128).map fun k => jMot p a.axis (100 + k) (fun v => decide (0 ≤ v)))) ++
    jRest p (Config.motionEnd p)

/-- An epoch-1 stream sets no CAN FD bit here (R94, R316). -/
def jEpoch (epoch : Nat) (p : List Byte) (o : Nat) : Judged :=
  { off := o, ok := epoch != 1 || byteAt p o / 4 % 4 == 0, code := 0x12 }

/-- NET (R307, R315): the record of an interface that IFEN leaves off, of a connection without an Ethernet path, and of a
tunnel that is off are not judged. -/
def rangesNet (epoch : Nat) (p : List Byte) : List Judged :=
  let en := byteAt p 0
  [jEpoch epoch p 0, jRng p 0 1 0 15] ++ jZero p 1 8 ++
    jRecs 2 8 32 (fun i o => jIf (bitOf en i) (jFields p o [(6, 1, 0, 3), (7, 1, 8, 30), (16, 2, 0, 4094), (18, 1, 0, 7),
      (19, 1, 1, 255)]) ++ jZero p (o + 20) (o + 32)) ++
    jRecs 2 72 16 (fun c o => jIf (bitOf en (2 + c)) (jFields p o [(0, 4, 125000, 1000000), (4, 4, 0, 5000000), (8, 1, 50, 90),
      (9, 1, 50, 90)]) ++ jZero p (o + 10) (o + 16)) ++
    jFields p 104 [(0, 1, 0, 2), (1, 1, 0, 127), (2, 1, 0, 3)] ++ jZero p 107 136 ++
    jRecs 16 136 16 (fun _ o => jRng p (o + 10) 1 0 1 :: jZero p (o + 11) (o + 16)) ++
    jRecs 64 392 16 (fun _ o => [jEpoch epoch p o, jRng p o 1 0 15, jRng p (o + 1) 1 0 7] ++
      jIf (byteAt p o % 4 != 0) [jRng p (o + 2) 2 1024 65535] ++ [jMust (o + 8) (!bitOf (le32 p (o + 8)) 29)] ++
      jZero p (o + 12) (o + 16)) ++
    jFields p 1416 [(0, 1, 0, 1), (1, 1, 0, 3)] ++ jIf (byteAt p 1416 == 1) [jRng p 1418 2 1024 65535] ++
    jRest p 1436

/-- LEDG (R453). -/
def rangesLedg (p : List Byte) : List Judged :=
  jFields p 0 [(0, 1, 0, 1), (1, 1, 1, 255), (2, 2, 0, 0x0FFF)] ++
    jIf (le32 p 4 != 0) (jFields p 0 [(8, 2, 1024, 65535), (10, 1, 0, 1), (11, 1, 0, 1)]) ++ jZero p 12 p.length

/-- A function record of SAFETY (R289). -/
def rangesFn (p : List Byte) (nfunc f o : Nat) : List Judged :=
  if nfunc ≤ f then jZero p o (o + 16)
  else
    let t := byteAt p (o + 1)
    jMust o (byteAt p o == f) :: jFields p o [(1, 1, 1, 7), (2, 1, 0, 31), (4, 1, 0, 4), (5, 1, 0, 4), (10, 2, 10, 500)] ++
      [if t = 7 then jRng p (o + 3) 1 0xFF 0xFF else jRng p (o + 3) 1 0 31,
       if t = 3 ∨ t = 7 then jRng p (o + 6) 1 0 0 else jRng p (o + 6) 1 0 2,
       jRng p (o + 7) 1 0 (if t = 5 then 23 else if t = 3 then 1 else 0),
       jRng p (o + 8) 2 0 (if t = 1 ∨ t = 2 ∨ t = 4 then 0xFFFF else 0),
       if t = 3 then jRng p (o + 12) 2 50 500 else jRng p (o + 12) 2 0 0,
       jRng p (o + 14) 2 0 (if t = 7 then 0xFFFF else 0)]

/-- R10: no reserved kind, no field of R8 past its range, none that R8 fixes at 0 other than 0. -/
def addrOk (a : Nat) : Bool :=
  let lane := fld a 11 1
  let pod := fld a 8 3
  let blade := fld a 5 3
  match a % 32 with
  | 0 => true
  | 1 => pod == 0 && blade == 0
  | 2 => lane == 0 && pod == 0 && blade == 0
  | 3 => lane == 0 && pod == 0 && blade == 0
  | 4 => pod == 0 && blade == 0
  | 5 => pod == 0
  | 6 => pod ≤ 3 && blade == 0
  | 7 => pod == 0 && blade ≤ 3
  | _ => false

/-- SAFETY and REFEREE (R288 to R291, R314). -/
def rangesSafety (p : List Byte) : List Judged :=
  let nf := le16 p 0
  let nc := le32 p 8
  jFields p 0 [(0, 2, 1, 16), (4, 2, 100, 400), (8, 4, 0, 64)] ++ [jMust 2 (byteAt p 2 ≤ 5 || byteAt p 2 == 0xFF)] ++
    jZero p 3 4 ++ jZero p 6 8 ++ jZero p 12 16 ++ jRecs 16 16 16 (rangesFn p nf) ++
    jRecs 6 272 16 (fun k o => [jMust o (byteAt p o == k), jRng p (o + 1) 1 0 3, jChan p (o + 2),
      if byteAt p (o + 2) = 0xFF then jRng p (o + 3) 1 0 0 else jRng p (o + 3) 1 1 50] ++ jZero p (o + 6) (o + 8)) ++
    jRecs (min nc 64) 368 32 (fun k o =>
      let prod := byteAt p (o + 1) == 1
      jMust o (byteAt p o == k) :: jFields p o [(1, 1, 0, 1), (2, 1, 0, 63), (3, 1, if prod then 16 else 0, 32),
        (8, 2, 1, 1000), (10, 2, 0, if prod then 0 else 10000), (12, 2, 0, 5000)] ++
      (if prod then jFields p o [(14, 1, 0, 0), (15, 1, 0, 0), (16, 1, 0, 0x10)]
       else jRng p (o + 14) 1 1 255 :: jMust (o + 15) (byteAt p (o + 15) % 16 != 0 && byteAt p (o + 15) < 32) ::
         [jRng p (o + 16) 1 0 0]) ++
      [jMust (o + 4) (addrOk (le32 p (o + 4)))] ++ jZero p (o + 17) (o + 32)) ++
    jRest p (368 + 32 * nc)

def rangesReferee (p : List Byte) : List Judged := jZero p 4 8 ++ jRest p 184

/-- PERSONA (R63). Its ID is compared with the header's in the first pass (DEDUCED, log entry 63). -/
def rangesPersona (persona : Nat) (p : List Byte) : List Judged := jMust 0 (le32 p 0 == persona) :: jRest p 4

/-- The first pass over one section; m is the image as it would be merged (R515). -/
def rangesOf (m : Image) (epoch persona : Nat) (s : Section) : List Judged :=
  let p := s.payload
  match s.typ with
  | 0x01 => rangesIdent p
  | 0x02 => rangesAxes p
  | 0x03 => rangesPods p
  | 0x04 => rangesCtxt p
  | 0x05 => rangesMmu p
  | 0x06 => rangesMbox p
  | 0x07 => rangesLands p
  | 0x08 => rangesLoadg p
  | 0x09 => rangesGlide p
  | 0x0A => rangesDway p
  | 0x0B => rangesMotion m p
  | 0x0D => rangesNet epoch p
  | 0x0E => rangesLedg p
  | 0x10 => rangesSafety p
  | 0x11 => rangesReferee p
  | 0x12 => rangesPersona persona p
  | _ => []

end Sys2Proof.Machine
end

