-- ==== Sys2Proof/Machine/StreamRefs.lean ====
section
/-! DEFINITION. The cross-references of every section (second pass of R515), the resources a part has fused off, and the
whole check of an image: steps 1 to 9 of R68, and of R88 for a live image. -/

namespace Sys2Proof.Machine

/-- Records o of n that have an earlier one with the same key, each judged at an offset: none may. -/
def jDistinct {α : Type} [DecidableEq α] (keys : List (Nat × α)) : List Judged :=
  keys.zipIdx.map fun k => jMust k.1.1 (!((keys.take k.2).any fun e => decide (e.2 = k.1.2)))

/-! ### AXES to LANDS -/

/-- R62. -/
def refsAxes (m : Image) : List Judged :=
  let as := m.axisRecs
  jDistinct (as.zipIdx.map fun a => (4 + 16 * a.2, a.1.axis)) ++
  jDistinct (as.zipIdx.map fun a => (5 + 16 * a.2, (a.1.ring, a.1.slot))) ++
  as.zipIdx.flatMap fun x =>
    let a := x.1
    let o := 4 + 16 * x.2
    let same : List AxisRec := as.filter fun b => b.doorway == a.doorway && b.role == a.role
    [jMust (o + 1) (m.ringen a.ring && m.brickUsed a.ring a.slot),
     jMust (o + 5) (((as.take (x.2 + 1)).filter fun b => b.doorway == a.doorway && b.role == a.role).length ≤
       (if a.role = 1 then 2 else 1)),
     jMust (o + 6) (if a.role == 1 && same.length == 2 then allDiff (same.map AxisRec.side) else a.side == 0)]

/-- Number of Blades that PODS leaves unfenced. -/
def Image.openBlades (m : Image) : Nat := ((List.range 64).filter fun k => !bitOf (m.fence (k / 8)) (k % 8)).length

/-- Bytes of KPARM loaded, over all instances (R59). -/
def Image.kparm (m : Image) : List Byte := (m.secs.filter (fun s => s.typ == 0x0C)).flatMap Section.payload

/-- How many contexts of a type R102 asks for. -/
def Image.ctxCount (m : Image) (typ : Nat) : Nat :=
  match typ with
  | 1 => m.axisRecs.length
  | 2 => 4 * m.axisRecs.length
  | 3 => m.dwayCount
  | 6 => (idxs 4 m.ringen).length
  | 8 => 8
  | 9 => 2
  | 11 => 8
  | _ => 1

/-- INDEX and HYP name something that is defined (R105, R106). -/
def Image.ctxNames (m : Image) (c : CtxRec) : Bool :=
  if c.typ = 1 ∨ c.typ = 2 then (m.axisRec c.index).isSome
  else if c.typ = 3 then (m.dwayOff c.index).isSome
  else if c.typ = 6 then c.index < 4 && m.ringen c.index
  else if c.typ = 8 ∨ c.typ = 11 then c.index < 8
  else if c.typ = 9 then c.index < 2
  else c.index == 0

/-- R106. -/
def refsCtxt (m : Image) : List Judged :=
  let cs := m.ctxs
  let bs := cs.filter fun c => clsOf c.typ == .b
  [jMust 0 ((List.range 12).all fun t => (cs.filter fun c => c.typ == t + 1).length == m.ctxCount (t + 1)),
   jMust 0 (bs.length ≤ m.openBlades),
   jMust 0 (decide (5 * (bs.map CtxRec.budget).sum ≤ 4 * (6480 * m.openBlades)))] ++
  jDistinct (cs.zipIdx.map fun c => (4 + 24 * c.2, c.1.ctx)) ++
  jDistinct (cs.zipIdx.map fun c => (8 + 24 * c.2, (c.1.typ, c.1.index, c.1.hyp))) ++
  cs.zipIdx.flatMap fun x =>
    let c := x.1
    let o := 4 + 24 * x.2
    [jMust (o + 2) (((cs.take (x.2 + 1)).filter fun d => d.home == c.home).length ≤ 32),
     jMust (o + 2) (!(c.typ == 8 || c.typ == 11) || c.home == c.index),
     jMust (o + 3) (c.typ != 11 || c.flags == 2),
     jMust (o + 4) (m.ctxNames c),
     jMust (o + 5) (c.typ == 2 || c.hyp == 0),
     jMust (o + 6) ((m.dom c.dom).npages != 0),
     jMust (o + 8) (c.kernel == (kernelOf c.typ).1),
     jMust (o + 10) (decide (64 * (c.ptab + c.ptlen) ≤ m.kparm.length)),
     jMust (o + 16) (c.budget == (kernelOf c.typ).2)]

/-- A frame that R347 lets a domain map. -/
def mappable (f : Nat) : Bool := (0x300 ≤ f && f < 0x800) || (0x1000 ≤ f && f < 0x2000) || (0x2040 ≤ f && f < 0x2060)

/-- The frame lies in kernel parameter RAM. -/
def kparmFrame (f : Nat) : Bool := 0x2040 ≤ f && f < 0x2060

/-- R356. -/
def refsMmu (m : Image) : List Judged :=
  let p := m.sec 5
  jMust 16 ((m.dom 0).npages != 0) ::
  jRecs 32 16 16 (fun d o =>
    let r := m.dom d
    [jMust (o + 2) (r.ptoff + r.npages ≤ m.nent), jMust (o + 8) (r.host || !r.hostwr)]) ++
  jRecs 8 528 8 (fun c o =>
    let own := m.chOwner c
    let ctx := m.ctx (m.chCtx c)
    [jMust (o + 1) (own == 3 || m.chCtx c == 0),
     jMust (o + 1) (own != 3 || ctx.isSome),
     jMust (o + 2) (own != 0 || m.chPrio c == 0),
     jMust (o + 3) (match own with
       | 0 => m.chDom c == 0
       | 2 => (m.dom (m.chDom c)).host
       | 3 => match ctx with
         | some r => r.dom == m.chDom c || bitOf (m.dom r.dom).reach (m.chDom c)
         | none => false
       | _ => true)]) ++
  jRecs (min (le16 p 0) 16236) 592 4 (fun k o =>
    let e := m.entry k
    let f := fld e 0 20
    let outside := (List.range 31).any fun d =>
      let r := m.dom (d + 1)
      decide (r.ptoff ≤ k) && decide (k < r.ptoff + r.npages)
    [jMust o (!bitOf e 20 || mappable f), jMust o (!(bitOf e 22 && kparmFrame f && outside))])

/-- R406: NETIF. -/
def refsMbox (m : Image) : List Judged :=
  (List.range 16).map fun k => jMust (8 * k + 2) (m.netif k == 0 || (bitOf (m.kinds k) 6 &&
    (List.range 2).all fun i => !bitOf (m.netif k) i || bitOf m.ifen i))

/-- R495. -/
def refsLands (m : Image) : List Judged :=
  let p := m.sec 7
  (List.range 8).flatMap fun k =>
    let o := 4 * k
    let f := m.landFunc k
    let u := m.landUnit k
    [jMust (o + 1) (f == 0 || !((List.range k).any fun j => m.landFunc j == f && m.landUnit j == u)),
     jMust (o + 2) (2 < f || u == 0),
     jMust (o + 2) (f != 3 || bitOf m.ifen u),
     jMust (o + 2) (f != 4 || bitOf m.ifen (2 + u)),
     jMust (o + 3) (f == 3 || !bitOf (byteAt p (o + 3)) 0)]

/-! ### LOADG to DWAY -/

/-- GANG of channel k in LOADG (R432). -/
def Image.gang (m : Image) (k : Nat) : Nat := m.loadByte k 1

/-- Channel k is an enabled leader. -/
def Image.isLeader (m : Image) (k : Nat) : Bool := k < 32 && bitOf m.chen k && m.gang k != 0

/-- R413, R433: alignment, enabled members that no other gang holds, and where MODE 2 may stand. -/
def refsLoadg (m : Image) : List Judged :=
  (List.range 32).flatMap fun k =>
    let o := 16 + 8 * k
    let g := m.gang k
    if !bitOf m.chen k then []
    else if g = 0 then
      [jMust (o + 1) ((List.range k).any fun j => m.isLeader j && k < j + m.gang j)]
    else
      [jMust (o + 1) (k % g == 0 && ((List.range (g - 1)).all fun j => bitOf m.chen (k + 1 + j) && m.gang (k + 1 + j) == 0)),
       jMust (o + 5) (m.loadByte k 5 != 2 || (28 ≤ k && g == 1))]

/-- R258. -/
def refsGlide (m : Image) : List Judged :=
  let p := m.sec 9
  let used := fun (r : Nat) => idxs 6 (m.brickUsed r)
  jMust 1 (byteAt p 1 == (idxs 8 m.tabPresent).length) ::
  (List.range 4).flatMap (fun r =>
    jMust (16 + 4 * r) (m.nb r == (used r).length) ::
    (used r).flatMap fun s =>
      let o := Image.brickOff r s
      [jMust o (decide (s < (used r).length)),
       jMust (o + 2) (match m.axisAt r s with
         | some a => m.brickForm r s == m.tabForm a.table && m.brickForm r s == a.motor
         | none => true)]) ++
  m.axisRecs.map (fun a => jMust (416 + 8 * a.table) (m.tabPresent a.table)) ++
  (idxs 8 m.tabPresent).map (fun t => jMust (420 + 8 * t) (BitVec.ofNat 32 (m.tabCrc t) == crc32c (m.table t)))

/-- A byte of the DWAY record at an offset. -/
def Image.dwByte (m : Image) (o b : Nat) : Nat := byteAt (m.sec 10) (o + b)

/-- R230, R229's CLTGT above WARN, and the DWAY rules of R433. -/
def refsDway (m : Image) : List Judged :=
  let p := m.sec 10
  let os := (List.range m.dwayCount).map fun k => 16 + 48 * k
  let leaves := fun (d : Nat) => m.axisRecs.filter fun a => a.doorway == d && a.role == 1
  jMust 0 (m.axisRecs.all fun a => (m.dwayOff a.doorway).isSome) ::
  jDistinct (os.map fun o => (o, byteAt p o)) ++
  os.flatMap fun o =>
    let d := byteAt p o
    [jMust o ((leaves d).length != 0),
     jMust (o + 2) (!bitOf (m.dwByte o 2) 0 || (leaves d).length == 2),
     jMust (o + 3) (m.dwByte o 5 == 0xFF || os.all fun q => m.dwByte q 5 != m.dwByte o 5 || m.dwByte q 3 == m.dwByte o 3),
     jMust (o + 4) (m.dwByte o 4 == 0xFF || m.isLeader (m.dwByte o 4)),
     jMust (o + 5) (m.dwByte o 5 == 0xFF || m.isLeader (m.dwByte o 5)),
     jMust (o + 5) (m.dwByte o 3 != 2 || (28 ≤ m.dwByte o 5 && m.dwByte o 5 ≤ 31 && m.loadByte (m.dwByte o 5) 5 == 2)),
     jMust (o + 6) (m.dwByte o 6 == 0xFF || m.isLeader (m.dwByte o 6)),
     jMust (o + 6) (m.dwByte o 6 == 0xFF || os.all fun q => q == o ||
       ([4, 5, 6] : List Nat).all fun b => m.dwByte q b != m.dwByte o 6),
     jMust (o + 14) (decide (le16 p (o + 8) < le16 p (o + 14))),
     jMust (o + 28) ((leaves d).length == 2 || le32 p (o + 28) == 0),
     jMust (o + 32) (le32 p (o + 32) == 0 || m.axisRecs.any fun a => a.doorway == d && a.role == 2)]

/-- MOTION: HMODE against MOTOR (R145), SEALGAP and SPDMIN (R206), the zones of a step (R202), the drag map within DRAGMAX. -/
def refsMotion (m : Image) : List Judged :=
  let p := m.sec 11
  m.axisRecs.flatMap fun a =>
    let v := Config.motionField p a.axis
    [jMot p a.axis 0 (fun x => a.motor == 1 || decide (x = 0)),
     jMot p a.axis 46 (fun x => a.role == 1 || decide (x = 0)),
     jMot p a.axis 47 (fun x => decide (x ≤ v 46) && (a.role == 1 || decide (x = 0))),
     jMot p a.axis 49 (fun x => a.role == 1 || decide (x = 0)),
     jMot p a.axis 57 (fun x => decide (x ≤ v 58))] ++
    (List.range 128).map fun k => jMot p a.axis (100 + k) (fun x => decide (x ≤ v 52))

/-! ### NET, LEDG, SAFETY, REFEREE -/

/-- The connection records in use. -/
def Image.conns (m : Image) : List (Nat × ConnRec) :=
  (List.range (safeNconn (m.sec 0x10))).map fun k => (k, connRec (m.sec 0x10) k)

/-- Every bit of a below n is set in b. -/
def subBits (n a b : Nat) : Bool := (List.range n).all fun i => !bitOf a i || bitOf b i

/-- CANID's format and identifier. -/
def canKey (c : Nat) : Bool × Nat := (bitOf c 31, c % 2 ^ 29)

/-- R316. -/
def refsNet (m : Image) : List Judged :=
  let p := m.sec 13
  let nc := safeNconn (m.sec 0x10)
  let eats := (m.conns.filter fun c => !c.2.produce).map Prod.fst
  jRecs 2 72 16 (fun c o => jIf (bitOf m.ifen (2 + c)) [jMust (o + 4) (decide (le32 p o ≤ le32 p (o + 4)))]) ++
  (List.range 64).flatMap (fun k =>
    let o := Image.trOff k
    let path := m.trPath k
    [jMust o (if k < nc then path != 0 && subBits 8 path m.ifen else path == 0),
     jMust (o + 2) (path % 4 == 0 || !m.tunEn || m.trPort k != m.tunPort),
     jMust (o + 8) (path / 4 == 0 || (canKey (m.trCan k)).1 || (canKey (m.trCan k)).2 < 2 ^ 11)]) ++
  jDistinct ((eats.filter fun k => m.trPath k % 4 != 0).map fun k => (Image.trOff k + 2, (m.trPort k, m.trIp k))) ++
  (List.range 2).flatMap fun c =>
    jDistinct ((eats.filter fun k => bitOf (m.trPath k) (2 + c)).map fun k => (Image.trOff k + 8, canKey (m.trCan k)))

/-- R453. -/
def refsLedg (m : Image) : List Judged :=
  jIf (m.colIp != 0)
    [jMust 8 (!((List.range 64).any fun k => m.trPath k % 4 != 0 && m.trPort k == m.colPort) &&
       !(m.tunEn && m.tunPort == m.colPort)),
     jMust 10 (bitOf m.ifen m.colIf)]

/-- The functions below NFUNC, with their numbers (R288). -/
def safeFns (p : List Byte) : List (Nat × FnRec) := (List.range (min (le16 p 0) 16)).map fun f => (f, fnRec p f)

/-- Some function of a mask satisfies q. -/
def maskAny (p : List Byte) (mask : Nat) (q : FnRec → Bool) : Bool := (safeFns p).any fun f => bitOf mask f.1 && q f.2

/-- The inputs that functions and outputs use, each at the offset that names it. -/
def inputUses (p : List Byte) : List (Nat × Nat) :=
  (safeFns p).flatMap (fun f => (18 + 16 * f.1, f.2.ch1) :: (if f.2.typ = 7 then [] else [(19 + 16 * f.1, f.2.ch2)])) ++
  ((List.range 6).map fun o => (274 + 16 * o, (outRec p o).edmin)).filter fun u => u.2 != 0xFF

/-- R271, R292: sources of a function's channels. -/
def sourcesOk (r : FnRec) : Bool :=
  if r.typ = 4 then r.tp1 == 0 && r.tp2 == 0
  else if r.typ = 7 then r.tp2 == 0
  else r.tp1 != 0 && r.tp2 != 0 && r.tp1 != r.tp2

/-- R292 and R314 on SAFETY. -/
def refsSafety (m : Image) : List Judged :=
  let p := m.sec 0x10
  let nf := le16 p 0
  let nc := safeNconn p
  let loops := (safeFns p).filter fun f => f.2.typ == 2
  let roles := idxs 6 fun o => (outRec p o).role == 2
  let known := fun (mask : Nat) => (List.range 16).all fun d => !bitOf mask d || (m.dwayOff d).isSome
  [jMust 0 (m.doorways.all fun d => loops.any fun f => bitOf f.2.dmask d),
   jMust 2 (roles.length ≤ 1 && byteAt p 2 == (roles.head?).getD 0xFF)] ++
  jDistinct (inputUses p) ++
  (safeFns p).flatMap (fun f =>
    let o := 16 + 16 * f.1
    [jMust (o + 4) (sourcesOk f.2),
     jMust (o + 7) (f.2.typ != 5 || (m.axisRec f.2.target).isSome),
     jMust (o + 8) (known f.2.dmask),
     jMust (o + 8) (f.2.typ != 2 || loops.all fun g => f.1 ≤ g.1 || f.2.dmask &&& g.2.dmask == 0),
     jMust (o + 14) (f.2.rstmask < 2 ^ nf)]) ++
  (List.range 6).flatMap (fun k =>
    let o := 272 + 16 * k
    let r := outRec p k
    [jMust (o + 4) (r.fmask < 2 ^ nf && !maskAny p r.fmask fun f => f.typ == 3 || f.typ == 7),
     jMust (o + 4) (r.role != 2 || maskAny p r.fmask fun f => f.typ == 2),
     jMust (o + 8) (r.cmask < 2 ^ nc && (r.role != 2 || r.cmask == 0))]) ++
  m.conns.flatMap (fun c =>
    let o := 368 + 32 * c.1
    let r := c.2
    [jMust (o + 4) (!r.produce || r.src == m.base + 2),
     jMust (o + 10) (if r.produce then r.wdto == 0 else r.period + 2 ≤ r.wdto),
     jMust (o + 16) (!r.produce || r.permf != 0x10 || loops.length != 0)]) ++
  jDistinct ((m.conns.filter fun c => c.2.produce).map fun c => (370 + 32 * c.1, c.2.cnum)) ++
  jDistinct ((m.conns.filter fun c => !c.2.produce).map fun c => (372 + 32 * c.1, c.2.cid))

/-- R292 on REFEREE: each byte equals the SAFETY byte it matches. -/
def refsReferee (m : Image) : List Judged :=
  let p := m.sec 0x10
  let q := m.sec 0x11
  let fnMap := [(0, 1), (1, 2), (2, 3), (3, 4), (4, 5), (5, 6), (6, 10), (7, 11)]
  let outMap := [(0, 0), (1, 1), (2, 4), (3, 5)]
  (List.range 16).flatMap (fun f => fnMap.map fun b =>
    jMust (8 + 8 * f + b.1) (byteAt q (8 + 8 * f + b.1) == byteAt p (16 + 16 * f + b.2))) ++
  (List.range 6).flatMap fun k =>
    (outMap.map fun b => jMust (136 + 8 * k + b.1) (byteAt q (136 + 8 * k + b.1) == byteAt p (272 + 16 * k + b.2))) ++
    jZero q (140 + 8 * k) (144 + 8 * k)

/-- The second pass over a section of a type, in the image as merged (R515). -/
def refsOf (m : Image) (typ : Nat) : List Judged :=
  match typ with
  | 0x02 => refsAxes m
  | 0x04 => refsCtxt m
  | 0x05 => refsMmu m
  | 0x06 => refsMbox m
  | 0x07 => refsLands m
  | 0x08 => refsLoadg m
  | 0x09 => refsGlide m
  | 0x0A => refsDway m
  | 0x0B => refsMotion m
  | 0x0D => refsNet m
  | 0x0E => refsLedg m
  | 0x10 => refsSafety m
  | 0x11 => refsReferee m
  | _ => []

/-! ### Fused resources (R2) -/

/-- Where a section assigns an axis or load channel that an SK2440 has fused off: each such use fails. -/
def fusedUses (s : Section) : List Judged :=
  let p := s.payload
  let ax := fun (n : Nat) => !(16 ≤ n && n < 24)
  let ch := fun (k : Nat) => !(24 ≤ k && k < 32)
  match s.typ with
  | 0x02 => jRecs (min (le32 p 0) 24) 4 16 fun _ o => [jMust o (ax (byteAt p o))]
  | 0x04 => jRecs (min (le32 p 0) 256) 4 24 fun _ o =>
      [jMust (o + 4) (!(byteAt p (o + 1) == 1 || byteAt p (o + 1) == 2) || ax (byteAt p (o + 4)))]
  | 0x08 => [jMust 0 (le32 p 0 < 2 ^ 24)]
  | 0x0A => jRecs (min (le32 p 0) 12) 16 48 fun _ o =>
      [jMust (o + 4) (ch (byteAt p (o + 4))), jMust (o + 5) (ch (byteAt p (o + 5))), jMust (o + 6) (ch (byteAt p (o + 6)))]
  | 0x10 => jRecs (min (le16 p 0) 16) 16 16 fun _ o => [jMust (o + 7) (byteAt p (o + 1) != 5 || ax (byteAt p (o + 7)))]
  | _ => []

/-! ### The steps of R68 -/

/-- A section as it stands in the image: where its header begins, and its 16 header bytes. -/
structure RawSec where
  hoff : Nat
  hdr : List Byte
  sec : Section
  deriving DecidableEq, Repr

/-- An error in section i at an offset from its header. -/
def secErr (rs : List RawSec) (i : Nat) (code off : Nat) : LoadErr :=
  match rs[i]? with
  | some r => { code := code, sect := i, typ := r.sec.typ, off := r.hoff + off }
  | none => { code := code }

/-- The first section, in order, that has an error. -/
def firstSec (rs : List RawSec) (f : RawSec → Option (Nat × Nat)) : Option LoadErr :=
  rs.zipIdx.findSome? fun r => (f r.1).map fun e => secErr rs r.2 e.1 e.2

/-- Steps 1 and 2. -/
def checkHead (bs : List Byte) : Option LoadErr :=
  if bs.take 4 != [0x46, 0x52, 0x4C, 0x59] then some { code := 1 }
  else if le16 bs 6 != 64 then some { code := 1, off := 6 }
  else if BitVec.ofNat 32 (le32 bs 60) != crc32c (bs.take 60) then some { code := 1, off := 60 }
  else if le16 bs 4 == 0 || 2 < le16 bs 4 then some { code := 2, off := 4 }
  else none

/-- Step 3 over n sections from an offset on, with the KPARM bytes met so far: those that this image carries (DEDUCED, log entry
63). -/
def walkSecs : Nat → Nat → Nat → Nat → Nat → List Byte → Except LoadErr (List RawSec)
  | 0, _, pos, tot, _, _ => if pos = tot then .ok [] else .error { code := 3, off := 8 }
  | n + 1, i, pos, tot, kp, bs =>
    if tot < pos + 16 then .error { code := 3, sect := i, off := pos }
    else
      let h := bs.take 16
      let len := le32 h 4
      let s : Section := { typ := le16 h 0, inst := byteAt h 2, sflags := byteAt h 3, payload := slice bs 16 len }
      let kp := if s.typ = 0x0C then kp + len else kp
      if tot < pos + 16 + len ∨ 131072 < kp ∨ !lenOk s.typ len s.payload then
        .error { code := 3, sect := i, typ := s.typ, off := pos + 4 }
      else do
        let rest ← walkSecs n (i + 1) (pos + 16 + len) tot kp (bs.drop (16 + len))
        return { hoff := pos, hdr := h, sec := s } :: rest

/-- Step 3. NSECT outside 1 to 64 fails here (DEDUCED, log entry 63). -/
def checkLens (bs : List Byte) : Except LoadErr (List RawSec) :=
  let tot := le32 bs 8
  let n := le16 bs 12
  if tot % 4 ≠ 0 ∨ tot < 80 ∨ 524288 < tot ∨ bs.length < tot then .error { code := 3, off := 8 }
  else if n < 1 ∨ 64 < n then .error { code := 3, off := 12 }
  else walkSecs n 0 64 tot 0 (bs.drop 64)

/-- Step 4: SCRC of a section. -/
def scrcBad (r : RawSec) : Option (Nat × Nat) :=
  if BitVec.ofNat 32 (le32 r.hdr 12) == crc32c (r.hdr.take 12 ++ r.sec.payload) then none else some (4, 12)

/-- Step 5: a section's header, after the one before it. -/
def headBad (prev : Option RawSec) (r : RawSec) : Option (Nat × Nat) :=
  match catalogue r.sec.typ with
  | none => some (5, 0)
  | some (_, sealed', _) =>
    let after := match prev with
      | some q => q.sec.typ < r.sec.typ || (q.sec.typ == r.sec.typ && q.sec.inst < r.sec.inst)
      | none => true
    if !after then some (5, 0)
    else if r.sec.inst > (if r.sec.typ = 0x0C then 7 else 0) then some (5, 2)
    else if r.sec.sflags != b2n sealed' then some (5, 3)
    else if le32 r.hdr 8 != 0 then some (5, 8)
    else none

/-- Step 5 over all sections. -/
def checkHeads (rs : List RawSec) : Option LoadErr :=
  rs.zipIdx.findSome? fun r => (headBad (if r.2 = 0 then none else rs[r.2 - 1]?) r.1).map fun e => secErr rs r.2 e.1 e.2

/-- The fields of the stream header that step 9 judges (R55, R63): FLAGS, the bytes marked 0, and PERSONA. -/
def headRanges (h : List Byte) : List Judged :=
  [jMust 14 (le16 h 14 < 4)] ++ jZero h 18 20 ++ [jMust 28 (le32 h 28 ≤ 5)] ++ jZero h 32 60

/-- Step 9, first pass: TYPE of the EPOCH, then the ranges. -/
def rangesBad (m : Image) (epoch persona : Nat) (r : RawSec) : Option (Nat × Nat) :=
  if r.sec.typ = 0x12 ∧ epoch = 1 then some (0x12, 0)
  else (firstBad (rangesOf m epoch persona r.sec)).map fun j => (j.code, 16 + j.off)

/-- The error of a section that the live image does not carry, found in the merged image (R88). -/
def mergedBad (m : Image) (rs : List RawSec) : Option LoadErr :=
  m.secs.findSome? fun s =>
    if rs.any fun r => r.sec.typ == s.typ then none
    else (firstBad (refsOf m s.typ)).map fun _ => { code := 9, typ := s.typ }

/-- Step 9: both passes over the image's sections; m is the image they are to run in. -/
def checkFields (m : Image) (h : List Byte) (rs : List RawSec) : Option LoadErr :=
  ((firstBad (headRanges h)).map fun j => ({ code := 9, off := j.off } : LoadErr)) <|>
  firstSec rs (rangesBad m (le16 h 4) (le32 h 28)) <|>
  firstSec rs (fun r => (firstBad (refsOf m r.sec.typ)).map fun j => (j.code, 16 + j.off)) <|>
  mergedBad m rs

/-- Steps 7 and 8 (R2, R68). A PART that names no part fails at step 7 (DEDUCED, log entry 63). -/
def checkPart (part : Part) (h : List Byte) (rs : List RawSec) : Option LoadErr :=
  let q := le16 h 16
  if !(q == 0x2440 || q == 0 || (q == 0x2460 && part == .sk2460)) then some { code := 7, off := 16 }
  else if part == .sk2440 then firstSec rs fun r => (firstBad (fusedUses r.sec)).map fun j => (8, 16 + j.off)
  else none

/-- Step 6 of a full load. -/
def checkFull (h : List Byte) (rs : List RawSec) : Option LoadErr :=
  if bitOf (le16 h 14) 0 then some { code := 0x0D, off := 14 }
  else if requiredTypes.all fun t => rs.any fun r => r.sec.typ == t then none
  else some { code := 6 }

/-- What stands for step 6 in a live re-stream (R88). -/
def checkLive (h : List Byte) (rs : List RawSec) : Option LoadErr :=
  if !bitOf (le16 h 14) 0 then some { code := 0x0D, off := 14 }
  else firstSec rs fun r => if r.sec.typ = 0x10 ∨ r.sec.typ = 0x11 then some (0x0D, 0) else none

/-- The whole check of an image: the image itself and the one it is to run as; `base` is the running image of a live
re-stream. -/
def checkImage (part : Part) (base : Option Image) (bs : List Byte) : Except LoadErr (Image × Image) :=
  match checkHead bs with
  | some e => .error e
  | none =>
    match checkLens bs with
    | .error e => .error e
    | .ok rs =>
      let h := bs.take 64
      let img : Image := { hdr := h, secs := rs.map RawSec.sec }
      let m := match base with
        | some b => b.merge img
        | none => img
      let six := if base.isSome then checkLive h rs else checkFull h rs
      match firstSec rs scrcBad <|> checkHeads rs <|> six <|> checkPart part h rs <|> checkFields m h rs with
      | some e => .error e
      | none => .ok (img, m)

end Sys2Proof.Machine
end

