-- ==== Sys2Proof/Machine/Install.lean ====
section
/-! DEFINITION. What a stream sets in the machine when it takes effect (R68 step 14, R88, R90): the fields of class ST of
every section, what each unit keeps, and the power die's settings. -/

namespace Sys2Proof.Machine

/-! ### Axes (R61, MOTION) -/

/-- Field f of axis n in a MOTION payload, as a number and as a flag. -/
def motNat (p : List Byte) (n f : Nat) : Nat := (Config.motionField p n f).toNat
def motBool (p : List Byte) (n f : Nat) : Bool := Config.motionField p n f == 1

/-- Hall settings (R147); CPMM and POLES are AXES fields and stay as they are. -/
def hallOf (p : List Byte) (n : Nat) (c : HallCfg) : HallCfg :=
  { c with hmode := motNat p n 0, hdir := motBool p n 1, hofs := motNat p n 2, spdto := motNat p n 3, invmax := motNat p n 4 }

/-- Motion settings (R176). -/
def motOf (p : List Byte) (n : Nat) (c : MotCfg) : MotCfg :=
  { c with
    vmax := motNat p n 5, scurve := motBool p n 6, acc := motNat p n 7, dec := motNat p n 8, jerk := motNat p n 9
    qdec := motNat p n 10, abase := motNat p n 11, ahold := motNat p n 12, inposw := motNat p n 13, kboost := motNat p n 14
    kforce := motNat p n 15, amax := motNat p n 16, tlead := motNat p n 17, leadmax := motNat p n 18
    nstall := motNat p n 19, vstall := motNat p n 20 }

/-- Homing settings (R176). -/
def homOf (p : List Byte) (n : Nat) : HomCfg :=
  { hseq := motNat p n 21, hceil := motNat p n 22, hspd := motNat p n 23, hoffp := Config.motionField p n 24
    lsstop := motNat p n 25, lsdec := motNat p n 26, htmo := motNat p n 27, hback := motNat p n 28 }

/-- Obstacle settings (R206); EDGEEN and CURTEN come from SAFETY. -/
def obsOf (p : List Byte) (n : Nat) (c : ObsCfg) : ObsCfg :=
  { c with
    oben := motBool p n 29, obeno := motBool p n 30, preden := motBool p n 31, learn := motBool p n 32
    clneg := motBool p n 33, fthr := motNat p n 34, fthro := motNat p n 35, fthrs := motNat p n 36, npre := motNat p n 37
    nclr := motNat p n 38, fconf := motNat p n 39, prelook := motNat p n 40, fmaxc := motNat p n 41, fmaxo := motNat p n 42
    fmaxs := motNat p n 43, fbrk := motNat p n 44, fpeak := motNat p n 45, sealz := motNat p n 46, sealgap := motNat p n 47
    vseal := motNat p n 48, edgegap := motNat p n 49, closepos := Config.motionField p n 50 }

/-- Mass, learning, snowplough and Schuss settings (R206). -/
def schussCfgOf (p : List Byte) (n : Nat) : SnowCfg :=
  { mleaf := motNat p n 51, dragmax := motNat p n 52, lrate := motNat p n 53, dstep := motNat p n 54
    curtgap := motNat p n 55, xspan := motNat p n 56, spdmin := motNat p n 57, spdmax := motNat p n 58
    sprel := motNat p n 59, spvr := motNat p n 60, stagel := motNat p n 61, passmax := motNat p n 62, prio := motNat p n 63
    kh := #v[motNat p n 64, motNat p n 65, motNat p n 66, motNat p n 67]
    stepmin := motNat p n 68, kplat := motNat p n 69, stepback := motNat p n 70, vedgef := motNat p n 71 }

/-- A MOTION record seeds an axis, its drag map with it (R90, R184). -/
def AxisCfg.motion (c : AxisCfg) (p : List Byte) (n : Nat) : AxisCfg :=
  { c with hall := hallOf p n c.hall, mot := motOf p n c.mot, hom := homOf p n, obs := obsOf p n c.obs, snow := schussCfgOf p n
           dmap := motionMap p n }

/-- The AXES record seeds an axis (R61). -/
def AxisCfg.axes (c : AxisCfg) (a : AxisRec) : AxisCfg :=
  { c with
    defd := true, ring := a.ring, slot := a.slot, isStep := a.role == 2, stepper := a.motor == 1, doorway := a.doorway
    side := a.side, table := a.table
    hall := { c.hall with cpmm := a.cpmm, poles := a.poles }
    mot := { c.mot with keep := a.keep == 1 } }

/-- EDGEEN and CURTEN of axis n (R206). -/
def AxisCfg.safety (c : AxisCfg) (saf : List Byte) (n : Nat) : AxisCfg :=
  { c with obs := { c.obs with
    edgeen := (safeFns saf).any fun f => f.2.typ == 5 && f.2.target == n
    curten := (safeFns saf).any fun f => f.2.typ == 4 && bitOf f.2.dmask c.doorway } }

/-- Axis n as an image sets it, from what it was; `ax` and `mo` say that AXES and MOTION are among the new sections. -/
def axisCfgOf (i : Image) (ax mo : Bool) (n : Nat) (c : AxisCfg) : AxisCfg :=
  match i.axisRec n with
  | none => {}
  | some a =>
    let c := if ax then c.axes a else c
    let c := if mo then c.motion (i.sec 0x0B) n else c
    c.safety (i.sec 0x10) n

/-- The axis keeps its LN fields (R149). -/
def keepsAxis (i j : Image) (n : Nat) : Bool :=
  i.axisBytes n == j.axisBytes n &&
    Config.motionField (i.sec 0x0B) n 0 == Config.motionField (j.sec 0x0B) n 0 &&
    Config.motionField (i.sec 0x0B) n 1 == Config.motionField (j.sec 0x0B) n 1

/-! ### Doorways (R228, R229) -/

/-- Doorway d as DWAY and AXES set it. -/
def dwayCfgOf (i : Image) (d : Nat) : DwayCfg :=
  match i.dwayOff d with
  | none => {}
  | some o =>
    let p := i.sec 10
    let b := fun (k : Nat) => byteAt p (o + k)
    let h := fun (k : Nat) => le16 p (o + k)
    let ax := fun (role side : Nat) =>
      (i.axisRecs.find? fun a => a.doorway == d && a.role == role && a.side == side).map AxisRec.axis
    { defd := true, right := b 1 == 1, paired := bitOf (b 2) 0, autoopen := bitOf (b 2) 1, btnsrc := bitOf (b 2) 2
      chime := b 3, leaf0 := ax 1 0, leaf1 := ax 1 1, stepax := ax 2 0, lchLamp := b 4, lchChime := b 5, lchLock := b 6
      warn := h 8, rwarn := h 10, dwell := h 12, cltgt := h 14, istart := h 16, reopmax := b 18, reopmode := b 19 == 1
      reopd := h 20, lockto := b 22, lockrty := b 23
      open0 := sgn 32 (le32 p (o + 24)), open1 := sgn 32 (le32 p (o + 28)), stepOut := sgn 32 (le32 p (o + 32)) }

/-- The axes of a doorway, which AXES fixes. -/
def DwayCfg.axesOf (c : DwayCfg) (i : Image) (d : Nat) : DwayCfg :=
  let n := dwayCfgOf i d
  { c with leaf0 := n.leaf0, leaf1 := n.leaf1, stepax := n.stepax }

/-- The car settings of DWAY. -/
def carCfgOf (i : Image) : CarCfg :=
  let p := i.sec 10
  { cap := le16 p 4, spacing := le16 p 6, supg := byteAt p 8, iqui := byteAt p 9, disto := byteAt p 10 }

/-- A doorway's block after a full load: it starts anew, its counts and flags as they were (R219). -/
def DwaySt.anew (d : DwaySt) : DwaySt := { flags := d.flags }

/-- The slalom schedule with no move under way. -/
def Slalom.anew (s : Slalom) : Slalom := { s with budgets := [], granted := [], alloc := 0, waiting := 0 }

/-! ### Load channels (R413, R430, R432) -/

/-- The leader of channel k's gang. -/
def leaderOf (i : Image) (k : Nat) : Nat :=
  if i.isLeader k then k else ((List.range k).find? fun j => i.isLeader j && k < j + i.gang j).getD k

/-- The doorways that name channel k. -/
def doorsNaming (i : Image) (k : Nat) : List Nat :=
  i.doorways.filter fun d => (dwayCfgOf i d).lchLamp == k || (dwayCfgOf i d).lchChime == k || (dwayCfgOf i d).lchLock == k

/-- Channel k as LOADG sets it. -/
def loadCfgOf (i : Image) (k : Nat) : LoadCfg :=
  if !bitOf i.chen k then {}
  else
    let f := i.loadByte k 6
    { enabled := true, gang := i.gang k, leader := leaderOf i k, ilatch := i.loadByte k 2, retry := i.loadByte k 3 % 16
      rtint := i.loadByte k 4, pwmf := i.loadByte k 7, mode := i.loadByte k 5, olen := bitOf f 0, offdg := bitOf f 1
      doors := doorsNaming i k }

/-- Chime record c of LOADG. -/
def chimeOf (i : Image) (c : Nat) : ChimeRec :=
  let p := i.sec 8
  let o := 272 + 16 * c
  { f1 := le16 p o, f2 := le16 p (o + 2), f3 := le16 p (o + 4), d1 := byteAt p (o + 6), d2 := byteAt p (o + 7)
    d3 := byteAt p (o + 8), pause := byteAt p (o + 9), cduty := byteAt p (o + 10) }

/-- A channel whose record changed: off through its clamp, and retries, events and flags reset from the new record (R430);
LOAD_CTL is of class MR and keeps its content, and the junction sensor reads on. -/
def LoadCh.fresh (c : LoadCh) (n : LoadCfg) : LoadCh :=
  { on := c.on, duty := c.duty, tj := c.tj, retleft := n.retry, clamped := c.clamped || c.onNow }

/-- Image j replaces i in the power die: `lo` says that LOADG is among the new sections, `dw` that DWAY is. -/
def PowerDie.install (q : PowerDie) (i j : Image) (lo dw : Bool) : PowerDie :=
  let q := if lo then
      { q with
        cfg := Vector.ofFn fun (k : Fin 32) => loadCfgOf j k.val
        chimes := Vector.ofFn fun (c : Fin 4) => chimeOf j c.val
        chs := q.chs.mapFinIdx fun k c _ => if i.loadRec k == j.loadRec k then c else c.fresh (loadCfgOf j k) }
    else q
  if lo || dw then { q with cfg := q.cfg.mapFinIdx fun k c _ => if c.enabled then { c with doors := doorsNaming j k } else c }
  else q

/-! ### A lane takes a stream -/

/-- A section of a type is among those that take effect. -/
def Image.carries (i : Image) (typ : Nat) : Bool := i.secs.any fun s => s.typ == typ

/-- The fields of class ST (R90): `part` holds the sections that replace, the whole image at a full load. -/
def LaneST.install (t : LaneST) (j part : Image) (full : Bool) : LaneST :=
  let ax := part.carries 2
  let mo := part.carries 11
  let dw := part.carries 10
  { t with
    run := some j
    livecnt := if full then 0 else satInc 0xFFFF t.livecnt
    slackmin := if part.carries 3 then j.slackmin else t.slackmin
    axes := t.axes.mapFinIdx fun n c _ => axisCfgOf j ax mo n c
    dways := t.dways.mapFinIdx fun d c _ => if dw then dwayCfgOf j d else c.axesOf j d
    car := if dw then carCfgOf j else t.car
    ctxrun := if part.carries 4 then Vector.replicate 256 {} else t.ctxrun
    tdec := if part.carries 14 then j.ledTdec else t.tdec
    trig := if part.carries 14 then j.ledTrig else t.trig }

/-- The fields of class LN that a new structure changes: axes (R149, R195), doorways (R219), the schedule. `i` is the image
that ran. -/
def LaneLN.install (x : LaneLN) (i : Option Image) (j part : Image) (full : Bool) : LaneLN :=
  let touched := full || part.carries 2 || part.carries 11
  let x := if touched then (List.range 24).foldl (fun x n => x.squashAll n) x else x
  let keeps := fun (n : Nat) => match i with
    | some i => !touched || keepsAxis i j n
    | none => false
  let x := { x with
    axes := x.axes.mapFinIdx fun n a _ => if keeps n then a else {}
    hyps := x.hyps.mapFinIdx fun n h _ => if keeps n then h else Vector.replicate 4 {}
    dways := x.dways.mapFinIdx fun d y _ =>
      if (j.dwayOff d).isNone then {}
      else if full || (match i with
        | some i => (i.dwayOff d).isNone
        | none => true) then { y with cur := y.cur.anew, work := none, acc := none }
      else y }
  if full then { x with slalom := x.slalom.anew, slalomWork := none, slalomAcc := none, red := { x.red with stale := false } } else x

/-- The kernel parameter RAM and the MMU tables in memory (R347, R349). -/
def LaneKeep.install (k : LaneKeep) (j part : Image) : LaneKeep :=
  let m := if part.carries 0x0C then Memory.write k.mem kparmBase j.kparm else k.mem
  { k with mem := if part.carries 5 then Memory.write m 0x00180000 (j.sec 5) else m }

/-- Image j takes effect on lane l; a change of FORMAT sets FMTBASE (R453), one of MMU acts on apertures and channels. -/
def State.installLane (s : State) (l : LaneId) (j part : Image) (full : Bool) : State :=
  let i := (s.lane l).st.run
  let s := s.modLane l fun x =>
    let fmt := match i with
      | some i => i.ledFormat != j.ledFormat
      | none => false
    let kp := x.keep.install j part
    { x with
      st := x.st.install j part full
      ln := x.ln.install i j part full
      keep := if fmt then { kp with fmtbase := x.ln.ledg.nextseq } else kp }
  match i with
  | some i => if part.carries 5 then s.remap l i j else s
  | none => s

/-- Every enabled ring of lane l takes the new configuration (R72, R249): in full where it did not run, by CONFIG and ARM
where it did, not at all where GLIDE is unchanged or the ring was brought up ahead; a ring no longer enabled goes off. -/
def State.installRings (s : State) (l : LaneId) (i : Option Image) (j : Image) : State :=
  let same := match i with
    | some i => i.sec 9 == j.sec 9
    | none => false
  if same then s
  else (List.range 4).foldl (fun s r =>
    if ((s.lane l).ring r).ahead then s.modRing l r fun x => { x with ahead := false }
    else if j.ringen r then
      let ran := match i with
        | some i => i.ringen r && ((s.lane l).ring r).st.tracked
        | none => false
      s.ringStart l r (!ran) false
    else s.modRing l r fun x => { x with st := .off, built := none, svc := [], bu := {} }) s

/-- The lanes that build the shadow structure with lane l (R70): both, unless the other cannot be reached. -/
def State.reached (s : State) (l : LaneId) : List LaneId := if s.linkUp l then [l, l.other] else [l]

end Sys2Proof.Machine
end

