-- ==== Sys2Proof/Machine/Load.lean ====
section
/-! DEFINITION. Loading a stream, the configuration store, and the live re-stream (R66 to R71, R87 to R92). -/

namespace Sys2Proof.Machine

/-! ### Outcomes -/

/-- STRM fields of lane l changed. -/
def State.modStrm (s : State) (l : LaneId) (f : StrmLN → StrmLN) : State := s.modLN l fun x => { x with strm := f x.strm }

/-- The first failure as the registers show it (R75). -/
def StrmLN.fail (x : StrmLN) (e : LoadErr) : StrmLN :=
  { x with code := e.code, sect := e.sect, typ := e.typ, off := e.off, lenerr := x.lenerr || e.code == 3 }

/-- The state between loads: running, or rejected where no stream runs. After a reload that failed at the plug the running
stream runs on (R69 over R95: DEDUCED, log entry 63). -/
def Lane.restState (x : Lane) : StrmState := if x.running then .running else .rejected

/-- No shadow structure. -/
def StrmLN.noShadow (x : StrmLN) : StrmLN := { x with shadow := none, partImg := none, built := false }

/-- A full load of lane l ends with an error; the running stream runs on (R69, R71). -/
def State.loadFail (s : State) (l : LaneId) (e : LoadErr) : State :=
  let s := (s.reached l).foldl (fun s k => s.modLane k fun x =>
    { x with ln := { x.ln with strm := { x.ln.strm.noShadow with st := x.restState } } }) s
  let s := s.modStrm l fun x => { x.fail e with done := true }
  (s.modPort fun p => { p with busyLoad := false }).attn l 3

/-- A load refused by its conditions: it ends at once, and nothing else changes (R67). -/
def State.loadRefuse (s : State) (l : LaneId) : State :=
  (s.modStrm l fun x => { x.fail { code := 0x0E } with done := true }).attn l 3

/-- A lane holds a live re-stream in STATE 4 or 5. -/
def StrmLN.isLive (x : StrmLN) : Bool := x.st == .liveStaging || x.st == .liveReady

/-- What the rings did for a shadow structure that is dropped ends: table bytes that wait for service windows are no longer
sent, and a ring brought up ahead goes off. -/
def State.noTables (s : State) (l : LaneId) : State :=
  (List.range 4).foldl (fun s r =>
    if ((s.lane l).ring r).ahead then
      let s := s.modRing l r fun x => { x with st := .off, buerr := 0, ahead := false, built := none, svc := [], bu := {} }
      if s.owns l then s.modHw r fun h => { h with last := none } else s
    else s.modRing l r fun x => { x with svc := [] }) s

/-- A live re-stream is discarded whole, in both lanes (R89, R91). -/
def State.liveDiscard (s : State) (code : Nat) : State :=
  [LaneId.a, LaneId.b].foldl (fun s l =>
    if (s.lane l).ln.strm.isLive then
      ((s.noTables l).modStrm l fun x => { (x.noShadow.fail { code := code }) with st := .running, liveend := true }).attn l 3
    else s) s

/-- A full load whose lane loses the token or is reset (R68 step 13, R71, R76): where lane m, which goes on, has the new
structure running it ends there; else it is aborted with 10h. -/
def State.loadAbort (s : State) (m : LaneId) : State :=
  let y := (s.lane m).ln.strm
  if !s.port.busyLoad || (y.st == .building && !y.built) then s
  else
    let s := [LaneId.a, LaneId.b].foldl (fun s k =>
      if (s.lane k).ln.strm.st = .building then
        (s.noTables k).modLane k fun x => { x with ln := { x.ln with strm := { x.ln.strm.noShadow with st := x.restState } } }
      else s) s
    let s := s.modStrm m fun x => { x.fail { code := 0x10 } with done := true }
    (s.modPort fun p => { p with busyLoad := false }).attn m 3

/-! ### Conditions -/

/-- All doorways are closed and locked and the zero-speed input is true (R67, R88). -/
def Lane.doorsShut (x : Lane) : Bool :=
  x.ln.rpt.rep.zspd && x.img.doorways.all fun d => (x.dway d).cur.st == .locked

/-- Every axis is stationary. -/
def Lane.axesRest (x : Lane) : Bool :=
  (List.range 24).all fun n => !x.hasAxis n ||
    ((x.axis n).cur.prof.phase == .idle && (x.axis n).cur.hall.still)

/-- A live commit may be made (R88, R342): judged at the end of a tick. -/
def Lane.mayCommit (x : Lane) : Bool := x.doorsShut && x.axesRest && 80 ≤ x.ln.rpt.same

/-- A change of FORMAT that R453 refuses. -/
def Lane.formatBlocked (x : Lane) (j : Image) : Bool :=
  match x.st.run with
  | some i => i.ledFormat != j.ledFormat && x.ln.ledg.upseq != x.ln.ledg.nextseq
  | none => false

/-! ### Full load (R67, R68) -/

/-- The referee's own check value, over the bytes as they arrive there (R77). -/
def Image.refChkv (j : Image) (err : LineErr) : Word := crc32c (applyErr j.sealedBytes err)

/-- Steps 10 to 12: the check values of the two technologies must agree; with a seal record in force the value must equal the
record's, and the plug the fold. -/
def State.sealBad (s : State) (j : Image) (refErr : LineErr) : Option LoadErr :=
  if j.refChkv refErr != j.chkv then some { code := 0x0A }
  else if s.sealed then
    if j.chkv != s.keep.sealRec.chkv then some { code := 0x0B }
    else if !s.plugIs (foldOf j.chkv) then some { code := 0x0C }
    else none
  else none

/-- What keeps an image that passed step 9 from loading. -/
def State.loadBad (s : State) (l : LaneId) (j : Image) (refErr : LineErr) : Option LoadErr :=
  if (s.lane l).formatBlocked j then some { code := 0x0E } else s.sealBad j refErr

/-- Step 13 on the rings of lane l (R249): table bytes for the inactive banks of the rings that keep running, to be sent by
service windows, and the full bring-up of a ring that the running stream does not use. -/
def State.pushTables (s : State) (l : LaneId) (j : Image) : State :=
  match (s.lane l).st.run with
  | none => s
  | some i =>
    if i.sec 9 == j.sec 9 then s
    else (List.range 4).foldl (fun s r =>
      if i.ringen r && j.ringen r && ((s.lane l).ring r).st.tracked then
        s.modRing l r fun x => { x with svc := j.tableBlks r 64 }
      else if j.ringen r && !i.ringen r then
        (s.modRing l r fun x => { x with ahead := true }).ringStart l r true false
      else s) s

/-- The rings have done their part of step 13: no table byte waits, and no ring is being brought up ahead. -/
def Lane.ringsReady (x : Lane) : Bool :=
  (List.range 4).all fun r => (x.ring r).svc.isEmpty && !((x.ring r).ahead && (x.ring r).st == .bringUp)

/-- The bytes of a load judged: the error, or the shadow structure in both lanes and STATE 2 (R68 to R71). -/
def State.loadBytes (s : State) (l : LaneId) (bs : List Byte) (refErr : LineErr) : State :=
  match checkImage s.part none bs with
  | .error e => s.loadFail l e
  | .ok (j, _) =>
    let bad := s.loadBad l j refErr
    let s := s.readPlug
    match bad with
    | some e => s.loadFail l e
    | none =>
      let s := (s.reached l).foldl (fun s k => s.modStrm k fun x =>
        { x with st := .building, shadow := some j, partImg := some j, built := true }) s
      ((s.reached l).foldl (fun s k => s.pushTables k j) s).modPort fun p => { p with busyLoad := true }

/-- Where a load may begin (R67). -/
def Lane.mayLoad (x : Lane) : Bool := !x.running || x.doorsShut

/-- STRM_ERR shows no failure. -/
def StrmLN.noErr (x : StrmLN) : StrmLN := { x with code := 0, sect := 0, typ := 0, off := 0 }

/-- LOAD = 1 (R67, R71, R91): ignored while a load holds HBUSY high; it discards a live re-stream, whose 10h then stands as the
first failure unless the load itself fails. -/
def State.load (s : State) (l : LaneId) (store : Bool) (refErr : LineErr) : State :=
  if s.port.busyLoad || !s.owns l then s
  else
    let s := s.modMR l fun m => { m with store := store }
    let live := (s.lane l).ln.strm.isLive
    let s := s.liveDiscard 0x10
    let ok := (s.lane l).mayLoad
    let s := if live then s else s.modStrm l StrmLN.noErr
    if ok then s.loadBytes l (Memory.read (s.lane l).keep.mem stagingBase 524288) refErr
    else if live then (s.modStrm l fun x => { x with done := true }).attn l 3
    else s.loadRefuse l

/-- LOAD; `refErr` is what the referee's private path did to the sealed bytes (R77). -/
def execLoad (l : LaneId) (store : Bool) (refErr : LineErr) (s : State) : Host.Outcome State Fault Refusal :=
  .next (s.load l store refErr)

/-- The valid slot of the higher sequence number (R66). -/
def ModKeep.best (k : ModKeep) : Option StoreSlot :=
  if k.slot0.valid && (!k.slot1.valid || k.slot1.seq < k.slot0.seq) then some k.slot0
  else if k.slot1.valid then some k.slot1 else none

/-- STREAM_AUTOLOAD (R66): at the start of the lane that holds the token, before any load was tried. -/
def State.autoload (s : State) (refErr : LineErr) : State :=
  let l := s.ref.owner
  let x := s.lane l
  if s.ref.token && x.ln.on && x.ln.strm.st == .empty && !x.running && !s.port.busyLoad then
    match s.keep.best with
    | some q => if bitOf (le16 q.bytes 14) 1 then s.loadBytes l q.bytes refErr else s
    | none => s
  else s

/-- STREAM_AUTOLOAD. -/
def execStreamAutoload (refErr : LineErr) (s : State) : Host.Outcome State Fault Refusal := .next (s.autoload refErr)

/-! ### Taking effect (R68 step 14, R71, R72) -/

/-- The shadow structure of every lane that holds one replaces what runs there. -/
def State.swapLanes (s : State) (full : Bool) : State :=
  [LaneId.a, LaneId.b].foldl (fun s l =>
    match (s.lane l).ln.strm.shadow with
    | none => s
    | some j =>
      let part := (s.lane l).ln.strm.partImg.getD j
      let i := (s.lane l).st.run
      let s := s.installLane l j part full
      let s := if part.carries 9 then s.installRings l i j else s
      s.modStrm l StrmLN.noShadow) s

/-- Step 13 has ended for lane l: the structure is built, every table byte in its inactive bank, every further ring brought
up. -/
def Lane.ready (x : Lane) : Bool :=
  x.ln.strm.st == .building && x.ln.strm.built && x.ringsReady

/-- Step 14: the structure takes effect in the lanes, the safety path (R286) and the power die (R430). A lane whose fenced
Blades leave too few for it declares itself degraded (R467). -/
def State.activate (s : State) (l : LaneId) : State :=
  if (s.lane l).ready then
    match (s.lane l).ln.strm.shadow with
    | none => s
    | some j =>
      let i := (s.lane l).img
      let s := s.swapLanes true
      let s := s.modPd (·.install i j true true)
      let s := s.modSc (·.load j)
      [LaneId.a, LaneId.b].foldl (fun s k =>
        let x := s.lane k
        if x.running && x.freeBlades < 64 && x.bOverload then s.degrade k 2 else s) s
  else s

/-- The load ends when no ring is in bring-up (R71): STATE 3, DONE, HATTN, and HBUSY falls. -/
def State.loadEnd (s : State) (l : LaneId) : State :=
  let x := s.lane l
  if x.ln.strm.st == .building && !x.ln.strm.built && x.running &&
      (List.range 4).all (fun r => (x.ring r).st != .bringUp) then
    let s := (s.reached l).foldl (fun s k => s.modStrm k fun y => { y with st := .running }) s
    let s := s.modStrm l fun y => { y with done := true, storeDue := x.mr.store }
    (s.modPort fun p => { p with busyLoad := false }).attn l 3
  else s

/-- STREAM_ACTIVATE. -/
def execStreamActivate (l : LaneId) (s : State) : Host.Outcome State Fault Refusal :=
  .next (if s.owns l then (s.activate l).loadEnd l else s)

/-! ### The configuration store (R66, R92) -/

/-- Slot 0 is the one to write: the older, or the one that is not valid. -/
def ModKeep.writesFirst (k : ModKeep) : Bool :=
  !k.slot0.valid || (k.slot1.valid && k.slot0.seq < k.slot1.seq)

/-- The running image is written to a slot: invalid first, valid again with its trailer when it reads back good; otherwise
error 11h, and the load stands (R66, R76). -/
def State.storeWrite (s : State) (l : LaneId) (good : Bool) : State :=
  if (s.lane l).ln.strm.storeDue then
    let s := s.modStrm l fun x => { x with storeDue := false }
    let bs := (s.img l).bytes
    let k := s.keep
    let other := if k.writesFirst then k.slot1 else k.slot0
    let slot : StoreSlot := { bytes := bs, crc := crc32c bs, seq := (if other.valid then other.seq else 0) + 1, valid := good }
    let s := s.modModKeep fun k => if k.writesFirst then { k with slot0 := slot } else { k with slot1 := slot }
    if good then s.modMR l fun m => { m with stored := true }
    else s.modStrm l fun x => x.fail { code := 0x11 }
  else s

/-- CONFIG_STORE_WRITE. -/
def execConfigStoreWrite (l : LaneId) (good : Bool) (s : State) : Host.Outcome State Fault Refusal :=
  .next (s.storeWrite l good)

/-! ### Live re-stream (R87 to R92) -/

/-- LIVE = 1: the image is judged against what runs; a good one goes to STATE 4 in both lanes (R88). -/
def State.live (s : State) (l : LaneId) : State :=
  let x := s.lane l
  if s.port.busyLoad || !s.owns l then s
  else if x.ln.strm.isLive then
    s.modStrm l fun y => y.fail { code := 0x0E }
  else
    let stop := fun (s : State) (e : LoadErr) => (s.modStrm l fun y => { y.fail e with liveend := true }).attn l 3
    match x.st.run with
    | none => stop s { code := 0x0E }
    | some i =>
      let s := s.modStrm l fun y => { y with code := 0, sect := 0, typ := 0, off := 0 }
      match checkImage s.part (some i) (Memory.read x.keep.mem stagingBase 524288) with
      | .error e => stop s e
      | .ok (p, m) =>
        if x.formatBlocked m then stop s { code := 0x0E }
        else
          let s := (s.reached l).foldl (fun s k =>
            if (s.lane k).running then s.modStrm k fun y =>
              { y with st := .liveStaging, shadow := some m, partImg := some p, built := false, liveFrom := s.lines.now }
            else s) s
          (s.reached l).foldl (fun s k => s.pushTables k m) s

/-- LIVE. -/
def execLive (l : LaneId) (s : State) : Host.Outcome State Fault Refusal := .next (s.live l)

/-- SHADOW_BUILD (R88, R124, R249): the shadow structure of lane l is built, when a Blade of it is idle and the table bytes
are in their banks. -/
def execShadowBuild (l : LaneId) (idle : Bool) (s : State) : Host.Outcome State Fault Refusal :=
  .next (if idle && (s.lane l).ringsReady && (s.lane l).ln.strm.st == .liveStaging then s.modStrm l fun x => { x with st := .liveReady, built := true }
    else s)

/-- The commit is due at the next start gate: the active lane is ready, the other does not hold it up, and the conditions of
R88 hold. -/
def State.commitDue (s : State) : Bool :=
  let l := s.ref.owner
  let x := s.lane l
  let y := s.lane l.other
  s.ref.token && x.ln.strm.st == .liveReady && x.mayCommit &&
    !(y.ln.strm.st == .liveStaging && y.ln.role == .sync)

/-- A standby that is not in SYNC drops its part of a live re-stream at the commit: it receives the merged stream when it
resynchronises (R91). -/
def State.dropUnsync (s : State) (l : LaneId) : State :=
  if (s.lane l).ln.strm.isLive && (s.lane l).ln.role != .sync then
    s.modStrm l fun x => { x.noShadow with st := .running }
  else s

/-- The commit (R88, R90, R92); a change of FORMAT that is no longer allowed discards it (R453). -/
def State.liveCommit (s : State) : State :=
  if s.commitDue then
    let l := s.ref.owner
    let x := s.lane l
    match x.ln.strm.shadow with
    | none => s
    | some j =>
      if x.formatBlocked j then s.liveDiscard 0x0E
      else
        let part := x.ln.strm.partImg.getD j
        let s := s.modPd (·.install x.img j (part.carries 8) (part.carries 10))
        let s := (s.dropUnsync l.other).swapLanes false
        [LaneId.a, LaneId.b].foldl (fun s k =>
          if (s.lane k).ln.strm.isLive then
            (s.modStrm k fun y => { y with st := .running, liveend := true, storeDue := k == l && x.mr.store }).attn k 3
          else s) s
  else s

/-- LIVE_COMMIT. -/
def execLiveCommit (s : State) : Host.Outcome State Fault Refusal := .next s.liveCommit

/-- LIVE_TIMEOUT (R89): the commit was not reached within STRM_LIVETO. -/
def State.liveTimeout (s : State) (l : LaneId) : State :=
  let x := s.lane l
  if x.ln.strm.isLive = true ∧
      x.mr.liveto * 100000000 ≤ (s.lines.now - x.ln.strm.liveFrom).toNat then s.liveDiscard 0x0F
  else s

/-- LIVE_TIMEOUT. -/
def execLiveTimeout (l : LaneId) (s : State) : Host.Outcome State Fault Refusal :=
  .next (if s.owns l then s.liveTimeout l else s)

/-- ABORT (R74, R91): discards a live re-stream in STATE 4 or 5; ignored while a load holds HBUSY high (R71). -/
def execAbort (l : LaneId) (s : State) : Host.Outcome State Fault Refusal :=
  .next (if s.port.busyLoad || !s.owns l then s else s.liveDiscard 0x10)

/-! ### The STRM block (R73 to R75) -/

/-- STATE of STRM_STATUS. -/
def StrmState.code : StrmState → Nat
  | .empty => 0
  | .checking => 1
  | .building => 2
  | .running => 3
  | .liveStaging => 4
  | .liveReady => 5
  | .rejected => 6

/-- Where word w of the selected staging page lies in memory (R75). -/
def Lane.stagingAt (x : Lane) (w : Nat) : Nat := stagingBase + 1024 * x.ln.strm.page + 4 * w

/-- A register of STRM, by offset. -/
def State.readStrm (s : State) (l : LaneId) (o : Nat) : Nat :=
  let x := s.lane l
  let t := x.ln.strm
  let r := s.keep.sealRec
  let chk := if x.running then x.img.chkv else 0
  if 0x400 ≤ o ∧ o < 0x800 then leN (Memory.read x.keep.mem (x.stagingAt ((o - 0x400) / 4)) 4) 0 4
  else match o with
  | 0x00 => pack [(8, 2), (8, 1)]
  | 0x04 => pack [(3, 0), (1, b2n x.mr.store)]
  | 0x08 => pack [(4, t.st.code), (1, b2n t.done), (1, b2n t.liveend), (1, b2n x.mr.plugchg), (1, b2n x.mr.stored), (1, b2n t.lenerr)]
  | 0x0C => pack [(8, t.code), (6, t.sect), (2, 0), (16, t.typ)]
  | 0x10 => pack [(19, t.off)]
  | 0x14 => pack [(9, t.page)]
  | 0x18 => pack [(6, x.mr.liveto)]
  | 0x1C => if x.running then pack [(16, x.img.epoch), (16, x.st.livecnt)] else 0
  | 0x20 => if x.running then x.img.crc.toNat else 0
  | 0x24 => chk.toNat
  | 0x28 => pack [(16, s.keep.plug.toNat), (16, if x.running then (foldOf chk).toNat else 0)]
  | 0x2C => r.chkv.toNat
  | 0x30 => pack [(1, b2n s.sealed), (1, b2n r.wdrawn), (14, 0), (16, r.count)]
  | _ => 0

/-- A write of STRM, by offset (R74, R75); LOAD, LIVE and ABORT act as commands of their own rows, after the writes of their
gate. -/
def State.writeStrm (s : State) (l : LaneId) (o : Nat) (w : Word) : State :=
  let n := w.toNat
  if 0x400 ≤ o ∧ o < 0x800 then
    s.modKeep l fun k => { k with mem := Memory.write k.mem ((s.lane l).stagingAt ((o - 0x400) / 4)) (toLE 4 n) }
  else match o with
  | 0x04 => if s.port.busyLoad then s else s.modMR l fun m => { m with store := bitOf n 3 }
  | 0x14 => s.modStrm l fun t => { t with page := n % 512 }
  | 0x18 => if 1 ≤ n % 64 ∧ n % 64 ≤ 60 then s.modMR l fun m => { m with liveto := n % 64 } else s
  | _ => s

/-- The W1C flags of STRM_STATUS. -/
def State.clearStrm (s : State) (l : LaneId) (o n : Nat) : State :=
  if o = 0x08 then
    let s := s.modStrm l fun t => { t with
      done := t.done && !bitOf n 4, liveend := t.liveend && !bitOf n 5, lenerr := t.lenerr && !bitOf n 8 }
    s.modMR l fun m => { m with plugchg := m.plugchg && !bitOf n 6, stored := m.stored && !bitOf n 7 }
  else s

/-- The commands of a write of STRM_CTL: LOAD and LIVE together start neither; ABORT acts beside them (DEDUCED, log entry
63). -/
def State.commandStrm (s : State) (l : LaneId) (w : Word) : State :=
  let n := w.toNat
  if s.port.busyLoad then s
  else
    let s := if bitOf n 2 ∧ s.owns l then s.liveDiscard 0x10 else s
    if bitOf n 0 && bitOf n 1 then s
    else if bitOf n 0 then s.load l (bitOf n 3) []
    else if bitOf n 1 then s.live l
    else s

end Sys2Proof.Machine
end

