-- ==== Sys2Proof/Machine/LoadCh.lean ====
section
/-! DEFINITION. The load channels of the power die (chapter 14): commands, protection, retries, diagnostics, registers. Times
are in ticks (log entry 15): 400 to 10 ms. -/

namespace Sys2Proof.Machine

/-- Channel k, its settings, and its leader. -/
def PowerDie.ch (q : PowerDie) (k : Nat) : LoadCh := vget q.chs {} k
def PowerDie.cf (q : PowerDie) (k : Nat) : LoadCfg := vget q.cfg {} k
def PowerDie.grp (q : PowerDie) (k : Nat) : LoadGrp := vget q.grps {} (k / 8)
def PowerDie.lead (q : PowerDie) (k : Nat) : Nat := (q.cf k).leader

/-- Channel k, or group g, changed. -/
def PowerDie.modCh (q : PowerDie) (k : Nat) (f : LoadCh → LoadCh) : PowerDie := { q with chs := vmod q.chs k f }
def PowerDie.modCf (q : PowerDie) (k : Nat) (f : LoadCfg → LoadCfg) : PowerDie := { q with cfg := vmod q.cfg k f }
def PowerDie.modGrp (q : PowerDie) (g : Nat) (f : LoadGrp → LoadGrp) : PowerDie := { q with grps := vmod q.grps g f }

/-- Channel k is an enabled leader. -/
def LoadCfg.leads (c : LoadCfg) : Bool := c.enabled && c.gang != 0

/-- The channels of the gang that k leads. -/
def PowerDie.gangOf (q : PowerDie) (k : Nat) : List Nat := (List.range (q.cf k).gang).map fun j => k + j

/-! ### Turning on and off (R417, R418, R426, R427) -/

/-- The gang is turned off; an inductive load is absorbed by the clamps (R417). -/
def LoadCh.turnOff (c : LoadCh) : LoadCh :=
  { c with onNow := false, clamped := c.clamped || c.onNow, tone := 0, toneAge := 0, isense := 0, isum := 0, limit := false,
           offAge := if c.onNow then 0 else c.offAge }

/-- A command that lets the gang conduct: on, and in PWM with a duty above 0 (R421). -/
def LoadCh.wants (c : LoadCh) (f : LoadCfg) : Bool := c.cmdOn && (f.mode != 1 || c.cmdDuty != 0)

/-- The gang conducts from now on; PWM begins a period and chime begins at tone 1. -/
def LoadCh.turnOn (c : LoadCh) (f : LoadCfg) : LoadCh :=
  if c.onNow then c
  else { c with onNow := true, clamped := false, hold := .none, left := none, dutyUse := c.cmdDuty, pwmfUse := f.pwmf
                tone := if f.mode = 2 then 1 else 0, toneAge := 0 }

/-- A gang that is commanded on goes on when it may (R426), stays off in STATE 3 when it needs a restart without a retry
left (R427). -/
def LoadCh.tryStart (c : LoadCh) (f : LoadCfg) (up : Bool) : LoadCh :=
  if c.onNow || c.tlatch || c.latched || !c.wants f then c
  else match c.hold with
    | .none => if up then c.turnOn f else c
    | .thermal =>
      if c.retleft = 0 then { c with latched := true }
      else if up then c.turnOn f else c
    | .latchOff =>
      if c.retleft = 0 then { c with latched := true, left := none }
      else if c.left == some 0 && up then { c.turnOn f with retleft := c.retleft - 1 } else c

/-- The command of this tick (R419, R429). -/
def LoadCh.command (c : LoadCh) (f : LoadCfg) (up on : Bool) (duty : Nat) : LoadCh :=
  let c := { c with cmdOn := on, cmdDuty := duty }
  if !on then { c.turnOff with hold := .none, left := none }
  else if c.onNow && f.mode == 1 && duty == 0 then c
  else c.tryStart f up

/-- STATE (R428). -/
def LoadCh.state (c : LoadCh) (f : LoadCfg) (guv : Bool) : Nat :=
  if !f.enabled then 0
  else if f.gang = 0 then 6
  else if guv then 5
  else if c.latched then 3
  else if c.onNow then 1
  else if !c.cmdOn then 0
  else if c.hold == .latchOff then 2
  else if c.tlatch then 4
  else 0

/-- STATE of channel k; a member shows 6. -/
def PowerDie.state (q : PowerDie) (k : Nat) : Nat := (q.ch k).state (q.cf k) (q.grp k).guv

/-- A change of gang k in the power die; its entry into STATE 3 or 4 is a source of HATTN (R435). -/
def State.modGang (s : State) (k : Nat) (f : LoadCh → LoadCfg → Bool → LoadCh) : State :=
  let q := s.pd
  let t := s.modPd fun q => q.modCh k fun c => f c (q.cf k) (q.grp k).up
  let was := q.state k
  let now := t.pd.state k
  if was != now && (now == 3 || now == 4) then t.attnBoth 9 else t

/-! ### Commands of each tick (R419, R28) -/

/-- A doorway's sequencer commands channel k on. -/
def Lane.doorDrives (x : Lane) (d k : Nat) : Bool :=
  let c := x.dcfg d
  let y := (x.dway d).cur
  (c.lchLamp == k && y.lampOn) || (c.lchChime == k && y.chimeOn) || (c.lchLock == k && y.lockOn)

/-- State and duty of channel k as lane x commands it. -/
def State.loadCmd (s : State) (l : LaneId) (k : Nat) : Bool × Nat :=
  let x := s.lane l
  let f := s.pd.cf k
  let c := s.pd.ch k
  if f.doors.isEmpty then (c.on, c.duty) else (f.doors.any fun d => x.doorDrives d k, c.duty)

/-- The power die accepts a set of commands. -/
def State.applyLoad (s : State) (cmds : List (Bool × Nat)) : State :=
  let s := s.modPd fun q => { q with cmdage := 0, out := false }
  cmds.zipIdx.foldl (fun s (p : (Bool × Nat) × Nat) =>
    if (s.pd.cf p.2).leads then s.modGang p.2 fun c f up => c.command f up p.1.1 p.1.2 else s) s

/-- The LOADCMD task of the tick was late (R104). -/
def Lane.loadLate (x : Lane) : Bool := x.ln.sched.cLate.any fun c => (x.img.ctx c).any fun r => r.typ == 7

/-- LOAD_COMMAND: the LOADCMD task of a lane; the power die takes it from the lane that holds the token (R25, R419). From a task
that was late the power die receives no command (R104). -/
def State.loadCommand (s : State) (l : LaneId) : State :=
  if !(s.lane l).running || !(s.lane l).ln.on || (s.lane l).loadLate then s
  else
    let cmds := (List.range 32).map fun k => s.loadCmd l k
    let s := s.modLN l fun x => { x with loadCmds := some cmds }
    if s.owns l then s.applyLoad cmds else s

/-- LOAD_COMMAND. -/
def execLoadCommand (l : LaneId) (s : State) : Host.Outcome State Fault Refusal := .next (s.loadCommand l)

/-- NOCMD_TIMEOUT: 400 ticks without a command (R28, R431). -/
def State.nocmdTimeout (s : State) : State :=
  if 400 ≤ s.pd.cmdage && !s.pd.out then
    (s.modPd fun q => { q with nocmd := true, out := true, chs := q.chs.map fun c => { c.turnOff with cmdOn := false } }).attnBoth 9
  else s

/-- NOCMD_TIMEOUT. -/
def execNocmdTimeout (s : State) : Host.Outcome State Fault Refusal := .next s.nocmdTimeout

/-! ### Overcurrent (R414, R415, R425) -/

/-- A latch-off event: off, OC, EVENTS, and the retry interval begins; without a retry left the gang is latched, once TLATCH
is clear. -/
def LoadCh.latchOff (c : LoadCh) (f : LoadCfg) : LoadCh :=
  let c := { c.turnOff with
    oc := true, events := satInc 0xFF c.events, hold := .latchOff, left := some (400 * f.rtint), quiet := 0 }
  if c.retleft = 0 ∧ !c.tlatch then { c with latched := true, left := none } else c

/-- The current of gang k is sensed: the sum in its leader, each channel's own reading (R423). -/
def PowerDie.sense (q : PowerDie) (k i : Nat) : PowerDie :=
  let n := (q.cf k).gang
  let q := q.modCh k fun c => { c with isum := min i 16383 }
  (q.gangOf k).foldl (fun q j => q.modCh j fun c => { c with
    isense := if n = 1 then min i 1023 else (Config.senseShare j n i).toNat }) q

/-- A thermal shutdown turned the gang off within the last 50 µs (R429). -/
def LoadCh.justHot (c : LoadCh) : Bool := c.hold == .thermal && !c.onNow && c.offAge ≤ 2

/-- LOAD_OVERCURRENT: the gang of channel k has carried a current, in 4 mA, for a number of µs without a break: 50 µs above the
threshold are an overcurrent. One that coincides with a thermal shutdown makes a latch-off event of it (R429). -/
def State.loadOvercurrent (s : State) (k i us : Nat) : State :=
  let k := s.pd.lead k
  let f := s.pd.cf k
  if !f.leads then s
  else if (s.pd.ch k).justHot then
    if f.gang ≠ 8 ∧ f.gang * f.ilatch * 100 < 4 * i ∧ 50 ≤ us then s.modGang k fun c f _ => c.latchOff f else s
  else if !(s.pd.ch k).onNow then s
  else
    let s := s.modPd fun q => q.sense k i
    if f.gang = 8 then
      s.modPd fun q => q.modCh k fun c =>
        if 10000 ≤ 4 * i then { c with limit := true, limAge := some 0 } else { c with limit := false }
    else if f.gang * f.ilatch * 100 < 4 * i ∧ 50 ≤ us then s.modGang k fun c f _ => c.latchOff f
    else s

/-- LOAD_OVERCURRENT (R414). -/
def execLoadOvercurrent (k : Fin 32) (i4mA us : Nat) (s : State) : Host.Outcome State Fault Refusal :=
  .next (s.loadOvercurrent k i4mA us)

/-- The leader of group g that is on with the largest current; the lowest of equals. -/
def PowerDie.largest (q : PowerDie) (g : Nat) (amps : Nat → Nat) : Option Nat :=
  let ks := ((List.range 8).map fun j => 8 * g + j).filter fun k => (q.cf k).leads && (q.ch k).onNow
  ks.foldl (fun best k => match best with
    | none => some k
    | some b => if amps b < amps k then some k else some b) none

/-- The eight sensed currents of group g, in 4 mA: in every channel's ISENSE, in its leaders' ISUM and in GSUM (R423). -/
def PowerDie.senseGroup (q : PowerDie) (g : Nat) (is : List Nat) : PowerDie :=
  let at' := fun (k : Nat) => (is[k - 8 * g]?).getD 0
  let total := (((List.range 8).map fun j => 8 * g + j).map at').sum
  let q := { q with chs := q.chs.mapFinIdx fun k c _ =>
    if k / 8 ≠ g then c
    else { c with isense := min (at' k) 1023, isum := if (q.cf k).leads then min ((q.gangOf k).map at').sum 16383 else c.isum } }
  q.modGrp g fun x => { x with gsum := min (4 * total / 10) 4095 }

/-- GROUP_OVERCURRENT: the eight sensed currents of a group, in 4 mA, that it has carried for a number of µs: 1 ms above
10.0 A in sum latches off its largest gang (R415). -/
def State.groupOvercurrent (s : State) (g : Nat) (is : List Nat) (us : Nat) : State :=
  let q := s.pd
  let at' := fun (k : Nat) => (is[k - 8 * g]?).getD 0
  let amps := fun (k : Nat) => ((q.gangOf k).map at').sum
  let total := (((List.range 8).map fun j => 8 * g + j).map at').sum
  let s := s.modPd fun q => q.senseGroup g is
  if (List.range 8).any (fun j => (q.cf (8 * g + j)).gang == 8) || 4 * total ≤ 10000 || us < 1000 then s
  else match q.largest g amps with
    | none => s
    | some k =>
      let s := s.modGang k fun c f _ => c.latchOff f
      (s.modPd fun q => q.modGrp g fun x => { x with goc := true }).attnBoth 9

/-- GROUP_OVERCURRENT. -/
def execGroupOvercurrent (g : Fin 4) (currents : List Nat) (us : Nat) (s : State) : Host.Outcome State Fault Refusal :=
  .next (s.groupOvercurrent g currents us)

/-! ### Temperature (R416, R425, R429) -/

/-- A thermal shutdown of a gang: a latch-off event for a gang of 8 that limited within the last 10 ms, else a thermal event;
after an overcurrent event its interval holds. -/
def LoadCh.shutdown (c : LoadCh) (f : LoadCfg) : LoadCh :=
  let limited := f.gang == 8 && (c.limit || match c.limAge with
    | some n => n ≤ 400
    | none => false)
  let was := c.onNow
  let c := { c with tsd := true, tlatch := true }
  if was && limited then c.latchOff f
  else if was then { c.turnOff with hold := .thermal, left := none }
  else c

/-- THERMAL_SHUTDOWN: the junction of channel k reads tj, in the unit of TJ; 214 is 150 °C. -/
def State.thermalShutdown (s : State) (k tj : Nat) : State :=
  let lead := s.pd.lead k
  if (s.pd.cf lead).leads then
    let s := s.modPd fun q => q.modCh k fun c => { c with tj := min tj 255 }
    if 214 ≤ tj then s.modGang lead fun c f _ => c.shutdown f else s
  else s

/-- THERMAL_SHUTDOWN (R416). -/
def execThermalShutdown (k : Fin 32) (tj : Nat) (s : State) : Host.Outcome State Fault Refusal := .next (s.thermalShutdown k tj)

/-- THERMAL_RELEASE: the junctions of the gang of channel k read tjs, in ascending order of its channels; TLATCH clears when
every one is below 125 °C, which is 189 in the unit of TJ. -/
def State.thermalRelease (s : State) (k : Nat) (tjs : List Nat) : State :=
  let lead := s.pd.lead k
  if !(s.pd.cf lead).leads then s
  else
    let s := (s.pd.gangOf lead).zipIdx.foldl (fun s (p : Nat × Nat) =>
      s.modPd fun q => q.modCh p.1 fun c => { c with tj := min ((tjs[p.2]?).getD c.tj) 255 }) s
    if (s.pd.ch lead).tlatch && (s.pd.gangOf lead).all fun j => decide ((s.pd.ch j).tj < 189) then
      s.modGang lead fun c f up => ({ c with tlatch := false } : LoadCh).tryStart f up
    else s

/-- THERMAL_RELEASE (R416). -/
def execThermalRelease (k : Fin 32) (tjs : List Nat) (s : State) : Host.Outcome State Fault Refusal :=
  .next (s.thermalRelease k tjs)

/-! ### The group's supply (R418) -/

/-- Group g has no lands on this part's fused channels (R493). -/
def groupFused (p : Part) (g : Nat) : Bool := p == .sk2440 && g == 3

/-- GROUP_UNDERVOLTAGE: below 16.0 V every channel of the group turns off. -/
def State.groupUndervoltage (s : State) (g v : Nat) : State :=
  if groupFused s.part g then s
  else
    let s := s.modPd fun q => q.modGrp g fun x => { x with vload := min v 1023 }
    if v < 160 then
      s.modPd fun q =>
        let q := q.modGrp g fun x => { x with guv := true, up := false }
        { q with chs := q.chs.mapFinIdx fun k c _ => if k / 8 = g then c.turnOff else c }
    else s

/-- GROUP_UNDERVOLTAGE. -/
def execGroupUndervoltage (g : Fin 4) (v01 : Nat) (s : State) : Host.Outcome State Fault Refusal :=
  .next (s.groupUndervoltage g v01)

/-- GROUP_VOLTAGE_RECOVERY: above 17.0 V every channel returns to its commanded state. -/
def State.groupRecovery (s : State) (g v : Nat) : State :=
  if groupFused s.part g then s
  else
    let s := s.modPd fun q => q.modGrp g fun x => { x with vload := min v 1023 }
    if 170 < v then
      let s := s.modPd fun q => q.modGrp g fun x => { x with guv := false, up := true }
      ((List.range 8).map fun j => 8 * g + j).foldl (fun s k =>
        if (s.pd.cf k).leads then s.modGang k fun c f up => c.tryStart f up else s) s
    else s

/-- GROUP_VOLTAGE_RECOVERY (R418). -/
def execGroupVoltageRecovery (g : Fin 4) (v01 : Nat) (s : State) : Host.Outcome State Fault Refusal :=
  .next (s.groupRecovery g v01)

/-! ### Retries (R426, R427) -/

/-- RETRY_INTERVAL_EXPIRY: the interval of the gang has run out. Where the tick's command is still to come, that command decides
whether there is a restart (R429). -/
def execRetryIntervalExpiry (k : Fin 32) (s : State) : Host.Outcome State Fault Refusal :=
  .next (if (s.pd.cf k).leads && (s.pd.ch k).left == some 0 && s.pd.cmdage == 0 then s.modGang k fun c f up => c.tryStart f up else s)

/-- No latch-off event for 60 s: RETLEFT is loaded from RETRY, once until the next event. -/
def LoadCh.reload (c : LoadCh) (f : LoadCfg) : LoadCh :=
  if c.quiet = 2400000 then { c with retleft := f.retry, quiet := 2400001 } else c

/-- RETRY_RELOAD. -/
def execRetryReload (k : Fin 32) (s : State) : Host.Outcome State Fault Refusal :=
  .next (if (s.pd.cf k).leads then s.modGang k fun c f _ => c.reload f else s)

/-- CLR: RETLEFT reloaded, the interval cancelled, and a restart under R426 at once, with what it costs there, where command
and TLATCH allow it. -/
def State.loadClr (s : State) (k : Nat) : State :=
  if (s.pd.cf k).leads then
    s.modGang k fun c f up =>
      ({ c with retleft := f.retry, latched := false, left := if c.hold == .latchOff then some 0 else none } : LoadCh).tryStart f up
  else s

/-- CLR (R427). -/
def execClr (k : Fin 32) (s : State) : Host.Outcome State Fault Refusal := .next (s.loadClr k)

/-- The power die at a start gate: a gang whose interval ended in a tick without a command restarts; the age of the last
command, intervals (held while TLATCH is set), the time since the last latch-off event, of the present tone, and since the
gang was on. -/
def State.loadGate (s : State) : State :=
  let s := (List.range 32).foldl (fun s k =>
    if (s.pd.cf k).leads then s.modGang k fun c f up => c.tryStart f up else s) s
  let s := s.modPd fun q => { q with
    cmdage := satInc 0xFFFF q.cmdage
    chs := q.chs.map fun c => { c with
      left := if c.tlatch then c.left else c.left.map (· - 1)
      quiet := if c.quiet < 2400000 then c.quiet + 1 else c.quiet
      toneAge := satInc 0xFFFF c.toneAge
      offAge := if c.onNow then 0 else satInc 0xFFFF c.offAge
      limAge := if c.limit then some 0 else c.limAge.map (satInc 401) } }
  let s := (List.range 32).foldl (fun s k => if (s.pd.cf k).leads then s.modGang k fun c f _ => c.reload f else s) s
  s.nocmdTimeout

/-! ### Diagnostics (R424) and the chime (R422) -/

/-- A finding of open-load detection: HATTN and a ledger event when its flag is set. -/
def State.loadFinding (s : State) (k code : Nat) (f : LoadCh → LoadCh) : State :=
  ((s.modPd fun q => q.modCh k f).attnBoth 9).eventBoth code k

/-- OPEN_LOAD_ON: the gang has carried a current, in 4 mA, for a number of µs of on-phases: 10 ms too little is an open load. -/
def execOpenLoadOn (k : Fin 32) (i4mA us : Nat) (s : State) : Host.Outcome State Fault Refusal :=
  let f := s.pd.cf k
  let c := s.pd.ch k
  .next (if f.leads && c.onNow then
      let s := s.modPd fun q => q.sense k i4mA
      if f.olen && !c.olon && 4 * i4mA < f.gang * 20 && decide (10000 ≤ us) && (f.mode != 1 || 1024 ≤ 10 * c.dutyUse) then
        s.loadFinding k 0x0501 fun c => { c with olon := true }
      else s
    else s)

/-- The test source has fed the gang's channels for n ticks: they are fed from 20 ms after the gang was on (R424). -/
def LoadCh.fedFor (c : LoadCh) (n : Nat) : Bool := !c.onNow && 800 + n ≤ c.offAge + 1

/-- OPEN_LOAD_OFF: an output of the gang has stayed at a voltage, in mV, for a number of µs while fed: above 4.0 V for 10 ms. -/
def execOpenLoadOff (k : Fin 32) (mv us : Nat) (s : State) : Host.Outcome State Fault Refusal :=
  let f := s.pd.cf k
  let c := s.pd.ch k
  .next (if f.leads && f.offdg && c.fedFor 400 && decide (4000 < mv ∧ 10000 ≤ us) && !c.oloff && !c.shortb then
      s.loadFinding k 0x0502 fun c => { c with oloff := true }
    else s)

/-- SHORTB: an output of the gang is at a voltage, in mV, a number of µs after the source was removed: still above 4.0 V after
1 ms. -/
def execShortb (k : Fin 32) (mv us : Nat) (s : State) : Host.Outcome State Fault Refusal :=
  let f := s.pd.cf k
  let c := s.pd.ch k
  .next (if f.leads && f.offdg && c.fedFor 0 && decide (4000 < mv ∧ 1000 ≤ us) && !c.shortb then
      s.loadFinding k 0x0503 fun c => { c with shortb := true }
    else s)

/-- The ticks that the present tone of a chime record, or its pause (4), lasts at least: 400 for each 10 ms, on an
oscillator of ±2 % (R421, R422). -/
def ChimeRec.ticks (r : ChimeRec) (tone : Nat) : Nat :=
  392 * (if tone = 1 then r.d1 else if tone = 2 then r.d2 else if tone = 3 then r.d3 else r.pause)

/-- CHIME_TONE_ADVANCE: the tone of channel k, or its pause (4), has ended (R422). -/
def execChimeToneAdvance (k : Fin 32) (s : State) : Host.Outcome State Fault Refusal :=
  let f := s.pd.cf k
  let c := s.pd.ch k
  let r := vget s.pd.chimes {} (k.val - 28)
  .next (if f.leads && f.mode == 2 && c.onNow && decide (r.ticks c.tone ≤ c.toneAge + 1) then
      s.modPd fun q => q.modCh k fun c => { c with
        tone := if c.tone = 3 ∧ r.pause = 0 then 1 else c.tone % 4 + 1, toneAge := 0 }
    else s)

/-- PWM_PERIOD_BOUNDARY: a new DUTY or PWMF takes effect (R421). -/
def execPwmPeriodBoundary (k : Fin 32) (s : State) : Host.Outcome State Fault Refusal :=
  .next (if (s.pd.cf k).leads && (s.pd.cf k).mode == 1 && (s.pd.ch k).onNow then
      s.modPd fun q => q.modCh k fun c => { c with dutyUse := c.cmdDuty, pwmfUse := (q.cf k).pwmf }
    else s)

/-! ### The LOAD block (R434, R435) -/

/-- A register of channel k. -/
def PowerDie.readCh (q : PowerDie) (k r : Nat) : Nat :=
  let c := q.ch k
  let f := q.cf k
  if !f.enabled then 0
  else match r with
  | 0 => pack [(1, b2n c.on), (7, 0), (10, c.duty)]
  | 4 => pack [(3, q.state k), (1, b2n c.limit), (1, b2n c.oc), (1, b2n c.tsd), (1, b2n c.olon), (1, b2n c.oloff),
      (1, b2n c.shortb), (1, b2n c.ownerr), (1, b2n c.tlatch), (1, 0), (4, c.retleft), (4, f.doors.headD 0),
      (1, b2n (!f.doors.isEmpty)), (1, b2n f.olen), (1, b2n f.offdg), (1, 0), (8, c.events)]
  | 8 => pack [(10, c.isense), (14, if f.gang = 0 then 0 else c.isum), (8, c.tj)]
  | _ => pack [(4, f.gang), (5, f.ilatch), (4, f.retry), (8, f.rtint), (8, f.pwmf), (2, f.mode)]

/-- A register of LOAD, by offset; the channels that a part has fused off, and their group, read as 0 (R3, R493). -/
def State.readLoad (s : State) (o : Nat) : Nat :=
  let q := s.pd
  if 0x100 ≤ o then
    let k := (o - 0x100) / 16
    if 32 ≤ k ∨ lchFused s.part k = true then 0 else q.readCh k (o % 16)
  else if o = 0 then
    pack [(1, b2n q.nocmd), (4, maskOf (q.grps.toList.map LoadGrp.guv)), (4, maskOf (q.grps.toList.map LoadGrp.goc)),
      (7, 0), (16, q.cmdage)]
  else if 0x10 ≤ o ∧ o < 0x20 then
    let g := vget q.grps {} ((o - 0x10) / 4)
    pack [(10, g.vload), (6, 0), (12, g.gsum)]
  else 0

/-- LOAD_CTL written (R420, R427): CLR acts for every leader; ON and DUTY for a host-owned one. -/
def State.writeLoadCtl (s : State) (k n : Nat) : State :=
  let f := s.pd.cf k
  let own := s.modPd fun q => q.modCh k fun c => { c with ownerr := true }
  if !f.leads then own
  else
    let t := if bitOf n 1 then s.loadClr k else s
    if f.doors.isEmpty then t.modPd fun q => q.modCh k fun c => { c with on := bitOf n 0, duty := fld n 8 10 }
    else if bitOf n 1 then t else own

/-- LOAD_CFG written: each field within its range, else as it was (R435). -/
def State.writeLoadCfg (s : State) (k n : Nat) : State :=
  let f := s.pd.cf k
  if !f.leads then s.modPd fun q => q.modCh k fun c => { c with ownerr := true }
  else
    let il := fld n 4 5
    let rt := fld n 13 8
    let pf := fld n 21 8
    s.modPd fun q => q.modCf k fun f => { f with
      ilatch := if f.gang ≠ 8 ∧ 12 ≤ il ∧ il ≤ 30 then il else f.ilatch
      retry := fld n 9 4
      rtint := if 1 ≤ rt then rt else f.rtint
      pwmf := if f.mode = 1 ∧ 5 ≤ pf ∧ pf ≤ 200 then pf else f.pwmf }

/-- A write of LOAD, by offset. -/
def State.writeLoad (s : State) (o : Nat) (w : Word) : State :=
  let n := w.toNat
  if 0x100 ≤ o then
    let k := (o - 0x100) / 16
    if 32 ≤ k ∨ lchFused s.part k = true then s
    else match o % 16 with
    | 0 => s.writeLoadCtl k n
    | 12 => s.writeLoadCfg k n
    | _ => s
  else s

/-- The W1C flags of LOAD_STAT and LOAD_ST. -/
def State.clearLoad (s : State) (o n : Nat) : State :=
  let k := (o - 0x100) / 16
  if 0x100 ≤ o ∧ o % 16 = 4 ∧ k < 32 ∧ lchFused s.part k = false then s.modPd fun q => q.modCh k fun c => { c with
    oc := c.oc && !bitOf n 4, tsd := c.tsd && !bitOf n 5, olon := c.olon && !bitOf n 6, oloff := c.oloff && !bitOf n 7
    shortb := c.shortb && !bitOf n 8, ownerr := c.ownerr && !bitOf n 9 }
  else if o = 0 then s.modPd fun q => { q with
    nocmd := q.nocmd && !bitOf n 0
    grps := q.grps.mapFinIdx fun g x _ => { x with goc := x.goc && !bitOf n (5 + g) } }
  else s

end Sys2Proof.Machine
end

