-- ==== Sys2Proof/Machine/Net.lean ====
section
/-! DEFINITION. The train network of a lane (chapter 10): Ethernet, ARP, IPv4, train time, CAN FD, the tunnel, and the
datagrams of the ledger. A frame is its bytes from the destination address to the end of its payload, without the FCS; a
CAN frame that is sent stands as its CANID and its data. -/

namespace Sys2Proof.Machine

/-- NET fields of lane l changed. -/
def State.modNet (s : State) (l : LaneId) (f : NetLN → NetLN) : State := s.modLN l fun x => { x with net := f x.net }

/-- Ethernet interface e, or CAN controller c, of a lane changed. -/
def NetLN.modEth (n : NetLN) (e : Nat) (f : EthLN → EthLN) : NetLN := { n with eths := vmod n.eths e f }
def NetLN.modCan (n : NetLN) (c : Nat) (f : CanLN → CanLN) : NetLN := { n with cans := vmod n.cans c f }

/-- A frame is handed to an interface, numbered as the bits of PATH. -/
def State.send (s : State) (l : LaneId) (path : Nat) (f : List Byte) : State :=
  s.modNet l fun n => { n with tx := n.tx ++ [(path, f)] }

/-- The interface works for lane l: it holds the token, and its stream enables the interface (R25, R315). -/
def State.netOn (s : State) (l : LaneId) (path : Nat) : Bool := s.owns l && bitOf (s.img l).ifen path

/-! ### Frames and datagrams sent (R298, R299) -/

/-- An Ethernet frame of interface e (R298). -/
def ethFrame (i : Image) (e pcp : Nat) (dst : List Byte) (etype : Nat) (payload : List Byte) : List Byte :=
  dst ++ i.mac e ++ (if i.vid e = 0 then [] else toBE 2 0x8100 ++ toBE 2 (pcp * 8192 + i.vid e)) ++ toBE 2 etype ++ payload

/-- The 16-bit words of a byte string, the last padded, summed. -/
def sum16 : List Byte → Nat
  | [] => 0
  | [a] => a.toNat * 256
  | a :: b :: rest => a.toNat * 256 + b.toNat + sum16 rest

/-- The ones' complement sum of a byte string, folded to 16 bits. -/
def ones16 (bs : List Byte) : Nat :=
  let n := sum16 bs
  if n = 0 then 0 else (n - 1) % 65535 + 1

/-- The Internet checksum. -/
def inetSum (bs : List Byte) : Nat := 65535 - ones16 bs

/-- An IPv4 header without its checksum: DF, no options, the TTL of the interface (R299). -/
def ipHead (i : Image) (e t proto len src dst csum : Nat) (payload : List Byte) : List Byte :=
  let o := (Config.ipOpen t payload).toNat
  [0x45] ++ toBE 1 (o / 65536) ++ toBE 2 (20 + len) ++ toBE 2 (o % 65536) ++ toBE 2 0x4000 ++ toBE 1 (i.ttl e) ++ toBE 1 proto ++
    toBE 2 csum ++ toBE 4 src ++ toBE 4 dst

/-- An IPv4 datagram from an address of the module, through interface e. -/
def ipDatagram (i : Image) (e t proto src dst : Nat) (payload : List Byte) : List Byte :=
  let h := fun (c : Nat) => ipHead i e t proto payload.length src dst c payload
  h (inetSum (h 0)) ++ payload

/-- The bytes that a UDP checksum covers beside the datagram. -/
def udpPseudo (src dst len : Nat) : List Byte := toBE 4 src ++ toBE 4 dst ++ [0, 17] ++ toBE 2 len

/-- A UDP datagram with its checksum (R299). -/
def udpBytes (src dst sport dport : Nat) (data : List Byte) : List Byte :=
  let len := 8 + data.length
  let b := fun (c : Nat) => toBE 2 sport ++ toBE 2 dport ++ toBE 2 len ++ toBE 2 c ++ data
  let c := inetSum (udpPseudo src dst len ++ b 0)
  b (if c = 0 then 0xFFFF else c)

/-- The address is multicast (R299). -/
def isMulticast (ip : Nat) : Bool := ip / 2 ^ 28 == 14

/-- The next hop to an address from interface e (R299). -/
def nextHop (i : Image) (e ip : Nat) : Nat :=
  let sh := 2 ^ (32 - i.prefixLen e)
  if ip / sh = i.ipaddr e / sh ∨ i.gw e = 0 then ip else i.gw e

/-- The MAC address of a next hop: static entries first, then the cache (R300). -/
def Lane.macOf (x : Lane) (e ip : Nat) : Option (List Byte) :=
  let i := x.img
  if isMulticast ip then some ([0x01, 0x00, 0x5E] ++ toBE 3 (ip % 2 ^ 23))
  else match (List.range 16).find? fun j => i.sarpIp j == ip && ip != 0 && i.sarpIf j == e with
    | some j => some (i.sarpMac j)
    | none => ((vget x.ln.net.eths {} e).arp.find? fun a => a.1.toNat == ip).map fun a => a.2.1

/-- The bytes of an ARP packet of interface e. -/
def arpBytes (i : Image) (e op : Nat) (tha : List Byte) (tpa : Nat) : List Byte :=
  toBE 2 1 ++ toBE 2 0x0800 ++ [6, 4] ++ toBE 2 op ++ i.mac e ++ toBE 4 (i.ipaddr e) ++ tha ++ toBE 4 tpa

/-- The broadcast address. -/
def broadcastMac : List Byte := List.replicate 6 0xFF

/-- A datagram to an address through interface e; where the next hop is not resolved, an ARP request goes in its place. -/
def State.sendIp (s : State) (l : LaneId) (e pcp proto src dst : Nat) (payload : List Byte) : State :=
  let i := s.img l
  let hop := nextHop i e dst
  match (s.lane l).macOf e hop with
  | some m => s.send l e (ethFrame i e pcp m 0x0800 (ipDatagram i e s.tick proto src dst payload))
  | none => s.send l e (ethFrame i e (i.pcp e) broadcastMac 0x0806 (arpBytes i e 1 (zeros 6) hop))

/-- A UDP datagram from an address of the module, through interface e. -/
def State.sendUdp (s : State) (l : LaneId) (e pcp src dst sport dport : Nat) (data : List Byte) : State :=
  s.sendIp l e pcp 17 src dst (udpBytes src dst sport dport data)

/-- One gratuitous ARP for each interface address (R300). -/
def State.gratuitous (s : State) (l : LaneId) : State :=
  (List.range 2).foldl (fun s e =>
    if s.netOn l e then
      let i := s.img l
      s.send l e (ethFrame i e (i.pcp e) broadcastMac 0x0806 (arpBytes i e 1 (zeros 6) (i.ipaddr e)))
    else s) s

/-- A safe frame leaves on every path of its transport record (R305 to R307). -/
def State.sendSafe (s : State) (l : LaneId) (k : Nat) (f : List Byte) : State :=
  let i := s.img l
  let path := i.trPath k
  let s := (List.range 2).foldl (fun s e =>
    if bitOf path e && s.netOn l e then s.sendUdp l e (i.trPcp k) (i.ipaddr e) (i.trIp k) (i.trPort k) (i.trPort k) f else s) s
  (List.range 2).foldl (fun s c =>
    if bitOf path (2 + c) && s.netOn l (2 + c) && (vget (s.lane l).ln.net.cans {} c).st != 2 then
      s.send l (2 + c) (toLE 4 (i.trCan k) ++ f ++ zeros (canLen f.length - f.length))
    else s) s

/-- CAN controller c after frames of a tick (R307, R319): each transmit error raises its error counter by 8, a tick without one
lowers it by 1, and from 128 on it is error passive. -/
def CanLN.sent (t : CanLN) (errors : Nat) : CanLN :=
  if t.st = 2 then t
  else
    let tec := if errors = 0 then t.tec - 1 else satAdd 0xFF t.tec (8 * errors)
    { t with tec := tec, st := if 128 ≤ tec then 1 else 0 }

/-- What the interfaces count of the frames they sent since the last start gate (R319). -/
def State.txGate (s : State) (l : LaneId) : State :=
  let n := (s.lane l).ln.net
  let out := fun (path : Nat) => (n.tx.filter fun f => f.1 == path).length
  let errs := fun (path : Nat) => min (out path) (Config.txErrors l path s.tick)
  let eths := n.eths.mapFinIdx fun e t _ => if out e = 0 then t else { t with txerr := satAdd 0xFF t.txerr (errs e) }
  let cans := n.cans.mapFinIdx fun c t _ => if out (2 + c) = 0 then t else t.sent (errs (2 + c))
  s.modNet l fun n => { n with eths := eths, cans := cans }

/-- The network at a start gate: what was sent is gone, the lane with the token sends the safe frames of its queue, the
other discards them (R305). NET_IO is handed what came in; a standby's what the gate segment brings (R323, R327). -/
def State.netGate (s : State) (l : LaneId) : State :=
  let s := s.txGate l
  let q := (s.lane l).ln.net.queue
  let seg := if (s.lane l).ln.red.gateSeg then (s.lane l.other).ln.net.handed else []
  let own := s.owns l
  let s := s.modNet l fun n => { n with queue := [], tx := [], rx := [], handed := if own then n.rx else seg }
  if s.owns l then q.foldl (fun s (p : Nat × List Byte) => s.sendSafe l p.1 p.2) s else s

/-! ### ARP and ICMP (R300) -/

/-- An entry into a cache of 64, good for 300 s; a full cache loses its oldest entry. -/
def arpAdd (c : List (Word × List Byte × Nat)) (ip : Word) (mac : List Byte) (now : Nat) : List (Word × List Byte × Nat) :=
  let rest := c.filter fun a => a.1 != ip
  (if 64 ≤ rest.length then rest.drop 1 else rest) ++ [(ip, mac, now + 30000000000)]

/-- An ARP packet at interface e: a request for the interface's address is answered, a reply to it is entered. -/
def State.arpIn (s : State) (l : LaneId) (e : Nat) (p : List Byte) : State :=
  let i := s.img l
  let op := ofBE (slice p 6 2)
  let sha := slice p 8 6
  let spa := ofBE (slice p 14 4)
  if p.length < 28 ∨ slice p 0 6 ≠ toBE 2 1 ++ toBE 2 0x0800 ++ [6, 4] ∨ ofBE (slice p 24 4) ≠ i.ipaddr e then s
  else if op = 1 then s.send l e (ethFrame i e (i.pcp e) sha 0x0806 (arpBytes i e 2 sha spa))
  else if op = 2 ∧ !(List.range 16).any (fun j => i.sarpIp j == spa) then
    s.modNet l fun n => n.modEth e fun t => { t with arp := arpAdd t.arp (BitVec.ofNat 32 spa) sha s.lines.now.toNat }
  else s

/-- The address that answers a datagram to `dst`: the one it was sent to, or that of the interface where that is a group. -/
def ownAddr (i : Image) (e dst : Nat) : Nat := if isMulticast dst then i.ipaddr e else dst

/-- ICMP at interface e: an echo request with at most 1472 bytes of data is answered, everything else is ignored. -/
def State.icmpIn (s : State) (l : LaneId) (e src dst : Nat) (mac p : List Byte) : State :=
  if byteAt p 0 = 8 ∧ byteAt p 1 = 0 ∧ 8 ≤ p.length ∧ p.length ≤ 1480 ∧ ones16 p = 65535 then
    let i := s.img l
    let rest := p.drop 4
    let b := [0, 0] ++ toBE 2 (inetSum ([0, 0, 0, 0] ++ rest)) ++ rest
    s.send l e (ethFrame i e (i.pcp e) mac 0x0800 (ipDatagram i e s.tick 1 (ownAddr i e dst) src b))
  else s

/-! ### The tunnel (R317) -/

/-- A tunnel reply. -/
def tunnelReply (op tseq status : Nat) (ws : List Word) : List Byte :=
  let b := [0x54, 0x55] ++ toLE 1 (op + 0x80) ++ toLE 1 ws.length ++ toLE 2 tseq ++ toLE 1 status ++ [0] ++
    ws.flatMap (fun w => toLE 4 w.toNat)
  b ++ toLE 4 (crc32c b).toNat

/-- A tunnel request carried out: its status, the words of its reply, and the state. -/
def State.tunnelAct (s : State) (l : LaneId) (e op : Nat) (ws : List Word) : Nat × List Word × State :=
  let i := s.img l
  let mb1 := vget (s.lane l).keep.boxes {} 1
  if op = 1 then
    if bitOf (i.kinds 0) 6 && bitOf (i.netif 0) e then (0, [], s.deliver l 0 (pisteOf i (laneNum l) e 0 6) 0 ws)
    else (2, [], s.modMstat l 0 fun q => { q with permerr := true })
  else if op = 2 then
    if mb1.full then (0, mb1.body.toList.take mb1.len, s) else (3, [], s)
  else if op = 3 then
    if ws.length ≠ 1 then (1, [], s)
    else
      let w := (ws.headD 0).toNat
      (if mb1.full && mb1.seq.toNat == w / 65536 then 0 else 3, [],
        s.ack l 1 (BitVec.ofNat 16 w) (BitVec.ofNat 16 (w / 65536)))
  else (4, [], s)

/-- A datagram on TUNPORT: judged, carried out, and answered to the address and port it came from. -/
def State.tunnelIn (s : State) (l : LaneId) (e src dst sport : Nat) (d : List Byte) : State :=
  let i := s.img l
  let drop := s.modNet l fun n => { n with tundrop := satInc 0xFFFF n.tundrop }
  let lenw := byteAt d 3
  if !i.tunEn || !bitOf i.tunIfs e then s
  else if !((List.range 4).any fun k => i.tunSrc k == src && src != 0) then drop
  else if d.length ≠ 12 + 4 * lenw ∨ slice d 0 2 ≠ [0x54, 0x55] ∨
      le32 d (d.length - 4) ≠ (crc32c (d.take (d.length - 4))).toNat then drop
  else
    let r := if 16 < lenw then (1, [], s) else s.tunnelAct l e (byteAt d 2) (wordsLE (slice d 8 (4 * lenw)))
    let s := r.2.2.modNet l fun n => { n with tunreq := satInc 0xFFFF n.tunreq }
    s.sendUdp l e (i.pcp e) (ownAddr i e dst) src i.tunPort sport (tunnelReply (byteAt d 2) (le16 d 4) r.1 r.2.1)

/-- TUNNEL_REQUEST (R317): a datagram from TUNPORT of an address. -/
def execTunnelRequest (l : LaneId) (i : Fin 2) (srcIp : Word) (data : List Byte) (s : State) :
    Host.Outcome State Fault Refusal :=
  .next (if s.netOn l i then s.tunnelIn l i srcIp.toNat ((s.img l).ipaddr i) (s.img l).tunPort data else s)

/-! ### The wake packet (R488) -/

/-- A datagram to WAKEPORT wakes both lanes in layover when it is a wake packet for this module. -/
def State.wakeIn (s : State) (l : LaneId) (e port : Nat) (d : List Byte) : State :=
  let m := (s.lane l).mr
  let base := le32 d 4
  if port = m.wakeport ∧ m.wakeport ≠ 0 ∧ (if e = 0 then m.wakeif0 else m.wakeif1) = true ∧
      (s.lane l).ln.pwr.layover = true ∧ d.length = 8 ∧ slice d 0 4 = [0x57, 0x4B, 0, 0] ∧
      (base = (s.img l).base ∨ base = 0xFFFFFFFF) then
    s.wake .packet
  else s

/-! ### What a MAC receives (R298, R299, R306) -/

/-- A frame is discarded and counted. -/
def State.rxDrop (s : State) (l : LaneId) (e : Nat) : State :=
  s.modNet l fun n => n.modEth e fun t => { t with rxdisc := satInc 0xFF t.rxdisc }

/-- The group of PTP over UDP/IPv4. -/
def ptpGroup : Nat := 0xE0000181

/-- The addresses that datagrams are accepted for: those of the enabled interfaces, the groups of transport records, and the PTP
group where NET selects PTP over UDP/IPv4 (R299, R301). -/
def ipForUs (i : Image) (ip : Nat) : Bool :=
  ((List.range 2).any fun k => bitOf i.ifen k && i.ipaddr k == ip) ||
    (isMulticast ip && (((List.range 64).any fun k => i.trPath k != 0 && i.trIp k == ip) || (i.ptpMode == 1 && ip == ptpGroup)))

/-- A safe frame is handed to the safety core for every consumed connection that a test names. -/
def State.toSafety (s : State) (q : Nat → Bool) (f : List Byte) : State :=
  s.modSc fun c => { c with inbox := c.inbox ++
    ((List.range (safeNconn c.saf)).filter fun k => !(connRec c.saf k).produce && q k).map fun k => (k, f) }

/-- What the MACs and controllers receive for NET_IO, with its interface as a bit of PATH. -/
def State.received (s : State) (l : LaneId) (path : Nat) (d : List Byte) : State :=
  s.modNet l fun n => { n with rx := n.rx ++ [(path, d)] }

/-! ### IEEE 1588 (R301, R302) -/

/-- A Sync with its offset (train time less master time, in 10 ns) and the rate correction it leads to. -/
def NetLN.sync (n : NetLN) (offset rate : Int) : NetLN :=
  let n := { n with rate := clampI (-10000) 10000 rate }
  if n.fresh then
    { n with fresh := false, tsync := 1, goodSyncs := 0, ofs := 0
             tofs := n.tofs - BitVec.ofInt 64 offset }
  else
    let good := if -100 ≤ offset ∧ offset ≤ 100 then n.goodSyncs + 1 else 0
    let n := { n with ofs := clampI (-2047) 2047 offset, goodSyncs := good }
    if n.tsync = 2 ∧ (offset < -1000 ∨ 1000 < offset) then { n with tsync := 1, fresh := true, goodSyncs := 0 }
    else if n.tsync = 1 ∧ 16 ≤ good then { n with tsync := 2 }
    else n

/-- PORT identity of the slave at interface e: the EUI-64 of its MAC, and port 1. -/
def ptpPort (i : Image) (e : Nat) : List Byte := (i.mac e).take 3 ++ [0xFF, 0xFE] ++ (i.mac e).drop 3 ++ toBE 2 1

/-- A timestamp of a message with its correction field, in 10 ns. -/
def ptpTime (p : List Byte) (corr : Bool) : Int :=
  let stamp : Int := ((ofBE (slice p 34 6) * 100000000 + ofBE (slice p 40 4) / 10 : Nat) : Int)
  let c : Int := sgn 64 (ofBE (slice p 8 8)) / 655360
  if corr then stamp + c else stamp - c

/-- A Delay_Req. -/
def ptpReq (i : Image) (e seq : Nat) : List Byte :=
  [0x01, 0x02] ++ toBE 2 44 ++ toBE 1 i.ptpDomain ++ zeros 15 ++ ptpPort i e ++ toBE 2 seq ++ [0x01, 0x7F] ++ zeros 10

/-- A Delay_Req leaves interface e. -/
def State.ptpAsk (s : State) (l : LaneId) (e : Nat) : State :=
  let i := s.img l
  let seq := (s.lane l).ln.net.ptp.reqSeq
  let left : Int := ((s.lines.now.toNat + Config.ptpTx l seq : Nat) : Int)
  let s := s.modNet l fun n => { n with ptp := { n.ptp with reqSeq := (seq + 1) % 65536, req := some (seq, left) } }
  if i.ptpMode = 2 then s.send l e (ethFrame i e (i.pcp e) [0x01, 0x1B, 0x19, 0, 0, 0] 0x88F7 (ptpReq i e seq))
  else s.sendUdp l e (i.pcp e) (i.ipaddr e) ptpGroup 319 319 (ptpReq i e seq)

/-- A Sync that left the master at master time t1 arrived at timebase value t2 (R302). -/
def State.ptpPair (s : State) (l : LaneId) (e : Nat) (t1 t2 : Int) : State :=
  let s := s.modNet l fun n =>
    let off := sgn 64 (enc 64 (t2 + (n.tofs.toNat : Int) - t1 - n.ptp.delay))
    { n.sync off (Config.ptpRate off n.rate) with ptp := { n.ptp with sync := none, pair := some (t1, t2) } }
  s.ptpAsk l e

/-- The Delay_Resp of the Delay_Req that is out: the mean path delay. -/
def PtpSt.answer (q : PtpSt) (t4 : Int) : PtpSt :=
  match q.pair, q.req with
  | some (t1, t2), some (_, t3) => { q with delay := ((t2 - t1) + (t4 - t3)) / 2, req := none }
  | _, _ => q

/-- A PTP message of the domain at interface e, with the timebase value at which it arrived (R301): Sync of one step, Sync
of two steps with its Follow_Up, and Delay_Resp. Every other message is ignored. -/
def State.ptpIn (s : State) (l : LaneId) (e : Nat) (at' : Nat) (p : List Byte) : State :=
  let i := s.img l
  let q := (s.lane l).ln.net.ptp
  let kind := byteAt p 0 % 16
  let src := slice p 20 10
  let seq := ofBE (slice p 30 2)
  let twoStep := bitOf (byteAt p 6) 1
  if p.length < 44 ∨ byteAt p 1 % 16 ≠ 2 ∨ byteAt p 4 ≠ i.ptpDomain then s
  else if kind = 0 then
    let s := s.modNet l fun n => { n with lastSync := s.lines.now }
    if twoStep then s.modNet l fun n => { n with ptp := { n.ptp with
      sync := some (src, seq, (at' : Int) - sgn 64 (ofBE (slice p 8 8)) / 655360) } }
    else s.ptpPair l e (ptpTime p true) at'
  else if kind = 8 then
    match q.sync with
    | some (src', seq', t2) => if src' = src ∧ seq' = seq then s.ptpPair l e (ptpTime p true) t2 else s
    | none => s
  else if kind = 9 ∧ 54 ≤ p.length ∧ slice p 44 10 = ptpPort i e ∧ (q.req.any fun r => r.1 == seq) = true then
    s.modNet l fun n => { n with ptp := n.ptp.answer (ptpTime p false) }
  else s

/-- PTP runs over a carrier at interface e: 1 UDP/IPv4, 2 Ethernet. -/
def Image.ptpOver (i : Image) (mode e : Nat) : Bool := i.ptpMode == mode && bitOf i.ptpIfs e

/-- A UDP datagram from an address, with the timebase value at which it arrived (R299, R301, R306, R317, R488). -/
def State.udpIn (s : State) (l : LaneId) (e src dst at' : Nat) (p : List Byte) : State :=
  let i := s.img l
  let sport := ofBE (slice p 0 2)
  let dport := ofBE (slice p 2 2)
  let len := ofBE (slice p 4 2)
  let csum := ofBE (slice p 6 2)
  if p.length < 8 ∨ len < 8 ∨ p.length < len ∨
      (csum ≠ 0 ∧ ones16 (udpPseudo src dst len ++ p.take len) ≠ 65535) then s.rxDrop l e
  else
    let d := slice p 8 (len - 8)
    let s := s.received l e p
    let s := s.toSafety (fun k => i.trPort k == dport && (i.trIp k == 0 || i.trIp k == src)) d
    let s := if i.ptpOver 1 e && (dport == 319 || dport == 320) then s.ptpIn l e at' d else s
    let s := if i.tunEn && dport == i.tunPort then s.tunnelIn l e src dst sport d else s
    s.wakeIn l e dport d

/-- An IPv4 datagram (R299). -/
def State.ipIn (s : State) (l : LaneId) (e at' : Nat) (mac p : List Byte) : State :=
  let i := s.img l
  let len := ofBE (slice p 2 2)
  let dst := ofBE (slice p 16 4)
  let src := ofBE (slice p 12 4)
  let body := slice p 20 (len - 20)
  if p.length < 20 ∨ byteAt p 0 ≠ 0x45 ∨ len < 20 ∨ p.length < len ∨ ofBE (slice p 6 2) % 16384 ≠ 0 ∨
      ones16 (p.take 20) ≠ 65535 ∨ !ipForUs i dst ∨ byteAt p 9 = 6 then s.rxDrop l e
  else if byteAt p 9 = 17 then s.udpIn l e src dst at' body
  else if byteAt p 9 = 1 then s.icmpIn l e src dst mac body
  else s

/-- The EtherType and the payload of a frame on the VLAN of interface e, or none for another VID (R298). -/
def untag (i : Image) (e : Nat) (f : List Byte) : Option (Nat × List Byte) :=
  let t := ofBE (slice f 12 2)
  if t = 0x8100 then
    if i.vid e ≠ 0 ∧ ofBE (slice f 14 2) % 4096 = i.vid e then some (ofBE (slice f 16 2), f.drop 18) else none
  else if i.vid e = 0 then some (t, f.drop 14) else none

/-- A frame at interface e of the lane that holds the token, with the timebase value that the MAC stamps it with. -/
def State.ethIn (s : State) (l : LaneId) (e at' : Nat) (f : List Byte) : State :=
  if !s.netOn l e then s
  else if 1518 < f.length ∨ f.length < 14 then s.rxDrop l e
  else match untag (s.img l) e f with
    | none => s.rxDrop l e
    | some (t, p) =>
      if t = 0x0806 then s.arpIn l e p
      else if t = 0x0800 then s.ipIn l e at' (slice f 6 6) p
      else if t = 0x88F7 && (s.img l).ptpOver 2 e then s.ptpIn l e at' p
      else s

/-- ETH_FRAME_RECEIVE: a frame arrives `rx` × 10 ns after the start gate (R298, R299, R301, R306). -/
def execEthFrameReceive (l : LaneId) (i : Fin 2) (frame : List Byte) (rx : Nat) (s : State) : Host.Outcome State Fault Refusal :=
  .next (s.ethIn l i (s.lines.gate.toNat + rx) frame)

/-- ARP_REQUEST: a frame that carries one (R300). -/
def execArpRequest (l : LaneId) (i : Fin 2) (frame : List Byte) (s : State) : Host.Outcome State Fault Refusal :=
  .next (match untag (s.img l) i frame with
    | some (t, p) => if s.netOn l i && t == 0x0806 && ofBE (slice p 6 2) == 1 then s.arpIn l i p else s
    | none => s)

/-- ARP_EXPIRY (R300). -/
def execArpExpiry (l : LaneId) (i : Fin 2) (ip : Word) (s : State) : Host.Outcome State Fault Refusal :=
  .next (s.modNet l fun n => n.modEth i fun t =>
    { t with arp := t.arp.filter fun a => a.1 != ip || decide (s.lines.now.toNat < a.2.2) })

/-- ICMP_ECHO: a frame that carries an echo request (R300). -/
def execIcmpEcho (l : LaneId) (i : Fin 2) (frame : List Byte) (s : State) : Host.Outcome State Fault Refusal :=
  .next (match untag (s.img l) i frame with
    | some (t, p) => if s.netOn l i && t == 0x0800 && byteAt p 9 == 1 then s.ipIn l i s.lines.now.toNat (slice frame 6 6) p else s
    | none => s)

/-! ### Train time (R302) -/

/-- The frame carries a PTP Sync or Follow_Up, over Ethernet or over UDP/IPv4. -/
def isPtpSync (i : Image) (e : Nat) (f : List Byte) : Bool :=
  match untag i e f with
  | some (t, p) =>
    let m := if t = 0x88F7 then p else p.drop 28
    (t == 0x88F7 || (t == 0x0800 && byteAt p 9 == 17)) && (byteAt m 0 % 16 == 0 || byteAt m 0 % 16 == 8)
  | none => false

/-- PTP_SYNC: a frame that carries a Sync, or the Follow_Up of one, arrives `rx` × 10 ns after the start gate (R301, R302). -/
def execPtpSync (l : LaneId) (i : Fin 2) (frame : List Byte) (rx : Nat) (s : State) : Host.Outcome State Fault Refusal :=
  .next (if isPtpSync (s.img l) i frame then s.ethIn l i (s.lines.gate.toNat + rx) frame else s)

/-- PTP_SYNC_LOSS: no Sync for 3 s (R302). -/
def execPtpSyncLoss (l : LaneId) (s : State) : Host.Outcome State Fault Refusal :=
  let n := (s.lane l).ln.net
  .next (if n.tsync != 0 && 300000000 ≤ (s.lines.now - n.lastSync).toNat then
      s.modNet l fun n => { n with tsync := 0, fresh := true, goodSyncs := 0 }
    else s)

/-! ### CAN FD (R307) -/

/-- CAN_FRAME_RECEIVE. -/
def State.canIn (s : State) (l : LaneId) (c : Nat) (fd ext : Bool) (ident : Nat) (data : List Byte) : State :=
  let i := s.img l
  let hit := fun (k : Nat) => bitOf (i.trPath k) (2 + c) && canKey (i.trCan k) == (ext, ident)
  if !s.netOn l (2 + c) || (vget (s.lane l).ln.net.cans {} c).st == 2 then s
  else if fd && (List.range (safeNconn s.sc.saf)).any fun k => !(connRec s.sc.saf k).produce && hit k then
    (s.received l (2 + c) (toLE 4 ident ++ data)).toSafety hit data
  else s.modNet l fun n => n.modCan c fun t => { t with other := satInc 0xFF t.other }
where
  canKey (c : Nat) : Bool × Nat := (bitOf c 31, c % 2 ^ 29)

/-- CAN_FRAME_RECEIVE (R307). -/
def execCanFrameReceive (l : LaneId) (c : Fin 2) (fd ext : Bool) (ident : Nat) (data : List Byte) (s : State) :
    Host.Outcome State Fault Refusal := .next (s.canIn l c fd ext ident data)

/-- CAN_BUS_OFF (R307). -/
def execCanBusOff (l : LaneId) (c : Fin 2) (s : State) : Host.Outcome State Fault Refusal :=
  .next (if s.netOn l (2 + c) && (vget (s.lane l).ln.net.cans {} c).st != 2 then
      s.modNet l fun n => n.modCan c fun t => { t with st := 2, tec := 0xFF, busoff := satInc 0xFF t.busoff }
    else s)

/-- CAN_BUSOFF_RECOVERY (R307). -/
def execCanBusoffRecovery (l : LaneId) (c : Fin 2) (s : State) : Host.Outcome State Fault Refusal :=
  .next (if (vget (s.lane l).ln.net.cans {} c).st == 2 then
      s.modNet l fun n => n.modCan c fun t => { t with st := 0, tec := 0 }
    else s)

/-! ### Datagrams of the ledger (R452) -/

/-- A datagram of n records from a SEQ on. -/
def Lane.ledgDatagram (x : Lane) (l : LaneId) (seq n : Nat) : List Byte :=
  let fmt := x.img.ledFormat
  let b := [0x4C, 0x47] ++ toLE 1 (fmtByte fmt) ++ toLE 1 n ++ toLE 4 (pisteOf x.img (laneNum l) 0 0 1).toNat ++ toLE 4 seq ++
    toLE 4 x.ln.ledg.upseq.toNat ++
    (List.range n).flatMap fun k => Memory.read x.keep.mem (recAddr fmt (seq + k)) (recSize fmt)
  b ++ toLE 4 (crc32c b).toNat

/-- Records a datagram holds. -/
def datagramRecs (fmt : Nat) : Nat := if fmt = 0 then 5 else 29

/-- One ledger datagram to the collector. -/
def State.ledgSendOut (s : State) (l : LaneId) (seq n : Nat) : State :=
  let i := s.img l
  s.sendUdp l i.colIf (i.pcp i.colIf) (i.ipaddr i.colIf) i.colIp i.colPort i.colPort ((s.lane l).ledgDatagram l seq n)

/-- The records of a tick are sent in the next (AUTOSEND): they have consecutive SEQ, in as many datagrams as they need. -/
def State.ledgAuto (s : State) (l : LaneId) : Nat → State
  | 0 => s
  | fuel + 1 =>
    let g := (s.lane l).ln.ledg
    let n := min g.autoSeqs.length (datagramRecs (s.img l).ledFormat)
    if n = 0 then s
    else
      let s := s.ledgSendOut l (g.autoSeqs.headD 0).toNat n
      (s.modLN l fun x => { x with ledg := { x.ledg with autoSeqs := x.ledg.autoSeqs.drop n } }).ledgAuto l fuel

/-- LEDGER_DATAGRAM (R452): what AUTOSEND owes, then the next datagram of a send, at most one in 40 ticks. -/
def State.ledgDatagrams (s : State) (l : LaneId) : State :=
  let i := s.img l
  if i.colIp = 0 ∨ !s.netOn l i.colIf then s
  else
    let s := s.ledgAuto l (s.lane l).ln.ledg.autoSeqs.length
    let g := (s.lane l).ln.ledg
    let due := match g.sentAt with
      | some t => 40 ≤ ticksSince s.tick t
      | none => true
    let n := min g.sending (datagramRecs i.ledFormat)
    if n = 0 ∨ !due then s
    else
      let s := s.ledgSendOut l g.sendSeq.toNat n
      s.modLN l fun x => { x with ledg := { x.ledg with
        sending := x.ledg.sending - n, sendSeq := x.ledg.sendSeq + BitVec.ofNat 32 n, sentAt := some s.tick } }

/-- LEDGER_DATAGRAM. -/
def execLedgerDatagram (l : LaneId) (s : State) : Host.Outcome State Fault Refusal := .next (s.ledgDatagrams l)

/-! ### The NET block (R318, R319) -/

/-- A register of NET, by offset. -/
def State.readNet (s : State) (l : LaneId) (o : Nat) : Nat :=
  let x := s.lane l
  let n := x.ln.net
  let i := x.img
  if 0x100 ≤ o then
    let k := (o - 0x100) / 8
    let c := vget x.mr.view.conns {} k
    if 64 ≤ k then 0
    else if o % 8 = 0 then
      pack [(3, connCode c.st), (1, b2n c.permits), (4, c.code), (4, c.rcnt), (4, 0), (16, c.seq.toNat)]
    else pack [(8, c.crcerr), (8, c.dup), (8, c.ageerr), (8, c.invcnt)]
  else if o = 0x00 then pack [(4, i.ifen), (1, b2n i.tunEn)]
  else if o = 0x04 then pack [(2, n.tsync), (1, b2n x.mr.view.tbad), (1, 0), (12, enc 12 n.ofs), (16, enc 16 n.rate)]
  else if o = 0x08 then n.tofs.toNat % 2 ^ 32
  else if o = 0x0C then n.tofs.toNat / 2 ^ 32
  else if o = 0x10 ∨ o = 0x14 then
    let e := vget n.eths {} ((o - 0x10) / 4)
    pack [(1, b2n e.link), (2, e.spd), (5, 0), (8, e.rxdisc), (8, e.txerr), (8, e.arp.length)]
  else if o = 0x18 ∨ o = 0x1C then
    let k := (o - 0x18) / 4
    let c := vget n.cans {} k
    pack [(2, if x.running && !bitOf i.ifen (2 + k) then 3 else c.st), (6, 0), (8, c.tec), (8, c.other), (8, c.busoff)]
  else if o = 0x20 then pack [(16, n.qdrop)]
  else if o = 0x24 then pack [(16, n.tunreq), (16, n.tundrop)]
  else 0
where
  connCode : ConnState → Nat
    | .unused => 0
    | .wait => 1
    | .valid => 2
    | .invalid => 3
    | .ackwait => 4
    | .producing => 5

end Sys2Proof.Machine
end

