-- ==== Sys2Proof/Machine/Sched.lean ====
section
/-! DEFINITION. Task queues, stealing and pre-emption, the finish line's arrivals, shedding, and what islands report
(chapters 1 and 3). -/

namespace Sys2Proof.Machine

/-- The scheduler of lane l changed by f. -/
def State.modSched (s : State) (l : LaneId) (f : Sched → Sched) : State := s.modLN l fun x => { x with sched := f x.sched }

/-! ### Queues (R103, R108, R114) -/

/-- The context is queued at a start gate (R103, R108, R114, R122): its class B, G, L or P, no earlier task of it waiting or
running, not shed, and not PINNED to a pod that cannot serve it. -/
def Lane.queuedAtGate (x : Lane) (r : CtxRec) : Bool :=
  let cl := clsOf r.typ
  let q := x.ln.sched
  (cl == .b || cl == .g || cl == .l || cl == .p) && !q.pending r.ctx && !(cl == .l && 3 ≤ q.step) &&
    !(r.typ == 11 && 4 ≤ q.step) && !x.stranded r

/-- A task of a context, queued in its home pod. -/
def CtxRec.task (r : CtxRec) (t : Nat) : Task := { ctx := r.ctx, cls := clsOf r.typ, home := r.home, fromTick := t }

/-- Contexts in ascending order of their IDs. -/
def ctxsUp (rs : List CtxRec) : List CtxRec :=
  (List.range 256).flatMap fun c => rs.filter fun r => r.ctx == c

/-- The SCHUSS contexts whose next stage is queued at this gate (R114, R190). -/
def Lane.stagesDue (x : Lane) : List CtxRec :=
  x.img.ctxs.filter fun r =>
    r.typ == 2 && (x.hyp r.index r.hyp).stageDue && !x.ln.sched.pending r.ctx && !x.stranded r

/-- The tasks of start gate t are queued; what is left of classes B and C is stopped (R108, R117). A result that arrived after
the cut-off waits for the next merge (R118). In layover nothing is queued. -/
def Lane.queueGate (x : Lane) (t : Nat) : Lane :=
  let q := x.ln.sched
  let kept := q.tasks.filterMap fun (k : Task) =>
    if k.pos == .stopped || ((k.cls == .b || k.cls == .c) && k.arrived?.isNone) then none else some ({ k with noThief := [] } : Task)
  let x : Lane := { x with ln := { x.ln with sched := { q with tasks := kept, cLate := [], cyc := none, thefts := [] } } }
  let rs := if x.running && !x.ln.pwr.layover && x.ln.on then (x.img.ctxs.filter x.queuedAtGate) ++ x.stagesDue else []
  let ts := kept ++ (ctxsUp rs).map fun r => r.task t
  { x with ln := { x.ln with sched := { x.ln.sched with
      tasks := ts
      lastSteals := q.steals
      lastPreempts := q.preempts
      steals := 0
      preempts := 0
      qdepth := Vector.ofFn fun (p : Fin 8) => (ts.filter fun k => k.home == p.val && k.pos == .waiting).length } } }

/-- The tasks of class C are queued when the merge is complete (R103, R114, R119). -/
def Lane.queueC (x : Lane) (t : Nat) : Lane :=
  let rs := if x.running && !x.ln.pwr.layover && x.ln.on then
      x.img.ctxs.filter (fun r => clsOf r.typ == .c && !x.stranded r)
    else []
  { x with ln := { x.ln with sched := { x.ln.sched with
      tasks := x.ln.sched.tasks ++ (ctxsUp rs).map fun r => r.task t } } }

/-! ### Blades (R107, R109 to R116) -/

/-- A migration is abandoned on a fault (R112, R370, R458): the task goes home, and the fault is recorded with a check of the
thief Blade. -/
def State.migFault (s : State) (l : LaneId) (p b : Nat) (t : Task) (f : PageFault) : State :=
  let x := s.lane l
  let s := s.modSched l fun q => { q with
    tasks := insertTask { t with noThief := (p, b) :: t.noThief } (q.tasks.filter fun u => u != t)
    migflt := satInc 0xFFFF q.migflt }
  let thief := pisteOf x.img (laneNum l) p b 0
  let s := s.faultRec l {
    code := f.code, origin := 1, wr := f.write, ctx := t.ctx, dom := ((x.img.ctx t.ctx).map CtxRec.dom).getD 0, va := f.va
    req := thief, aux1 := thief }
  let s := if f.code = 1 ∨ f.code = 2 then s.queueCheck l (bladeUnit p b) else s
  s.modLane l fun x => x.preemptAll l s.tick .b [.g, .s, .l, .p]

/-- The choice of a free Blade among what waits (R109): its own pod's head task, or else a steal. -/
def Lane.choice (x : Lane) (p b : Nat) : Option (Task × Bool) :=
  match x.ln.sched.ownTask p with
  | some t => some (t, false)
  | none => (x.stealTask p b).map fun t => (t, true)

/-- A steal of Blade (p', b') in this fabric cycle that Blade (p, b) wins (R110): of the task's own pod, or the lower pod and
Blade. -/
def winsOver (p b : Nat) (k : Task × Nat × Nat) : Bool := k.1.home == p || decide (8 * p + b < 8 * k.2.1 + k.2.2)

/-- The lane before the steals of this fabric cycle that Blade (p, b) wins. -/
def Lane.beforeThefts (x : Lane) (p b : Nat) (ks : List (Task × Nat × Nat)) : Lane :=
  let won := ks.filter fun k => winsOver p b k
  { x with ln := { x.ln with sched := { x.ln.sched with
    tasks := x.ln.sched.tasks.map fun u =>
      match won.find? fun k => k.1.ctx == u.ctx && u.pos == .running k.2.1 k.2.2 with
      | some k => k.1
      | none => u } } }

/-- A free Blade takes its choice, or loses it to a fault of its migration (R109, R111, R112); a steal is kept for R110. -/
def State.takeChoice (s : State) (l : LaneId) (p b : Nat) (mig : Option PageFault) (c : Option (Task × Bool)) : State :=
  match c, mig with
  | none, _ => s
  | some (t, true), some f => s.migFault l p b t f
  | some (t, st), _ =>
    let s := s.modLane l fun x => x.take l s.tick t p b st
    if st then s.modSched l fun q => { q with thefts := (t, p, b) :: q.thefts } else s

/-- A free Blade takes a task (R109 to R112). Where it is the better one for a task that a thief took in the same fabric cycle,
it takes that task, and the thief chooses again. -/
def State.bladeTake (s : State) (l : LaneId) (p b : Nat) (mig : Option PageFault) (cyc : Nat) : State :=
  let x := s.lane l
  if x.ln.sched.busy p b then s
  else match x.quarTask p b with
    | some t => s.modLane l fun x => x.take l s.tick t p b false
    | none =>
      if !x.bladeUp p b then s
      else
        let s := s.modSched l fun q => if q.cyc == some cyc then q else { q with cyc := some cyc, thefts := [] }
        let ks := (s.lane l).ln.sched.thefts
        let y := (s.lane l).beforeThefts p b ks
        let c := y.choice p b
        match ks.find? fun k => winsOver p b k && c.any fun d => d.1 == k.1 with
        | some (t, p', b') =>
          let s := s.modSched l fun q => { q with
            tasks := q.tasks.map fun u => if u.ctx == t.ctx && u.pos == .running p' b' then t else u
            steals := q.steals - 1
            thefts := q.thefts.filter fun k => k != (t, p', b') }
          let s := s.takeChoice l p b mig c
          s.takeChoice l p' b' none ((s.lane l).choice p' b')
        | none => s.takeChoice l p b mig ((s.lane l).choice p b)

/-- BLADE_FREE (R109): a Blade is free for its next task in a fabric cycle of the tick; what it ran and has not delivered is not
thereby lost. -/
def execBladeFree (l : LaneId) (pod blade : Fin 8) (mig : Option PageFault) (cyc : Nat) (s : State) :
    Host.Outcome State Fault Refusal :=
  .next (s.bladeTake l pod blade mig cyc)

/-- G_TASK_WAIT_EXPIRY: a task of class G has waited for 10 µs, and may pre-empt classes S, L and P (R115). -/
def execGTaskWaitExpiry (l : LaneId) (ctx : Fin 256) (s : State) : Host.Outcome State Fault Refusal :=
  .next (if (s.lane l).ln.sched.tasks.any fun t => t.ctx == ctx.val && t.cls == .g && t.pos == .waiting then
    s.modLane l (·.preemptOne l s.tick .g [.s, .l, .p]) else s)

/-! ### Results (R118, R104) -/

/-- SCHD_CTXRUN of an accepted task (R126). -/
def CtxRun.accept (r : CtxRun) (t : Task) (p b : Nat) : CtxRun :=
  { r with pod := p, blade := b, stolen := t.stolen, preempted := t.preempted }

/-- What the task of a context has computed is accepted (R113). -/
def LaneLN.acceptOf (x : LaneLN) (r : CtxRec) (started : Option Nat) : LaneLN :=
  if r.typ = 1 then x.modAxis r.index Axis.accept
  else if r.typ = 2 then x.modHyp r.index r.hyp fun h => h.accept started
  else if r.typ = 3 then x.modDway r.index Dway.accept
  else if r.typ = 4 then x.acceptSlalom
  else x

/-- The finish line accepts the result of a task that ran on Blade b of pod p (R113, R118, R126): its context's block is written
back. A result that the standby took from the segment is discarded when its own copy completes (R327). -/
def Lane.accept (x : Lane) (l : LaneId) (t : Nat) (k : Task) (p b : Nat) : Lane :=
  match x.img.ctx k.ctx with
  | none => x
  | some r =>
    if k.drop then { x with ln := x.ln.dropOf r }
    else
      let x := { x with
        ln := x.ln.acceptOf r k.started
        st := { x.st with ctxrun := vmod x.st.ctxrun k.ctx (·.accept k p b) } }
      x.storeBlock l t k.ctx

/-- An access of a task that is not speculative has faulted (R370, R372, R458): the task stops on Blade b of pod p, and what it
computed is lost. -/
def State.taskFault (s : State) (l : LaneId) (ctx p b code : Nat) (a : MemAccess) : State :=
  let i := s.img l
  let s := s.modLN l fun x =>
    let y := ((i.ctx ctx).map x.dropOf).getD x
    { y with sched := { y.sched with tasks := y.sched.tasks.map fun t =>
        if t.ctx == ctx && t.pos == .running p b then { t with pos := .stopped } else t } }
  let s := s.faultRec l {
    code := code, origin := 4, wr := a.write, ctx := ctx, dom := a.dom, va := a.va, req := pisteOf i (laneNum l) p b 0 }
  if code = 1 ∨ code = 2 then s.queueCheck l (bladeUnit p b) else s

/-- A task of a context that is not SCHUSS makes its accesses, if it runs: it is stopped by the first that faults. -/
def State.taskAccesses (s : State) (l : LaneId) (ctx : Nat) (accs : List MemAccess) : State :=
  let run := (s.lane l).ln.sched.tasks.findSome? fun t => match t.pos with
    | .running p b => if t.ctx == ctx && t.cls != .s then some (p, b) else none
    | _ => none
  match run, (s.img l).ctx ctx with
  | some (p, b), some r =>
    match s.accesses l (.context r.dom) accs with
    | (s, some (e, a)) => s.taskFault l ctx p b e a
    | (s, none) => s
  | _, _ => s

/-- TASK_RESULT: a running task has made its accesses to memory and delivered its last line, of at most 8, and its Blade is free
(R118); or it was stopped by a fault of one of them and delivers nothing (R372). -/
def execTaskResult (l : LaneId) (ctx : Fin 256) (lines : Nat) (accs : List MemAccess) (s : State) :
    Host.Outcome State Fault Refusal :=
  .next (if 8 < lines then s
    else
      let s := s.taskAccesses l ctx accs
      let done := (s.lane l).ln.sched.tasks.filterMap fun t => match t.pos with
        | .running p b => if t.ctx == ctx.val then some (t, p, b) else none
        | _ => none
      let s := s.modSched l fun q => { q with tasks := q.tasks.filterMap fun t =>
        match t.pos with
        | .running p b =>
          if t.ctx != ctx.val then some t
          else if t.drop then none
          else some { t with pos := .arrived p b, lines := lines }
        | _ => some t }
      let at' := s.tick
      done.foldl (fun s k => s.modLane l fun x => x.accept l at' k.1 k.2.1 k.2.2) s)

/-- The unit of the Blade that holds the task of a context, where one does. -/
def Lane.bladeOf (x : Lane) (ctx : Nat) : List Word :=
  x.ln.sched.tasks.filterMap fun t => match t.pos with
    | .running p b => if t.ctx == ctx then some (bladeUnit p b) else none
    | _ => none

/-- An axis has missed its base-control deadline (R39): its next record repeats the last command with HOLD, and the miss is
counted. -/
def State.axisMiss (s : State) (l : LaneId) (n : Nat) : State :=
  let s := s.modAxis l n fun a => { a with cmd := { a.cmd with hold := true } }
  s.modLN l fun x => { x with
    mod := { x.mod with dlmiss := true, misscnt := satInc 0xFFFF x.mod.misscnt, lastax := n }
    sched := { x.sched with missNow := true } }

/-- C_TASK_DEADLINE: a task of class C has not finished at 22 µs (R104). A ring's frame is not built, and every axis on it has
missed; the power die gets no command; the epoch of the tick stays unsealed. -/
def execCTaskDeadline (l : LaneId) (ctx : Fin 256) (s : State) : Host.Outcome State Fault Refusal :=
  let x := s.lane l
  let late := x.ln.sched.tasks.any fun t => t.ctx == ctx.val && t.cls == .c && t.arrived?.isNone
  .next (if !late then s
    else
      let s := s.modSched l fun q => { q with
        tasks := q.tasks.filter fun t => t.ctx != ctx.val || t.arrived?.isSome
        cLate := ctx.val :: q.cLate }
      match x.img.ctx ctx.val with
      | some r =>
        if r.typ = 6 then
          let s := s.modRing l r.index fun g => { g with built := none }
          let miss := (x.img.axisRecs.any fun a => a.ring == r.index)
          let s := if miss then s.modSched l fun q => { q with gLate := true, slackLast := 0, slackMin := 0 } else s
          let s := (x.bladeOf ctx.val).foldl (fun s u => s.queueCheck l u) s
          (x.img.axisRecs.filter fun a => a.ring == r.index).foldl (fun s a => s.axisMiss l a.axis) s
        else s
      | none => s)

/-! ### Shedding (R122 to R124) -/

/-- The tasks that the next lower step would queue again (R114, R122, R123, R197). -/
def Lane.restored (x : Lane) (step : Nat) : List CtxRec :=
  x.img.ctxs.filter fun r => !x.stranded r &&
    (if step = 4 then r.typ == 11
     else if step = 3 then r.typ == 10
     else r.typ == 2 && kept (x.acfg r.index) (hypkeep (step - 1)) r.hyp && !kept (x.acfg r.index) (hypkeep step) r.hyp)

/-- PRED of R123 at a step above 0, in %: what the tick used and what the next lower step would add, over the capacity. -/
def Lane.predOf (x : Lane) (step used capacity : Nat) : Nat :=
  if step = 0 then 0
  else
    let rs := x.restored step
    let need := used + (rs.map CtxRec.budget).sum + 216 * (rs.filter fun r => x.podDown r.home).length
    if capacity = 0 then 0xFF else min 0xFF (100 * need / capacity)

/-- The step is lowered (R123): nothing has spoken for a raise for 400 ticks, and the step is above SHFLOOR. -/
def State.shedLower (s : State) (l : LaneId) : State :=
  let x := s.lane l
  if s.owns l && 400 ≤ x.ln.sched.calm && x.ln.sched.nextStep == x.ln.sched.step && x.mr.shfloor < x.ln.sched.step then
    s.modSched l fun q => { q with nextStep := q.step - 1, calm := 0 }
  else s

/-- SHED_STEP_LOWER (R123). -/
def execShedStepLower (l : LaneId) (s : State) : Host.Outcome State Fault Refusal := .next (s.shedLower l)

/-- The active lane judges its step in the collect window (R123). A tick without capacity counts as FFh in UTIL (DESIGN
CHOICE, log entry 64). -/
def State.shedJudge (s : State) (l : LaneId) (m : MergeMeas) : State :=
  let x := s.lane l
  let q := x.ln.sched
  let pred := x.predOf q.step m.used m.capacity
  let slack := if q.missNow then 0 else min m.slack 0xFFFF
  let s := s.modSched l fun q => { q with
    slackLast := slack
    slackMin := min q.slackMin slack
    pred := pred
    capUnits := min 0xFFFF (m.capacity / 64)
    utils := ((if m.capacity = 0 then 0xFF else 100 * m.used / m.capacity) :: q.utils).take 16
    freq := m.freq.map fun f => min 0x3FF f
    lastcyc := min 0x3FF m.fabricCycles
    maxcyc := max q.maxcyc (min 0x3FF m.fabricCycles) }
  if !s.owns l then s.modSched l fun q => { q with gLate := false, sLate := false }
  else
    let bad := decide (slack < 10 * x.st.slackmin) || q.gLate || q.sLate || q.missNow
    let calm := !bad && decide (20 * x.st.slackmin ≤ slack) && decide (pred ≤ 90)
    let s := s.modSched l fun q => { q with
      nextStep := q.step, gLate := false, sLate := false, calm := if calm then q.calm + 1 else 0 }
    if (bad && q.step < 4) || q.step < x.mr.shfloor then
      s.modSched l fun q => { q with nextStep := q.step + 1, raises := satInc 0xFFFF q.raises, calm := 0 }
    else s.shedLower l

/-! ### Islands (R30, R34) -/

/-- HANDSHAKE_TIMEOUT: the relay point is checked (R30, R458). -/
def execHandshakeTimeout (l : LaneId) (relay : Fin 64) (s : State) : Host.Outcome State Fault Refusal :=
  .next (s.queueCheck l (relayUnit relay))

/-- START_GATE_LOSS: an island got no start gate within 27.5 µs and starts its own tick from its local copy; a second loss in a
row is a handshake timeout too (R34). -/
def execStartGateLoss (l : LaneId) (island : Fin 16) (s : State) : Host.Outcome State Fault Refusal :=
  let m := (s.lane l).ln.mod
  let seen := vget m.gateMiss none island
  let again := match seen with
    | some k => ticksSince s.tick k == 1
    | none => false
  .next (if seen == some s.tick then s
    else
      let s := s.modLN l fun x => { x with
        mod := { x.mod with gateloss := true, gateMiss := vmod x.mod.gateMiss island fun _ => some s.tick }
        islands := vmod x.islands island fun v => v.ownTick island s.lines.gate }
      if again then s.queueCheck l (relayUnit (Config.relayOf l island % 64)) else s)

end Sys2Proof.Machine
end

