-- ==== Sys2Proof/Machine/Power.lean ====
section
/-! DEFINITION. Supplies, the reference crystal, resets and layover (chapter 17). -/

namespace Sys2Proof.Machine

/-- Power fields of the module of class MR changed. -/
def State.modPwr (s : State) (f : PwrMR → PwrMR) : State := { s with pwr := f s.pwr }

/-- Power fields of lane l of class LN changed. -/
def State.modLay (s : State) (l : LaneId) (f : PwrLN → PwrLN) : State := s.modLN l fun x => { x with pwr := f x.pwr }

/-! ### Lane reset and start (R16, R91, R466, R481, R484) -/

/-- LCAUSE of a lane reset (R481). -/
def causeCode : LaneCause → Nat
  | .module => 1
  | .watchdog => 2
  | .host => 3
  | .referee => 4

/-- What a reset of cause code k leaves of a lane's permanent fields: the cause and the count. -/
def LaneKeep.reset (x : LaneKeep) (k : Nat) : LaneKeep := { x with lcause := k, lcount := satInc 0xFF x.lcount }

/-- A lane is reset (R16, R481): classes LN and ST return to their reset values, a live re-stream is discarded (R91), a load
that the lane carried out ends, and HBUSY rises (R385, R484). The referee's record of lane A starts anew (R343, R345). -/
def State.resetLane (s : State) (l : LaneId) (cause : LaneCause) : State :=
  let s := s.liveDiscard 0x10
  let s := if s.owns l then s.loadAbort l.other else s
  let now := s.lines.now
  let s := s.modLane l fun x => { x with ln := { offAt := now }, st := {}, keep := x.keep.reset (causeCode cause) }
  let s := s.setRole l .starting
  let s := s.modRef fun r => if l = .a then { r with lapass := false, revpend := false, clean := 0 } else r
  (s.modLines fun x => { x with busyAt := x.now }).modPort fun p => { p with busyReset := true }

/-- LANE_RESET (R481). A lane's part of a module reset comes with MODULE_RESET. -/
def execLaneReset (l : LaneId) (cause : LaneCause) (s : State) : Host.Outcome State Fault Refusal :=
  .next (if s.lines.inReset then s else s.resetLane l cause)

/-- STEWARD_WATCHDOG: the steward has not served its watchdog for so many ms (R458, R481). -/
def execStewardWatchdog (l : LaneId) (ms : Nat) (s : State) : Host.Outcome State Fault Refusal :=
  .next (if s.lines.inReset || !(s.lane l).ln.on || ms < 10 then s else s.resetLane l .watchdog)

/-- LRST: a write that names one lane resets it; one that names both is rejected (R481, R490). -/
def State.lrst (s : State) (l : LaneId) (mask : BitVec 2) : State :=
  if mask = 3 then (s.modLay l fun x => { x with ctlrej := true }).attn l 16
  else if mask = 1 then s.resetLane .a .host
  else if mask = 2 then s.resetLane .b .host
  else s

/-- LRST, written in lane l. -/
def execLrst (l : LaneId) (mask : BitVec 2) (s : State) : Host.Outcome State Fault Refusal :=
  .next (if s.lines.inReset || !(s.lane l).ln.on then s else s.lrst l mask)

/-- Retirements are applied before the first start gate: a relay point among them, or a row that found no replacement,
degrades the lane (R466, R467). Fenced Blades and replaced rows hold through the reset. -/
def State.retire (s : State) (l : LaneId) : State :=
  let k := (s.lane l).keep
  let s := if (List.range 16).any fun b => (vget k.banks {} b).short then s.degrade l 3 else s
  if k.retired.any fun r => unitType r.1 == 4 then s.degrade l 5 else s

/-- The 100 µs that a reset of lane l lasts have passed (R481): of a module-level reset since its release, of a lane's own
since it came. -/
def State.laneDue (s : State) (l : LaneId) : Bool :=
  let since := if (s.lane l).keep.lcause = 1 then s.lines.freeAt else (s.lane l).ln.offAt
  decide (10000 ≤ (s.lines.now - since).toNat)

/-- LANE_START: 100 µs after its reset the lane starts: its steward runs under the next number, its retirements apply, and its
lane check is queued (R395, R458, R466, R481). -/
def execLaneStart (l : LaneId) (s : State) : Host.Outcome State Fault Refusal :=
  if s.lines.inReset || (s.lane l).ln.on || !s.laneDue l then .next s
  else
    let s := if (s.lane l).keep.lcause = 1 then s else s.modLines fun x => { x with busyAt := x.now }
    let s := s.modLN l fun x => { x with on := true, host := { x.host with swrun := true } }
    let s := s.modKeep l fun k => { k with swno := k.swno + 1 }
    .next ((s.retire l).queueCheck l (laneUnit l))

/-! ### Module resets (R16, R478, R482, R483) -/

/-- A lane after a module-level reset. MOD_TBHI is of class PO. -/
def Lane.reset (x : Lane) (po : Bool) : Lane := { keep := x.keep.reset 1, tbhi := if po then 0 else x.tbhi }

/-- The power die after a module-level reset: every gang off through its clamps (R417, R482). -/
def PowerDie.reset (p : PowerDie) : PowerDie :=
  { chs := p.chs.map fun c => ({ clamped := c.clamped || c.onNow } : LoadCh) }

/-- A ring's output stage after a module-level reset: idle, with nothing to repeat (R482). The bricks run on. -/
def RingHw.reset (h : RingHw) : RingHw := { h with line := [], bcn := [], last := none, reps := 0, repNow := false }

/-- A module-level reset (R16, R482, R483): classes MR, LN and ST, and at a power-on reset PO, return to their reset values,
and the reset is held. The configuration store, the logs, memory and every other field of class — keep their content, also
where a supply was lost (SRAM: DESIGN CHOICE, log entry 4). -/
def State.resetModule (s : State) (po : Bool) (cause : Nat) : State :=
  { s with
    lines := if po then { low := s.lines.low, plugLevel := s.lines.plugLevel, plugGood := s.lines.plugGood }
      else { s.lines with inReset := true, po := false, mx := Vector.replicate 8 false, phyRst := Vector.replicate 2 true }
    port := {}
    laneA := s.laneA.reset po
    laneB := s.laneB.reset po
    ref := {}
    sc := { chk := s.keep.inLast }
    pwr := { slewing := !po && s.pwr.slewing }
    pd := s.pd.reset
    rings := s.rings.map RingHw.reset
    keep := { s.keep with mcause := cause, mcount := satInc 0xFF s.keep.mcount } }

/-- A power-on reset is held already. -/
def State.poHeld (s : State) : Bool := s.lines.inReset && s.lines.po

/-- POWER_ON_RESET: PORB was low on so many consecutive samples; the filter takes 100 (R478). -/
def execPowerOnReset (samples : Nat) (s : State) : Host.Outcome State Fault Refusal :=
  .next (if samples < 100 || s.poHeld then s else s.resetModule true 2)

/-- MODULE_RESET: the same of MRSTB (R478). While a reset is held it adds nothing. -/
def execModuleReset (samples : Nat) (s : State) : Host.Outcome State Fault Refusal :=
  .next (if samples < 100 || s.lines.inReset then s else s.resetModule false 3)

/-- The thresholds of a logic supply in mV: low below, good above (R473). -/
def railLow : Rail → Nat
  | .vmain => 4500
  | .vio | .vsafe => 3000

def railGood : Rail → Nat
  | .vmain => 4600
  | .vio | .vsafe => 3070

/-- A reading of PWR_VMON in mV (R490). -/
def railMv (r : Rail) (reading : Byte) : Nat :=
  match r with
  | .vmain => 25 * reading.toNat
  | .vio | .vsafe => 20 * reading.toNat

/-- SUPPLY_LOW: a logic supply has stayed at a reading for 5 µs. Below its threshold a power-on reset is held (R473, R478). -/
def execSupplyLow (rail : Rail) (reading : Byte) (s : State) : Host.Outcome State Fault Refusal :=
  if railLow rail ≤ railMv rail reading then .next s
  else
    let t := if s.poHeld then s else s.resetModule true 1
    .next (t.modLines fun x => { x with low := if x.low.contains rail then x.low else rail :: x.low })

/-- SUPPLY_GOOD: a logic supply has stayed at a reading for 1 ms, and is good above its threshold (R473, R474). -/
def execSupplyGood (rail : Rail) (reading : Byte) (s : State) : Host.Outcome State Fault Refusal :=
  .next (s.modLines fun x =>
    let x := if railGood rail < railMv rail reading then { x with low := x.low.filter fun r => r != rail } else x
    match rail with
    | .vmain => { x with vmain := reading.toNat }
    | .vio => { x with vio := reading.toNat }
    | .vsafe => { x with vsafe := reading.toNat })

/-- RESET_RELEASE: PORB and MRSTB are high, and the supplies have been good for so many ms; a power-on reset ends after 10
(R474, R478). The safety path starts, and a low RQRSTB is ignored (R285, R401, R480, R483). -/
def execResetRelease (rqLow : Bool) (ms : Nat) (s : State) : Host.Outcome State Fault Refusal :=
  if !s.lines.inReset || !s.lines.low.isEmpty || (s.lines.po && ms < 10) then .next s
  else
    let s := (s.modLines fun x => { x with inReset := false, po := false, freeAt := x.now, busyAt := x.now }).safetyStart
    .next (if rqLow then (s.modPwr fun p => { p with rqfailc := true }).attnBoth 16 else s)

/-- A lane is in a reset of its own. -/
def Lane.inOwnReset (x : Lane) : Bool := !x.ln.on && x.keep.lcause != 1

/-- HBUSY_RESET_END: 2 ms after the release of the last reset (R385). -/
def execHbusyResetEnd (s : State) : Host.Outcome State Fault Refusal :=
  .next (if s.lines.inReset || s.laneA.inOwnReset || s.laneB.inOwnReset
      || (s.lines.now - s.lines.busyAt).toNat < 200000 then s
    else s.modPort fun p => { p with busyReset := false })

/-! ### The service reset request (R479, R480) -/

/-- SERVICE_RESET_PRESS: the rising edge after a low level of so many ms. -/
def execServiceResetPress (ms : Nat) (s : State) : Host.Outcome State Fault Refusal :=
  .next (if s.lines.inReset || s.pwr.rqstuck || s.pwr.rqfailc || s.pwr.rqpend || ms < 50 || 2000 < ms then s
    else s.modPwr fun p => { p with rqpend := true, rqsince := s.lines.now })

/-- The report of a lane that the referee holds. -/
def Referee.report (r : Referee) : LaneId → LaneReport
  | .a => r.repa
  | .b => r.repb

/-- The referee may perform the reset it was asked for (R479). -/
def State.serviceDue (s : State) : Bool :=
  let x := s.lane s.ref.owner
  s.pwr.rqpend && (!s.ref.token || !x.running || x.ln.pwr.layover || (s.ref.report s.ref.owner).quiet)

/-- SERVICE_RESET (R479). -/
def execServiceReset (s : State) : Host.Outcome State Fault Refusal :=
  .next (if s.serviceDue then s.resetModule false 4 else s)

/-- SERVICE_RESET_DENY: no quiet tick within 60 s (R479). -/
def execServiceResetDeny (s : State) : Host.Outcome State Fault Refusal :=
  .next (if s.pwr.rqpend && !s.serviceDue && 6000000000 ≤ (s.lines.now - s.pwr.rqsince).toNat then
    (s.modPwr fun p => { p with rqpend := false, rqdeny := true }).attnBoth 16
  else s)

/-- RQSTUCK: RQRSTB has been low for so many ms, more than 2 s (R480). -/
def execRqstuck (ms : Nat) (s : State) : Host.Outcome State Fault Refusal :=
  .next (if ms ≤ 2000 || s.lines.inReset || s.pwr.rqstuck || s.pwr.rqfailc then s
    else (s.modPwr fun p => { p with rqstuck := true }).attnBoth 16)

/-- RQ_INPUT_RELEASE: RQRSTB has been high for so many ms; 100 end what R480 ignores. -/
def execRqInputRelease (ms : Nat) (s : State) : Host.Outcome State Fault Refusal :=
  .next (if ms < 100 then s else s.modPwr fun p => { p with rqstuck := false, rqfailc := false })

/-! ### The reference crystal (R476, R477) -/

/-- XREF_LOSS: no edge for so many ns, or so many ppm off over 1 ms: at 1 µs, or above 1,000 ppm, XREF is lost and holdover
begins (R476). -/
def execXrefLoss (noEdge ppm : Nat) (s : State) : Host.Outcome State Fault Refusal :=
  .next (if noEdge < 1000 && ppm ≤ 1000 || s.pwr.xloss && !s.pwr.slewing then s
    else (((s.modLines fun x => { x with tblock := false }).modPwr fun p =>
      { p with xloss := true, xevt := true, slewing := false })).attnBoth 16)

/-- XREF_REGAIN: XREF has stayed within so many ppm for so many ms: within 200 for 100 it is regained, and the PLLs slew back
(R477). -/
def execXrefRegain (ppm ms : Nat) (s : State) : Host.Outcome State Fault Refusal :=
  .next (if s.lines.tblock || 200 < ppm || ms < 100 then s else s.modPwr fun p => { p with slewing := true })

/-- XREF_SLEW_END. -/
def execXrefSlewEnd (s : State) : Host.Outcome State Fault Refusal :=
  .next (if s.pwr.slewing then
    (s.modLines fun x => { x with tblock := true }).modPwr fun p => { p with slewing := false, xloss := false }
  else s)

/-! ### Layover (R485 to R488) -/

/-- LAYIN is accepted on a lane (R485). -/
def Lane.mayLay (x : Lane) : Bool :=
  x.running && x.doorsShut && x.axesRest && x.ln.strm.st != .liveStaging && x.ln.strm.st != .liveReady

/-- LAYIN at a start gate, in both lanes (R485); one that comes in layover is accepted and changes nothing. -/
def State.layin (s : State) (l : LaneId) : State :=
  (s.reached l).foldl (fun s k =>
    let x := s.lane k
    if x.ln.pwr.layover then s
    else if x.mayLay then s.modLay k fun p => { p with layover := true, layFrom := s.tick, waking := none }
    else (s.modLay k fun p => { p with layrej := true }).attn k 16) s

/-- LAYIN. -/
def execLayin (l : LaneId) (s : State) : Host.Outcome State Fault Refusal := .next (s.layin l)

/-- POD_GATING: from the second start gate of layover every pod island is gated, unless a wake came first (R485, R491). -/
def State.podGating (s : State) (l : LaneId) : State :=
  let p := (s.lane l).ln.pwr
  if p.layover && 2 ≤ ticksSince s.tick p.layFrom && p.waking.isNone then s.modSched l fun q => { q with gated := 0xFF } else s

/-- POD_GATING. -/
def execPodGating (l : LaneId) (s : State) : Host.Outcome State Fault Refusal := .next (s.podGating l)

/-- WAKEWHY (R487). -/
def wakeCode : WakeWhy → Nat
  | .post => 1
  | .safetyInput => 2
  | .packet => 3
  | .layout => 4

/-- An axis is judged at the wake as if its power stage had been lost at the entry and restored now (R173, R174, R487). -/
def State.wakeAxis (s : State) (l : LaneId) (n : Nat) : State :=
  let x := s.lane l
  if !x.hasAxis n then s
  else
    let c := x.acfg n
    let hst := ((x.slotOf n).up.map UpRec.hst).getD (x.axis n).cur.hall.hstate
    let s := s.axNow l n fun a => (a.powerLost c).powerBack c hst (s.lines.gate - 2500)
    s.modLN l (·.squashAll n)

/-- A doorway with an axis of KRES 3 or 4 stops without a position (R487). -/
def State.wakeDoor (s : State) (l : LaneId) (d : Nat) : State :=
  let x := s.lane l
  if (x.dcfg d).defd && (x.dcfg d).axesUp.any fun n => 3 ≤ (x.axis n).newest.keep.kres then
    s.haltDoor l d (fun _ => true) fun z => { z with nopos := true, noPosHeld := true }
  else s

/-- Lane l leaves layover at this gate (R487). -/
def State.wakeLane (s : State) (l : LaneId) (why : WakeWhy) : State :=
  let s := s.modSched l fun q => { q with gated := 0 }
  let s := s.modLay l fun p => { p with
    layover := false, waking := none, wakewhy := wakeCode why, wakes := satInc 0xFFFF p.wakes }
  let s := (List.range 24).foldl (fun s n => s.wakeAxis l n) s
  (List.range 12).foldl (fun s d => s.wakeDoor l d) s

/-- LAYOVER_WAKE: the pods are powered again after a wake event, and take tasks from this gate on, in both lanes (R487). The
first event that came is the one recorded; `why` is this one. -/
def execLayoverWake (why : WakeWhy) (s : State) : Host.Outcome State Fault Refusal :=
  .next ([LaneId.a, LaneId.b].foldl (fun s l =>
    let p := (s.lane l).ln.pwr
    if p.layover then s.wakeLane l (p.waking.getD why) else s) s)

/-- WAKE_PACKET (R488): a datagram to a port of lane l. -/
def execWakePacket (l : LaneId) (i : Fin 2) (port : Nat) (payload : List Byte) (s : State) :
    Host.Outcome State Fault Refusal :=
  .next (if s.netOn l i then s.wakeIn l i port payload else s)

/-! ### The PWR block (R489, R490) -/

/-- A register of PWR, by offset. -/
def State.readPwr (s : State) (l : LaneId) (o : Nat) : Nat :=
  let x := s.lane l
  let p := x.ln.pwr
  match o with
  | 0x00 => maskOf [s.pwr.xloss, s.pwr.xevt, p.layover, p.layrej, s.pwr.rqpend, s.pwr.rqdeny, s.pwr.rqstuck, s.pwr.rqfailc,
      p.ctlrej]
  | 0x04 => pack [(4, s.keep.mcause), (4, x.keep.lcause), (8, s.keep.mcount), (8, x.keep.lcount)]
  | 0x0C => pack [(3, p.wakewhy), (13, 0), (16, p.wakes)]
  | 0x10 => pack [(16, x.mr.wakeport), (1, b2n x.mr.wakeif0), (1, b2n x.mr.wakeif1)]
  | 0x14 => pack [(8, s.lines.vmain), (8, s.lines.vio), (8, s.lines.vsafe), (8, s.lines.vsout)]
  | _ => 0

/-- WAKEPORT may take a value: 0, or a port that no other function of the image uses (R490). -/
def Image.wakeportOk (i : Image) (p : Nat) : Bool :=
  p == 0 || (decide (1024 ≤ p) && p != 319 && p != 320 &&
    !((List.range 64).any fun k => i.trPath k % 4 != 0 && i.trPort k == p) &&
    !(i.tunEn && i.tunPort == p) && !(i.colIp != 0 && i.colPort == p))

/-- The W1C flags of PWR_STAT. -/
def State.clearPwr (s : State) (l : LaneId) (o n : Nat) : State :=
  if o = 0 then
    let s := s.modPwr fun p => { p with xevt := p.xevt && !bitOf n 1, rqdeny := p.rqdeny && !bitOf n 5 }
    s.modLay l fun p => { p with layrej := p.layrej && !bitOf n 3, ctlrej := p.ctlrej && !bitOf n 8 }
  else s

/-- A write of PWR, by offset; PWR_CTL acts as commands of their own rows. -/
def State.writePwr (s : State) (l : LaneId) (o : Nat) (w : Word) : State :=
  let n := w.toNat
  match o with
  | 0x10 =>
    let i := s.img l
    s.modMR l fun m => { m with
      wakeport := if i.wakeportOk (n % 65536) then n % 65536 else m.wakeport
      wakeif0 := bitOf n 16
      wakeif1 := bitOf n 17 }
  | _ => s

/-- The commands of a write of PWR_CTL: LRST, LAYIN and LAYOUT; LAYIN with LAYOUT is rejected (R490). -/
def State.commandPwr (s : State) (l : LaneId) (w : Word) : State :=
  let n := w.toNat
  let s := s.lrst l (BitVec.ofNat 2 n)
  if bitOf n 2 && bitOf n 3 then (s.modLay l fun x => { x with ctlrej := true }).attn l 16
  else if bitOf n 2 then s.layin l
  else if bitOf n 3 then s.wake .layout
  else s

end Sys2Proof.Machine
end

