-- ==== Sys2Proof/Machine/LaneRed.lean ====
section
/-! DEFINITION. Lane redundancy and the referee: reports, epochs, decisions, joining and the return of lane A (chapter 11). -/

namespace Sys2Proof.Machine

/-- Redundancy fields of lane l changed. -/
def State.modRed (s : State) (l : LaneId) (f : RedLN → RedLN) : State := s.modLN l fun x => { x with red := f x.red }

/-- The standby: a started lane that does not hold the token while the other does. -/
def State.standby (s : State) (l : LaneId) : Bool := s.ref.token && s.ref.owner != l && (s.lane l).ln.on

/-- The sync link carries epochs to lane l. -/
def State.linked (s : State) (l : LaneId) : Bool :=
  s.standby l && s.linkUp l

/-- The heartbeat of lane l is lost (R330). -/
def Referee.isLost (r : Referee) (l : LaneId) : Bool := r.lost.getLsbD (laneNum l)
def Referee.setLost (r : Referee) (l : LaneId) (b : Bool) : Referee :=
  let m := BitVec.ofNat 2 (2 ^ laneNum l)
  { r with lost := if b then r.lost ||| m else r.lost &&& ~~~m }

/-- The role of lane l as the referee knows it. -/
def Referee.role (r : Referee) : LaneId → Role
  | .a => r.rolea
  | .b => r.roleb

/-- The count of clean epochs starts anew when lane A is concerned (R343). -/
def State.unclean (s : State) (l : LaneId) : State := if l = .a then s.modRef fun r => { r with clean := 0 } else s

/-! ### Reports (R329, R330, R342) -/

/-- The down records and the service window of a frame, without its header (R329). -/
def downPart (r : Nat) (f : List Byte) : List Byte :=
  match hdrOf r f with
  | some h => slice f 8 (16 * h.nb + if h.svc then 70 else 0)
  | none => []

/-- BUILT: the enabled rings for which the lane has built a frame. -/
def Lane.builtMask (x : Lane) : BitVec 4 :=
  BitVec.ofNat 4 (maskOf ((List.range 4).map fun r => x.img.ringen r && (x.ring r).built.isSome))

/-- FCRC over the frames in BUILT, in order from GA to GD. -/
def Lane.frameCrc (x : Lane) : Word :=
  crc32c ((List.range 4).flatMap fun r =>
    if x.builtMask.getLsbD r then downPart r ((x.ring r).built.getD []) else [])

/-- The present tick is a quiet tick for lane l (R342). -/
def State.quiet (s : State) (l : LaneId) : Bool :=
  let x := s.lane l
  (List.range 24).all (fun n => !x.hasAxis n ||
      (let a := (x.axis n).cur
       a.prof.phase == .idle && a.hall.still && a.obs.ostate != .braking && a.obs.ostate != .relief)) &&
    (List.range 12).all (fun d => !(x.dcfg d).defd || !(x.dway d).cur.waitg) &&
    !s.commitDue && decide (80 ≤ x.ln.rpt.same)

/-- Bits [15:0] of IMGCRC; 0 where no stream runs. -/
def Lane.imgLow (x : Lane) : BitVec 16 := if x.running then x.img.crc.setWidth 16 else 0

/-- The report of lane l (R329). -/
def State.makeReport (s : State) (l : LaneId) : LaneReport :=
  let x := s.lane l
  { here := true, tick := s.tick, built := x.builtMask, fcrc := x.frameCrc, role := x.ln.role, degr := x.ln.hlth.degr,
    quiet := s.quiet l, img := x.imgLow }

/-- The two reports of this tick are compared (R330): mismatches of a standby in SYNC count in a row and clear REVPEND (R343);
a joining lane's clean ticks count too (R341). -/
def State.compare (s : State) : State :=
  let o := s.ref.owner
  let a := s.ref.report o
  let b := s.ref.report o.other
  if !s.ref.token || !a.here || !b.here || a.tick != s.tick || b.tick != s.tick then s
  else
    let differs := a.built == b.built && a.fcrc != b.fcrc
    let mis := differs && b.role == .sync && !s.ref.divtest
    let s := s.modRef fun r => { r with
      mism := if mis then r.mism + 1 else 0
      revpend := r.revpend && !mis
      clean := if mis then 0 else r.clean }
    s.modRed o.other fun x => if x.jstate = 4 then { x with clean := if differs then 0 else x.clean + 1 } else x

/-! ### Epochs (R323 to R327) -/

/-- The accepted blocks of a lane. -/
def Lane.blocks (x : Lane) : Blocks :=
  { axes := x.ln.axes.map Axis.block, dways := x.ln.dways.map Dway.block, slalom := x.ln.slalomBlock
    hyps := x.ln.hyps.map fun v => v.map fun h => { h with work := none } }

/-- The 64 bytes of the merge segment header (R324). -/
def MergeHdr.bytes (h : MergeHdr) : List Byte :=
  toLE 4 h.tick ++ toLE 1 (maskOf [h.livecmt, h.first, h.cold]) ++ toLE 1 h.step ++ toLE 2 ((h.carried.map Prod.snd).sum) ++
    toLE 4 h.dlen ++ toLE 2 h.carry ++ zeros 2 ++ toLE 32 (maskOf ((List.range 256).map h.mset.contains)) ++ toLE 4 h.img.toNat ++
    zeros 12

/-- A yield log entry in the data segment. -/
def YEntry.bytes (e : YEntry) : List Byte := (List.range 4).flatMap fun i => toLE 4 (e.word i)

/-- The three segments of an epoch of lane l (R323): every line has its tag. -/
def Epoch.bytes (e : Epoch) (l : LaneId) : List Byte :=
  let t := e.hdr.tick
  let tag := fun (kind k : Nat) => toLE 4 (Config.lineTag kind t k).toNat
  let results := e.hdr.carried.flatMap fun c => (List.range c.2).map fun k => (c.1, k)
  Config.gateBytes t (e.writes.map fun w => (w.addr, w.words)) e.nets ++ e.hdr.bytes ++
    (results.zipIdx.flatMap fun r => tag 0 r.2 ++ (List.range 32).map fun i => Config.resultByte l r.1.1 t (32 * r.1.2 + i)) ++
    (e.lines.zipIdx.flatMap fun r => tag 1 r.2 ++ r.1.2.2) ++
    (e.ylog.zipIdx.flatMap fun r => tag 2 r.2 ++ r.1.bytes) ++ (e.recs.zipIdx.flatMap fun r => tag 3 r.2 ++ r.1.2)

/-- The CRC-32C of the seal (R57, R323). -/
def Epoch.crc (e : Epoch) (l : LaneId) : Word := crc32c (e.bytes l)

/-- As many result lines as the merge segment of 2,080 bytes holds after its header: 56 of 32 bytes with their tags (R323,
R324). -/
def fitLines : List (Nat × Nat) → Nat → List (Nat × Nat)
  | [], _ => []
  | c :: cs, room => if c.2 ≤ room then c :: fitLines cs (room - c.2) else []

/-- As many of a tick's datagrams as the gate segment of 1,024 bytes holds beside its tick number and writes (R323). -/
def fitNets : List (Nat × List Byte) → Nat → List (Nat × List Byte)
  | [], _ => []
  | n :: ns, room => if n.2.length ≤ room then n :: fitNets ns (room - n.2.length) else []

/-- The lines of the blocks written back since the last data segment, after those deferred (R323, R326). -/
def Lane.linesDue (x : Lane) : List (Nat × Nat) :=
  let fresh := (ctxsUp x.img.ctxs).filter fun r => x.ln.sched.wrote.contains r.ctx
  let ls := fresh.flatMap fun r => (List.range (r.bsize / 64)).map fun k => (r.ctx, k)
  x.ln.red.deferred ++ ls.filter fun k => !x.ln.red.deferred.contains k

/-- A line of a context's block as it lies in memory. -/
def Lane.blockLine (x : Lane) (k : Nat × Nat) : Nat × Nat × List Byte :=
  match x.img.ctx k.1 with
  | some r => (k.1, k.2, Memory.read x.keep.mem (x.img.blockBase r + 64 * k.2) 64)
  | none => (k.1, k.2, zeros 64)

/-- Bytes of the data segment beside its block lines (R323). -/
def dataExtra (ylog : List YEntry) (recs : List (Nat × List Byte)) : Nat :=
  20 * ylog.length + (recs.map fun r => r.2.length + 4).sum

/-- The epoch of this tick, made up at the merge of the lane with the token; the header goes to a linked standby (R323, R324).
The data segment holds 14,336 bytes: what does not fit of the block lines is deferred. -/
def State.makeEpoch (s : State) (l : LaneId) : State :=
  let x := s.lane l
  let g := x.ln.ledg
  let extra := dataExtra x.ln.ylDue g.recent
  let due := x.linesDue
  let room := (14336 - extra) / 68
  let ep : Epoch := {
    hdr := {
      tick := s.tick, livecmt := s.commitDue, first := x.ln.red.firstEp, cold := x.ln.red.coldEp, step := x.ln.sched.nextStep
      dlen := extra + 68 * min room due.length, carry := due.length - room, mset := x.ln.sched.merged, img := x.img.crc
      carried := fitLines x.ln.sched.carried 56 }
    writes := x.ln.applied
    nets := fitNets x.ln.net.handed (1020 - 4 * (x.ln.applied.map fun w => w.words.length + 1).sum)
    lines := (due.take room).map x.blockLine, left := due.drop room, blocks := x.blocks, ylog := x.ln.ylDue, recs := g.recent
    marks := { nextseq := g.nextseq, upseq := g.upseq, lost := g.lost, tnext := g.tnext, tseq := g.tseq, pend := g.pend }
    arps := x.ln.net.eths.map EthLN.arp
    maps := x.ln.red.learned.map fun n => (n, (x.acfg n).dmap) }
  let s := s.modLN l fun x => { x with
    ylDue := []
    ledg := { x.ledg with recent := [] }
    sched := { x.sched with wrote := [] }
    red := { x.red with epochOut := some ep, deferred := due.drop room, learned := [] } }
  if s.linked l.other then s.modRed l.other fun x => { x with mergeSeg := some ep.hdr } else s

/-- An EPOCH task of the tick was late (R104). -/
def Lane.epochLate (x : Lane) : Bool := x.ln.sched.cLate.any fun c => (x.img.ctx c).any fun r => r.typ == 8

/-- The epoch of tick n is unsealed: the standby discards it whole (R325). -/
def State.discardEpoch (s : State) (l : LaneId) (n : Nat) : State :=
  (s.modRed l fun x => { x with
    inflight := none, judged := some n, epdisc := satInc 0xFFFF x.epdisc, unsealedRun := x.unsealedRun + 1 }).unclean l

/-- An epoch still in flight has missed its seal. -/
def State.dropInflight (s : State) (l : LaneId) : State :=
  match (s.lane l).ln.red.inflight with
  | some e => s.discardEpoch l e.hdr.tick
  | none => s

/-- Lane l sends its epoch, into the receive buffer whose turn it is (R326); one that a late EPOCH task spoils is never
sealed. -/
def State.sendEpoch (s : State) (l : LaneId) : State :=
  let m := l.other
  let s := if (s.lane l).ln.red.epochOut.isSome then s else s.makeEpoch l
  let x := s.lane l
  let s := match x.ln.red.epochOut with
    | some ep =>
      if s.linked m then
        let s := (s.dropInflight m).modKeep m fun k => { k with red :=
          if k.red.next then { k.red with buf1 := some ep, next := false } else { k.red with buf0 := some ep, next := true } }
        s.modRed m fun y => { y with inflight := if x.epochLate then none else some ep }
      else s
    | none => s
  s.modRed l fun x => { x with firstEp := false, epochOut := none }

/-- Every ring that this lane drives has its frame for the next start gate. -/
def Lane.framesReady (x : Lane) : Bool := (List.range 4).all fun r => !(x.ring r).st.tracked || (x.ring r).built.isSome

/-- The repeats that the rings have sent. -/
def State.repeats (s : State) : Nat := ((List.range 4).map fun r => (s.hw r).reps).foldl max 0

/-- The gap of a move of the token is settled when the new active lane's first frame is ready (R334, R443): LASTGAP and the
event follow the repeats, and the lane logs causes 09h and 06h; that of a cold takeover comes when it is complete (R340). -/
def State.settleGap (s : State) (l : LaneId) : State :=
  if !s.ref.gapDue || s.ref.skipFrame || !(s.lane l).framesReady then s
  else
    let gap := s.repeats
    let s := s.modRef fun r => { r with gapDue := false, lastgap := min 0xF gap }
    let s := if gap = 0 then s else s.yield l 9 (Config.servedCtx 9) none gap
    let s := if gap = 0 || s.ref.cold then s else s.yield l 6 (Config.servedCtx 6) none gap
    s.event l 0x0601 (s.ref.dcode + 256 * min 0xF gap)

/-- LANE_REPORT: the heartbeat and report of lane l; the lane that holds the token sends its epoch, and in layover each steward
builds the frames and sends the last load commands (R329, R486). The time is the 22 µs of the tick. -/
def execLaneReport (l : LaneId) (s : State) : Host.Outcome State Fault Refusal :=
  if !(s.lane l).ln.on || s.lines.inReset then .next s
  else
    let s := s.within l 2200
    let s := if (s.lane l).ln.pwr.layover then
        let s := (List.range 4).foldl (fun s r => s.ringFrame l r) s
        (match (s.lane l).ln.loadCmds with
          | some cs => if s.owns l then s.applyLoad cs else s
          | none => s)
      else s
    let rep := s.makeReport l
    let came := s.lines.gate + 2200
    let s := s.modRef fun r => match l with
      | .a => { r.setLost .a false with repa := rep, hba := some came }
      | .b => { r.setLost .b false with repb := rep, hbb := some came }
    let s := s.compare
    .next (if s.owns l then (s.settleGap l).sendEpoch l
      else s.modLN l fun x => { x with
        ylDue := [], ledg := { x.ledg with recent := [] }, sched := { x.sched with wrote := [] } })

/-- Epoch e is sealed (R325): it waits for the next start gate. What the standby gathered for the ledger in earlier ticks has
come with it or with an earlier one. Lane A's clean epochs count (R343). -/
def State.sealEpoch (s : State) (l : LaneId) (e : Epoch) : State :=
  let s := s.modRed l fun x => { x with
    inflight := none, sealedEp := some e, judged := some e.hdr.tick, unsealedRun := 0, sealedTick := e.hdr.tick
    sealStep := e.hdr.step, sealArps := e.arps }
  let s := s.modLN l fun x => { x with ledg := { x.ledg with
    due := x.ledg.due.filter fun d => ticksSince s.tick d.tick ≤ ticksSince s.tick e.hdr.tick } }
  let x := (s.lane l).ln
  if x.red.extrap then s.unclean l
  else if l = .a ∧ x.role = .sync then s.modRef fun r => { r with clean := r.clean + 1 }
  else s

/-- The seal of an epoch came in time and is right (R325): `came` is when, in 10 ns after the last start gate. -/
def State.sealGood (s : State) (l : LaneId) (e : Epoch) (tick crc : Word) (came : Nat) : Bool :=
  tick.toNat == e.hdr.tick && crc == e.crc l.other &&
    (s.tick == e.hdr.tick || (s.tick == (e.hdr.tick + 1) % 2 ^ 32 && decide (came ≤ 2050)))

/-- EPOCH_RECEIVE: the seal of the epoch in flight has reached the standby (R325). -/
def execEpochReceive (l : LaneId) (tick crc : Word) (came : Nat) (s : State) : Host.Outcome State Fault Refusal :=
  .next (if !s.standby l then s
    else match (s.lane l).ln.red.inflight with
      | some e => if s.sealGood l e tick crc came then s.sealEpoch l e else s.discardEpoch l e.hdr.tick
      | none => s)

/-- EPOCH_SEAL_TIMEOUT: no correct seal of the last tick's epoch had come by 20.5 µs (R325). -/
def execEpochSealTimeout (l : LaneId) (s : State) : Host.Outcome State Fault Refusal :=
  let n := (s.tick + 2 ^ 32 - 1) % 2 ^ 32
  .next (if !s.standby l || (s.lane l).ln.red.judged == some n then s else s.discardEpoch l n)

/-- The tick of a standby is extrapolated (R327). -/
def State.extrapolate (s : State) (l : LaneId) : State :=
  if (s.lane l).ln.red.exNow then s
  else (s.modRed l fun x => { x with exNow := true, extrap := true, extrapn := satInc 0xFFFF x.extrapn }).unclean l

/-- GATE_SEGMENT_WAIT: no gate segment 2 µs after the gate (R327). -/
def execGateSegmentWait (l : LaneId) (s : State) : Host.Outcome State Fault Refusal :=
  .next (if s.standby l && (s.lane l).running && !(s.lane l).ln.red.gateSeg then s.extrapolate l else s)

/-- Where a standby's ledger stands after an epoch (R447). -/
def LedgLN.follow (g : LedgLN) (m : LedMarks) : LedgLN :=
  { g with nextseq := m.nextseq, upseq := m.upseq, lost := m.lost, tnext := m.tnext, tseq := m.tseq, pend := m.pend }

/-- The contexts of an epoch whose blocks it carries whole, or completes. -/
def Epoch.whole (e : Epoch) : List Nat :=
  ((e.lines.map fun k => k.1).filter fun c => !e.left.any fun k => k.1 == c).eraseDups

/-- The blocks of a context taken from others (R326). -/
def Blocks.copyCtx (b : Blocks) (n : Blocks) (r : CtxRec) : Blocks :=
  if r.typ = 1 then { b with axes := vmod b.axes r.index fun _ => vget n.axes {} r.index }
  else if r.typ = 2 then
    let h := vget (vget n.hyps (Vector.replicate 4 {}) r.index) {} r.hyp
    { b with hyps := vmod b.hyps r.index fun v => vmod v r.hyp fun _ => h }
  else if r.typ = 3 then { b with dways := vmod b.dways r.index fun _ => vget n.dways {} r.index }
  else if r.typ = 4 then { b with slalom := n.slalom }
  else b

/-- Where the standby's checkpoint lies (R347). -/
def checkBase : Nat := 0x80000

/-- The data lines of an epoch laid into a standby's checkpoint (R326): the bytes, and of every context that is now whole
what its block holds. -/
def Lane.layDown (x : Lane) (e : Epoch) : Lane :=
  let rs := x.img.ctxs.filter fun r => e.whole.contains r.ctx
  let put := fun (m : Memory) (k : Nat × Nat × List Byte) => match x.img.ctx k.1 with
    | some r => Memory.write m (checkBase + x.img.blockBase r + 64 * k.2.1) k.2.2
    | none => m
  let m := e.lines.foldl put x.keep.mem
  { x with keep := { x.keep with
    red := { x.keep.red with check := rs.foldl (fun b r => b.copyCtx e.blocks r) x.keep.red.check }
    mem := e.recs.foldl (fun m (p : Nat × List Byte) => Memory.write m p.1 p.2) m
    seqhw := e.marks.nextseq - 1
    losthw := e.marks.lost } }

/-- The tick that ends goes into the join store of a joining lane, which holds the last 64 (R341). -/
def State.storeTick (s : State) (l : LaneId) : State :=
  let x := s.lane l
  let j := x.ln.red.jstate
  if j = 0 ∨ 4 < j ∨ !s.linked l then s
  else
    let t : JoinTick := {
      tick := (s.tick + 2 ^ 32 - 1) % 2 ^ 32, ups := (List.range 24).map fun k => (vget (x.ring (k / 6)).slots {} (k % 6)).up
      writes := (s.lane l.other).ln.applied, nets := x.ln.net.handed, hdr := x.ln.red.mergeSeg }
    s.modKeep l fun k => { k with red := { k.red with store := (k.red.store ++ [t]).drop (k.red.store.length + 1 - 64) } }

/-- Redundancy at a start gate (R183, R207, R326, R341, R447): the standby applies a sealed epoch to its checkpoint, with
the records and the learned drag maps it carries; the new gate segment comes over the link. -/
def State.redGate (s : State) (l : LaneId) : State :=
  let linked := s.linked l
  let s := s.storeTick l
  let s := match (s.lane l).ln.red.sealedEp with
    | none => s
    | some e =>
      let s := s.modLane l (·.layDown e)
      let s := s.modLN l fun x => { x with ledg := x.ledg.follow e.marks }
      let s := e.maps.foldl (fun (s : State) (m : Nat × Vector DragCell 64) => s.modAcfg l m.1 fun c => { c with dmap := m.2 }) s
      s.modRed l fun x => { x with
        sealedEp := none
        rptick := if e.hdr.carry = 0 then e.hdr.tick else x.rptick
        rpFresh := x.rpFresh || e.hdr.carry == 0 }
  let t := s.tick
  s.modRed l fun x => { x with
    bulkleft := if x.jstate = 2 then x.bulkleft - Config.bulkStep l t else x.bulkleft
    gateSeg := linked, mergeSeg := none, exNow := false
    jticks := if 1 ≤ x.jstate ∧ x.jstate ≤ 4 then x.jticks + 1 else x.jticks }

/-! ### Moving the token (R331 to R340, R343) -/

/-- A cycle record that becomes a gap record (R447): KIND 2, GAPWHY 1, no trace, UNCONF set and LEARN clear. -/
def gapBody (b : List Byte) : List Byte :=
  let f := byteAt b 47
  putBytes (putBytes (putBytes b 1 [2]) 49 [1]) 47 (toLE 1 (f - f / 16 % 2 * 16 + (if bitOf f 2 then 0 else 4)))

/-- The gap records of a switch-over (R335, R447): one for each cycle whose tick's epoch never sealed, with a yield of cause
05h that names its ledger slot. -/
def State.gapRecords (s : State) (l : LaneId) : State :=
  let x := s.lane l
  let lost := fun (e : LedEntry) => match e with
    | .cycle _ t _ _ _ =>
      decide (0 < ticksSince s.tick t) && decide (ticksSince s.tick t < ticksSince s.tick x.ln.red.sealedTick)
    | .event _ _ _ _ => false
  let gone := (x.ln.ledg.ready s.tick).filter lost
  let s := s.modLN l fun z => { z with ledg := { z.ledg with due := z.ledg.due.filter fun e => !lost e } }
  gone.foldl (fun s e => match e with
    | .cycle d _ body _ _ =>
      let seq := (s.lane l).ln.ledg.nextseq.toNat
      let s := s.writeRecord l d (gapBody body) none false
      let slot := (seq - 1) % nslot (s.img l).ledFormat
      s.modLane l (·.ylogWrite (yEntry s.tick 5 (Config.servedCtx 5) none slot))
    | .event _ _ _ _ => s) s

/-- The role of a lane that loses the token without staying in step (R341). -/
def Lane.roleAfter (x : Lane) : Role := if !x.ln.on then .starting else if x.ln.hlth.degr then .degraded else .unsync

/-- TARGET returns to 00b at every change of the token holder (R46). -/
def State.noTarget (s : State) : State := s.modLanes fun x => { x with mr := { x.mr with target := 0 } }

/-- Lane m takes the token (R300, R324, R332, R335, R345, R373, R387, R443): a live re-stream is discarded, writes not yet
in effect are lost, a transaction in progress ends, and the host's DMA channels of lane m are in STATE 0. `stay` is the role
that the other lane keeps. -/
def State.takeToken (s : State) (m : LaneId) (code : Nat) (cold midTx : Bool) (stay : Option Role) : State :=
  let l := m.other
  let s := ((s.liveDiscard 0x10).loadAbort m).dropInflight m
  let s := s.modRef fun r => { r with
    token := true, owner := m, parked := false, switched := true, switches := satInc 0xFF r.switches
    gapDue := true, dcode := code, dtick := s.tick % 2 ^ 24, busyFrom := s.tick, revpend := false, swreq := false
    clean := 0, mism := 0, frameBad := false, divSwitch := false, cold := cold
    colds := if cold then satInc 0xFF r.colds else r.colds }
  let s := s.setRole m .active
  let s := s.setRole l (stay.getD (s.lane l).roleAfter)
  let s := (s.modPort fun p => { p with busyWrite := false, hmiso := none }).noTarget
  let s := s.modLN l fun x => { x with
    writes := [], red := { x.red with jstate := if stay.isSome then 5 else 0, firstEp := false, coldEp := false } }
  let s := s.modLN m fun x => { x with
    writes := []
    sched := { x.sched with step := x.red.sealStep, nextStep := x.red.sealStep }
    net := { x.net with eths := x.net.eths.mapFinIdx fun e t _ => { t with arp := vget x.red.sealArps [] e } }
    ledg := { x.ledg with cycles := x.ledg.cycles.map (Option.map fun y => { y with sw := true, cold := y.cold || cold }) }
    dma := { x.dma with chs := x.dma.chs.mapFinIdx fun c h _ => if (s.img m).chOwner c = 2 then { h with st := 0 } else h }
    red := { x.red with
      firstEp := true, coldEp := cold, rptick := 0, jstate := 0, extrap := false, exNow := false, deferred := [] } }
  let s := if midTx then (s.modLN m fun x => { x with host := { x.host with abort := true } }).attn m 1 else s
  ((s.gapRecords m).attnBoth 15).gratuitous m

/-- DCODE of a condition (R331). -/
def whyCode : SwitchWhy → Nat
  | .heartbeat => 1
  | .frame => 2
  | .degraded => 3
  | .laneReset => 4
  | .divergence => 5

/-- The condition holds of the active lane (R331). -/
def State.whyHolds (s : State) (why : SwitchWhy) : Bool :=
  let l := s.ref.owner
  s.ref.token && (match why with
    | .heartbeat => s.ref.isLost l
    | .frame => s.ref.frameBad
    | .degraded => (s.lane l).ln.hlth.degr || (s.ref.report l).degr
    | .laneReset => !(s.lane l).ln.on
    | .divergence => s.ref.divSwitch)

/-- The referee finds the standby in SYNC (R331, R336). -/
def State.standbySync (s : State) : Bool :=
  let m := s.ref.owner.other
  s.ref.role m == .sync && !s.ref.isLost m && !s.ref.divtest && (s.lane m).ln.on

/-- The standby is UNSYNC or degraded, with its heartbeat present, or in SYNC during a divergence test. -/
def State.standbyCold (s : State) : Bool :=
  let m := s.ref.owner.other
  let r := s.ref.role m
  !s.ref.isLost m && (s.lane m).ln.on && (r == .unsync || r == .degraded || (r == .sync && s.ref.divtest))

/-- Park (R340): the token is with no lane. -/
def State.parkNow (s : State) : State :=
  let l := s.ref.owner
  let s := (s.liveDiscard 0x10).loadAbort l.other
  let s := s.setRole l (s.lane l).roleAfter
  let s := s.modRef fun r => { r with
    token := false, parked := true, dcode := 9, dtick := s.tick % 2 ^ 24, frameBad := false, revpend := false, swreq := false,
    cold := false, gapDue := false, skipFrame := false }
  let s := (s.modLanes fun x => { x with ln := { x.ln with writes := [] } }).noTarget
  let s := s.modPort fun p => { p with busyWrite := false, busySwitch := false, busyCold := false, busyQuiet := false, hmiso := none }
  s.attnBoth 15

/-- HOT_SWITCHOVER (R331, R332). A lane that failed a divergence test restarts (R336). -/
def execHotSwitchover (why : SwitchWhy) (midTx : Bool) (s : State) : Host.Outcome State Fault Refusal :=
  .next (if !s.whyHolds why || !s.standbySync then s
    else
      let l := s.ref.owner
      let s := s.takeToken l.other (whyCode why) false midTx none
      let s := s.modPort fun p => { p with busySwitch := true }
      if why = .divergence then s.resetLane l .referee else s)

/-- An axis at a cold takeover (R338): a snowplough runs on; a moving axis stops from its measured state. -/
def AxisSt.coldStop (c : AxisCfg) (a : AxisSt) : AxisSt :=
  if a.obs.ostate == .braking || a.obs.ostate == .relief || a.prof.phase == .idle then a
  else
    let a : AxisSt := { a with prof := { a.prof with p := mmOfPi c.hall.cpmm a.edge.pi, v := v0Of a, a := 0 } }
    let a := if a.hom.runs then a.homFail 5 else a
    a.controlledStop

/-- What the new active lane does in the first tick of a cold takeover (R195, R338, R339). -/
def State.coldActions (s : State) (m : LaneId) : State :=
  let s := s.modRed m fun x => { x with
    stale := x.stale || (s.lane m).imgLow != (s.ref.report m.other).img }
  let axis := fun (s : State) (n : Nat) =>
    if (s.lane m).hasAxis n then
      (s.axNow m n (AxisSt.coldStop ((s.lane m).acfg n))).modLN m (·.squashAll n)
    else s
  let door := fun (s : State) (d : Nat) =>
    if ((s.lane m).dcfg d).defd then
      s.haltDoor m d (fun z => z.st != .none && z.st != .locked && z.st != .service) id
    else s
  (List.range 12).foldl door ((List.range 24).foldl axis s)

/-- A cold takeover by lane m (R338, R340). -/
def State.coldTake (s : State) (m : LaneId) (code : Nat) (midTx : Bool) : State :=
  let s := (s.takeToken m code true midTx none).coldActions m
  s.modPort fun p => { p with busyCold := true }

/-- COLD_TAKEOVER (R331, R336, R338). -/
def execColdTakeover (why : SwitchWhy) (midTx : Bool) (s : State) : Host.Outcome State Fault Refusal :=
  .next (if !s.whyHolds why || why = .degraded || why = .divergence || !s.standbyCold then s
    else
      let s := s.coldTake s.ref.owner.other (whyCode why) midTx
      s.modRef fun r => { r with divtest := false })

/-- Every defined doorway of a lane rests where R338 puts it. -/
def Lane.coldDone (x : Lane) : Bool :=
  (List.range 12).all fun d => !(x.dcfg d).defd ||
    (let z := (x.dway d).newest.st
     z == .locked || z == .service || z == .stopped)

/-- COLD_TAKEOVER_COMPLETE (R340). -/
def execColdTakeoverComplete (s : State) : Host.Outcome State Fault Refusal :=
  let l := s.ref.owner
  .next (if s.ref.cold && s.ref.token && (s.lane l).coldDone then
    let s := s.yield l 6 (Config.servedCtx 6) none (ticksSince s.tick s.ref.busyFrom)
    (s.modRef fun r => { r with cold := false }).modPort fun p => { p with busyCold := false }
  else s)

/-- The token has no lane to go to, or the new active lane had no frame by the fourth repeat (R331, R334). -/
def State.parkDue (s : State) : Bool :=
  let m := s.ref.owner.other
  let none' := s.ref.isLost m || s.ref.role m == .starting || !(s.lane m).ln.on
  ((s.whyHolds .heartbeat || s.whyHolds .frame || s.whyHolds .laneReset) && none') ||
    (s.ref.token && s.ref.gapDue && decide (4 ≤ s.repeats))

/-- PARK (R331, R334, R340). -/
def execPark (s : State) : Host.Outcome State Fault Refusal := .next (if s.parkDue then s.parkNow else s)

/-- PARK_EXIT: a lane's heartbeat has returned (R340). -/
def execParkExit (l : LaneId) (s : State) : Host.Outcome State Fault Refusal :=
  .next (if s.ref.parked && (s.lane l).ln.on && !s.ref.isLost l then s.coldTake l 9 false else s)

/-- The last heartbeat of lane l. -/
def Referee.beat (r : Referee) : LaneId → Option Time
  | .a => r.hba
  | .b => r.hbb

/-- Lane l's heartbeat came within 50 ms of the reset's release (R321). -/
def State.beatEarly (s : State) (l : LaneId) : Bool :=
  match s.ref.beat l with
  | some t => decide ((t - s.lines.freeAt).toNat ≤ 5000000)
  | none => false

/-- TOKEN_ASSIGN (R321): lane A, whose heartbeat came within 50 ms of the reset's release, or else lane B when its own comes. -/
def execTokenAssign (l : LaneId) (s : State) : Host.Outcome State Fault Refusal :=
  .next (if s.ref.token || s.ref.parked || s.lines.inReset || !(s.lane l).ln.on || (s.ref.beat l).isNone then s
    else if l = .a ∧ s.beatEarly .a = false then s
    else if l = .b ∧ (s.beatEarly .a = true ∨ (s.lines.now - s.lines.freeAt).toNat ≤ 5000000) then s
    else
      let s := (s.modRef fun r => { r with token := true, owner := l }).noTarget
      (s.setRole l .active).gratuitous l)

/-- No heartbeat of lane l has come for 40 µs of referee time, so far after the last start gate (R330). -/
def State.hbLate (s : State) (l : LaneId) (elapsed : Nat) : Bool :=
  match s.ref.beat l with
  | some t => decide (Config.hbLimit l s.tick < (s.lines.gate + BitVec.ofNat 64 elapsed - t).toNat)
  | none => false

/-- HEARTBEAT_LOSS (R330). -/
def execHeartbeatLoss (l : LaneId) (elapsed : Nat) (s : State) : Host.Outcome State Fault Refusal :=
  .next (if s.lines.inReset || !s.hbLate l elapsed then s else s.modRef fun r => r.setLost l true)

/-- The referee's CRC over the frames of the rings in BUILT that leave its multiplexer (R329). -/
def State.leftCrc (s : State) (built : BitVec 4) (errs : List LineErr) : Word :=
  crc32c ((List.range 4).flatMap fun r =>
    if built.getLsbD r then downPart r (applyErr (s.hw r).line ((errs[r]?).getD [])) else [])

/-- The frame of the lane that holds the token is invalid in this tick (R330): its CRC is not the reported FCRC, or a ring that
BUILT names was sent by the repeat store. -/
def State.frameWrong (s : State) (errs : List LineErr) : Bool :=
  let p := s.ref.report s.ref.owner
  s.ref.token && p.here && p.tick == (s.tick + 2 ^ 32 - 1) % 2 ^ 32 &&
    (s.leftCrc p.built errs != p.fcrc || (List.range 4).any fun r => p.built.getLsbD r && (s.hw r).repNow)

/-- FRAME_INVALID (R330): the frames of this tick have left, each with what the multiplexer did to it. -/
def execFrameInvalid (errA errB errC errD : LineErr) (s : State) : Host.Outcome State Fault Refusal :=
  .next (if s.frameWrong [errA, errB, errC, errD] then s.modRef fun r => { r with frameBad := true } else s)

/-! ### Divergence (R336) -/

/-- DIVERGENCE_TEST: three mismatches in a row order the lane check in both lanes. -/
def execDivergenceTest (s : State) : Host.Outcome State Fault Refusal :=
  .next (if !s.ref.token || s.ref.divtest || s.ref.mism < 3 then s
    else
      let s := s.modRef fun r => { r with
        divtest := true, divtests := satInc 0xFF r.divtests, dcode := 5, dtick := s.tick % 2 ^ 24, divFrom := s.lines.now
        divA := none, divB := none, mism := 0 }
      (s.queueCheck .a (laneUnit .a)).queueCheck .b (laneUnit .b))

/-- The lane check of lane l in this test: a test that has not ended counts as failed. -/
def Referee.passed (r : Referee) : LaneId → Bool
  | .a => r.divA.getD false
  | .b => r.divB.getD false

/-- DIVERGENCE_OUTCOME: both checks have ended, or 250 ms have passed. -/
def execDivergenceOutcome (s : State) : Host.Outcome State Fault Refusal :=
  let r := s.ref
  let l := r.owner
  let m := l.other
  let done := (r.divA.isSome && r.divB.isSome) || decide (25000000 ≤ (s.lines.now - r.divFrom).toNat)
  .next (if !r.divtest || !r.token || !done then s
    else
      let s := s.modRef fun r => { r with divtest := false }
      match r.passed l, r.passed m with
      | false, true => s.modRef fun r => { r with divSwitch := true }
      | true, false => s.degrade m 4
      | false, false => (s.degrade m 4).degrade l 4
      | true, true => (s.setRole m .unsync).modRed m fun x => { x with jstate := 1, jticks := 0, clean := 0 })

/-! ### The sync link and joining (R337, R341) -/

/-- The sync link of lane l is lost (R337): two epochs in a row unsealed with both heartbeats there, or a pair that did not
retrain within 1 ms. -/
def State.linkLost (s : State) (l : LaneId) (pairs : BitVec 4) (since : Nat) : Bool :=
  (decide (2 ≤ (s.lane l).ln.red.unsealedRun) && !s.ref.isLost .a && !s.ref.isLost .b) || (pairs != 0xF && decide (100000 ≤ since))

/-- SYNC_LINK_LOSS: the pairs that are trained, and for how long, in 10 ns, one has failed to retrain. -/
def execSyncLinkLoss (l : LaneId) (pairs : BitVec 4) (since : Nat) (s : State) : Host.Outcome State Fault Refusal :=
  .next (if !s.standby l || (s.lane l).ln.red.linkDown || !s.linkLost l pairs since then s
    else
      let s := if (s.lane l).ln.role == .degraded then s else s.setRole l .unsync
      let now := s.lines.now
      (s.modRed l fun x => { x with
        linkDown := true, linkTry := now, linkloss := satInc 0xFF x.linkloss, jstate := 0, pairs := pairs
        inflight := none }).unclean l)

/-- SYNC_LINK_RETRY: every 10 ms; a lane whose four pairs train joins. -/
def execSyncLinkRetry (l : LaneId) (trained : BitVec 4) (s : State) : Host.Outcome State Fault Refusal :=
  let now := s.lines.now
  .next (if !s.standby l || !(s.lane l).ln.red.linkDown || decide ((now - (s.lane l).ln.red.linkTry).toNat < 1000000) then s
    else s.modRed l fun x => { x with
      pairs := trained
      linkTry := now
      linkDown := trained != 0xF
      unsealedRun := if trained = 0xF then 0 else x.unsealedRun
      jstate := if trained = 0xF then 1 else x.jstate
      jticks := 0 })

/-- KB of the context blocks that the bulk copy moves (R105, R341). -/
def Lane.bulkKb (x : Lane) : Nat := ((x.img.ctxs.map CtxRec.bsize).sum + 1023) / 1024

/-- Every assigned context block of the active lane is in the checkpoint (R341). -/
def Lane.bulkCopy (x o : Lane) : Lane :=
  let copy := fun (m : Memory) (r : CtxRec) =>
    Memory.write m (checkBase + x.img.blockBase r) (Memory.read o.keep.mem (o.img.blockBase r) r.bsize)
  { x with keep := { x.keep with mem := x.img.ctxs.foldl copy x.keep.mem, red := { x.keep.red with check := o.blocks } } }

/-- The checkpoint becomes the running state of lane l, replayed to the present tick; every S context restarts (R195, R341). Its
replay ends where the active lane stands (R97). -/
def State.loadRunning (s : State) (l : LaneId) : State :=
  let o := s.lane l.other
  let s := s.modLane l fun x => { x with
    st := { o.st with ctxrun := x.st.ctxrun }
    ln := { x.ln with
      axes := o.ln.axes.map fun a => { a with work := none, acc := none }
      dways := o.ln.dways.map fun d => { d with work := none, acc := none }
      hyps := o.ln.hyps
      slalom := o.ln.slalom
      slalomWork := none
      slalomAcc := none
      car := o.ln.car
      loadCmds := o.ln.loadCmds
      pwr := { x.ln.pwr with layover := o.ln.pwr.layover, layFrom := o.ln.pwr.layFrom }
      rings := o.ln.rings
      ledg := { x.ln.ledg with cycles := o.ln.ledg.cycles, due := o.ln.ledg.due, pend := o.ln.ledg.pend }
      ylLive := o.ln.ylLive
      sched := { x.ln.sched with step := o.ln.sched.step, nextStep := o.ln.sched.nextStep } } }
  (List.range 24).foldl (fun s n => s.modLN l (·.squashAll n)) s

/-- LANE_JOIN: the next step of a join, where its condition holds (R341). -/
def State.laneJoin (s : State) (l : LaneId) : State :=
  let x := s.lane l
  let o := s.lane l.other
  let go := fun (s : State) (k : Nat) => s.modRed l fun r => { r with jstate := k }
  if !s.standby l || s.ref.isLost l || x.ln.role == .degraded || x.ln.role == .sync || x.ln.red.linkDown then s
  else match x.ln.red.jstate with
  | 0 => s.modRed l fun r => { r with jstate := 1, jticks := 0, clean := 0 }
  | 1 =>
    let s := s.modRed l fun r => { r with pairs := 0xF, bulkleft := min 0xFFFF o.bulkKb }
    let s := s.modRed l.other fun r => { r with pairs := 0xF }
    let s := if o.running && (!x.running || x.img.crc != o.img.crc) then
        let s := s.installLane l o.img o.img true
        s.modLN l fun y => { y with strm := { y.strm with st := .running } }
      else s
    go s 2
  | 2 =>
    if 0 < x.ln.red.bulkleft then s
    else go ((s.modLane l fun y => y.bulkCopy o).modRed l fun r => { r with rpFresh := false }) 3
  | 3 =>
    if x.ln.red.rpFresh then
      go ((s.loadRunning l).modRed l fun r => { r with clean := 0 }) 4
    else s
  | 4 =>
    if 16 ≤ x.ln.red.clean then
      go ((s.setRole l .sync).modLN l fun y => { y with ledg := { y.ledg with mirgap := true } }) 5
    else s
  | _ => s

/-- LANE_JOIN. -/
def execLaneJoin (l : LaneId) (s : State) : Host.Outcome State Fault Refusal := .next (s.laneJoin l)

/-- JOIN_TIMEOUT: a join not at step 5 within 20 ms, 800 ticks, starts again (R341). -/
def execJoinTimeout (l : LaneId) (s : State) : Host.Outcome State Fault Refusal :=
  let r := (s.lane l).ln.red
  .next (if 1 ≤ r.jstate ∧ r.jstate ≤ 4 ∧ 800 ≤ r.jticks then
    s.modRed l fun x => { x with jstate := 1, jticks := 0, clean := 0 } else s)

/-! ### Lane A's return, and SWREQ (R342, R343, R345) -/

/-- REVPEND_SET (R343, R346). -/
def execRevpendSet (s : State) : Host.Outcome State Fault Refusal :=
  let r := s.ref
  .next (if r.token && r.owner == .b && !r.revpend && r.lapass && r.rolea == .sync && 80000 ≤ r.clean && !r.cold &&
      !(s.lane .b).ln.red.stale then
    s.modRef fun r => { r with revpend := true, revAt := s.lines.now } else s)

/-- A handover is asked for, by REVPEND or by SWREQ, toward a standby in SYNC. -/
def State.handoverDue (s : State) : Bool :=
  s.ref.token && s.standbySync && !s.ref.cold && ((s.ref.revpend && s.ref.owner == .b) || s.ref.swreq)

/-- QUIET_HANDOVER: the first tick in which both lanes report QUIET (R343, R346). -/
def execQuietHandover (midTx : Bool) (s : State) : Host.Outcome State Fault Refusal :=
  .next (if s.handoverDue && s.ref.repa.quiet && s.ref.repb.quiet then
    let code := if s.ref.revpend && s.ref.owner == .b then 6 else 8
    (s.takeToken s.ref.owner.other code false midTx (some .sync)).modPort fun p => { p with busyQuiet := true }
  else s)

/-- FORCED_HANDOVER: no quiet tick within 60 s of REVPEND; lane B builds no frame, and lane A's follows one repeat (R343). -/
def execForcedHandover (midTx : Bool) (s : State) : Host.Outcome State Fault Refusal :=
  .next (if s.handoverDue && s.ref.revpend && s.ref.owner == .b && 6000000000 ≤ (s.lines.now - s.ref.revAt).toNat then
    let s := (s.takeToken .a 7 false midTx (some .sync)).modPort fun p => { p with busySwitch := true }
    s.modRef fun r => { r with skipFrame := true }
  else s)

/-- SWREQ (R345): rejected unless the standby is in SYNC. -/
def State.swreq (s : State) : State := if s.ref.token && s.standbySync then s.modRef fun r => { r with swreq := true } else s

/-- SWREQ, written in lane l. -/
def execSwreq (l : LaneId) (s : State) : Host.Outcome State Fault Refusal :=
  .next (if (s.lane l).ln.on then s.swreq else s)

/-! ### The LANE block (R344, R345) -/

/-- QWAIT: ms since REVPEND. -/
def State.qwait (s : State) : Nat :=
  if s.ref.revpend then min 0xFFFF ((s.lines.now - s.ref.revAt).toNat / 100000) else 0

/-- A register of LANE, by offset. -/
def State.readLane (s : State) (l : LaneId) (o : Nat) : Nat :=
  let r := s.ref
  let x := (s.lane l).ln.red
  match o with
  | 0x00 => pack [(3, r.rolea.code), (3, r.roleb.code), (1, laneNum r.owner), (1, b2n r.parked), (1, b2n r.revpend),
      (1, b2n r.divtest), (1, b2n r.cold), (1, b2n x.stale), (1, b2n r.switched), (1, b2n x.extrap), (1, b2n x.shmiss)]
  | 0x08 => pack [(4, r.dcode), (4, 0), (24, r.dtick)]
  | 0x0C => pack [(4, r.lastgap), (4, 0), (8, r.switches), (8, r.colds), (8, r.divtests)]
  | 0x10 => pack [(16, x.epdisc), (16, x.extrapn)]
  | 0x14 => if s.owns l then 0 else x.rptick
  | 0x18 => pack [(4, x.pairs.toNat), (3, x.jstate), (1, 0), (8, x.linkloss), (16, x.bulkleft)]
  | 0x1C => pack [(12, min 0xFFF (r.clean / 40)), (1, b2n r.lapass), (3, 0), (16, s.qwait)]
  | _ => 0

/-- The W1C flags of LANE_STAT; SWREQ acts as the command of its own row. -/
def State.clearLane (s : State) (l : LaneId) (o n : Nat) : State :=
  if o = 0 then
    let s := s.modRef fun r => { r with switched := r.switched && !bitOf n 12 }
    s.modRed l fun x => { x with shmiss := x.shmiss && !bitOf n 14 }
  else s

/-- The command of a write of LANE_CTL. -/
def State.commandLane (s : State) (w : Word) : State := if bitOf w.toNat 0 then s.swreq else s

end Sys2Proof.Machine
end

