-- ==== Sys2Proof/Machine/Lands.lean ====
section
/-! DEFINITION. Multiplexed lands, the Ethernet PHYs and the toggling of the safety switches (chapters 9 and 18). -/

namespace Sys2Proof.Machine

/-- The lane that drives the MX lands: the one holding the token, with a running stream, outside reset and park (R496). -/
def State.drives (s : State) (l : LaneId) : Bool := s.owns l && (s.lane l).running && !s.lines.inReset

/-- Function of land MXm (R494); 0 where no lane drives it. -/
def State.landFunc (s : State) (m : Nat) : Nat := if s.drives s.ref.owner then (s.img s.ref.owner).landFunc m else 0

/-- A whole second of train time begins in the 25 µs from the present instant (R302). -/
def State.secondDue (s : State) : Bool :=
  let r := (s.trainTime s.ref.owner).toNat % 100000000
  r == 0 || decide (100000000 < r + 2500)

/-- PPS: the rising edge at a whole second of train time (R494). -/
def execPps (m : Fin 8) (s : State) : Host.Outcome State Fault Refusal :=
  .next (if s.landFunc m = 1 ∧ s.secondDue = true then
    s.modLines fun x => { x with mx := vmod x.mx m fun _ => true, ppsFrom := x.now } else s)

/-- CAN controller c is off: it drives its transceiver's standby input high (R307, R494). -/
def State.canOff (s : State) (c : Nat) : Bool :=
  let l := s.ref.owner
  !bitOf (s.img l).ifen (2 + c) || (vget (s.lane l).ln.net.cans {} c).st == 3

/-- The level of land m after a start gate (R494, R496): TICK pulses where the token holder's own frame left, PPS ends 100 ms
after its rise, CANSTB follows its controller. -/
def State.mxLevel (s : State) (m : Nat) : Bool :=
  match s.landFunc m with
  | 1 => vget s.lines.mx false m && decide ((s.lines.now - s.lines.ppsFrom).toNat < 10000000)
  | 2 => !s.port.busySwitch && !s.port.busyCold
  | 4 => s.canOff ((s.img s.ref.owner).landUnit m)
  | _ => false

/-- The MX lands at a start gate. -/
def State.mxGate (s : State) : State := s.modLines fun x => { x with mx := Vector.ofFn fun (m : Fin 8) => s.mxLevel m }

/-- The MX lands 1 µs after it: TICK is low again. -/
def State.mxFall (s : State) : State :=
  s.modLines fun x => { x with mx := Vector.ofFn fun (m : Fin 8) => vget x.mx false m && s.landFunc m != 2 }

/-- The speed of interface i: the one NET sets, or what the PHY negotiated (R298, R315). -/
def Image.speedOf (i : Image) (e negotiated : Nat) : Nat := if i.ethSpeed e = 0 then negotiated else i.ethSpeed e

/-- The steward reads a PHY over MDIO (R298, R319, R494). -/
def State.phyRead (s : State) (l : LaneId) (i : Nat) (link : Bool) (speed : Nat) : State :=
  let v := (s.img l).speedOf i speed
  let now := s.tick
  s.modLN l fun x => { x with net := { x.net with eths := vmod x.net.eths i fun t => { t with
    link := link, spd := if link then v else 0, polled := some now, pollDue := false } } }

/-- The token is moving: a fall of PHYINT has both PHYs polled by the steward of the new active lane (R513). -/
def State.pollBoth (s : State) : State :=
  s.modLanes fun x => { x with ln := { x.ln with net := { x.ln.net with eths := x.ln.net.eths.map fun t => { t with pollDue := true } } } }

/-- PHYINT: the land of an interface fell, and the steward of the lane that holds the token reads that PHY (R494). -/
def execPhyint (m : Fin 8) (link : Bool) (speed : Fin 4) (s : State) : Host.Outcome State Fault Refusal :=
  let l := s.ref.owner
  .next (if s.landFunc m = 3 ∧ (s.port.busySwitch || s.port.busyCold || s.port.busyQuiet) = true then s.pollBoth
    else if s.landFunc m = 3 then s.phyRead l ((s.img l).landUnit m) link speed else s)

/-- Some land carries the PHYINT function of interface i. -/
def State.hasPhyint (s : State) (i : Nat) : Bool :=
  (List.range 8).any fun m => s.landFunc m == 3 && (s.img s.ref.owner).landUnit m == i

/-- The steward polls the PHY of interface i: where no land carries PHYINT for it, 10 ms after it last did, and after a move
of the token during which PHYINT fell, at its first tick (R494, R513). -/
def State.pollNow (s : State) (l : LaneId) (i : Nat) : Bool :=
  let t := vget (s.lane l).ln.net.eths {} i
  s.drives l && (t.pollDue || (!s.hasPhyint i && (match t.polled with
    | some p => decide (400 ≤ ticksSince s.tick p)
    | none => true)))

/-- PHY_POLL. -/
def execPhyPoll (l : LaneId) (i : Fin 2) (link : Bool) (speed : Fin 4) (s : State) : Host.Outcome State Fault Refusal :=
  .next (if s.pollNow l i then s.phyRead l i link speed else s)

/-- PHY_RESET_RELEASE: 10 ms after a reset of R478 (R501). -/
def execPhyResetRelease (i : Fin 2) (s : State) : Host.Outcome State Fault Refusal :=
  .next (if s.lines.inReset || (s.lines.now - s.lines.freeAt).toNat < 1000000 then s
    else s.modLines fun x => { x with phyRst := vmod x.phyRst i fun _ => false })

/-- SWITCH_TOGGLE_LOSS: the gate drive of a switch has seen no toggle for 1 ms, and the switch is open (R264). -/
def execSwitchToggleLoss (t : Tech) (o : Fin 6) (s : State) : Host.Outcome State Fault Refusal :=
  .next (s.modSc fun c => { c with outs := vmod c.outs o fun x =>
    ({ x with hon := x.hon && t != .safetyCore, lon := x.lon && t != .referee } : SafeOut).edmSee (outRec c.saf o) })

end Sys2Proof.Machine
end

