-- ==== Sys2Proof/Machine/HostPort.lean ====
section
/-! DEFINITION. The host port (chapter 13): what a transaction reads and writes, the apertures (R359, R360), and the result
slots (R389 to R392). -/

namespace Sys2Proof.Machine

/-! ### Apertures (R359, R360) -/

/-- What an address in a window reaches: the domain and its virtual address, where the aperture is enabled. -/
def Lane.aperVa (x : Lane) (a : Nat) : Option (Aper × Nat) :=
  match blkOf a with
  | (.aper w, o) =>
    let p := vget x.mr.apers {} w
    if p.en then some (p, p.vbase * 0x100000 + o) else none
  | _ => none

/-- A refused word: fault code, domain and virtual address (R369). -/
structure AperFault where
  code : Nat
  dom : Nat
  va : Nat
  deriving DecidableEq, Repr

/-- The translation of one word of a burst (R352, R360): its physical address, or its fault. -/
def Lane.aperWord (x : Lane) (wr : Bool) (a : Nat) : Option (Except AperFault Nat) :=
  (x.aperVa a).map fun q =>
    let bad := fun code => Except.error { code := code, dom := q.1.dom, va := q.2 : AperFault }
    if wr && !q.1.wr then bad 2
    else if !mayName x.img .host q.1.dom wr then bad 3
    else match translate x.img q.1.dom q.2 wr with
      | .ok pa => .ok pa
      | .error e => bad e

/-- The first word of a burst that its translation refuses. -/
def Lane.aperFault (x : Lane) (wr : Bool) (as : List Nat) : Option AperFault :=
  as.findSome? fun a => match x.aperWord wr a with
    | some (.error f) => some f
    | _ => none

/-- The first word of a read that meets an uncorrectable word of SRAM (R348). -/
def Lane.aperEcc (x : Lane) (ecc : List EccEvent) (as : List Nat) : Option AperFault :=
  as.findSome? fun a => match x.aperWord false a, x.aperVa a with
    | some (.ok pa), some (p, va) => if eccBad ecc pa then some { code := 5, dom := p.dom, va := va } else none
    | _, _ => none

/-- A burst through an aperture is refused (R360, R370, R458). -/
def State.aperRefuse (s : State) (l : LaneId) (wr : Bool) (f : AperFault) : State :=
  let i := s.img l
  let s := s.modLN l fun x => { x with dma := { x.dma with apflt := true } }
  let s := s.faultRec l {
    code := f.code, origin := 3, wr := wr, dom := f.dom, va := f.va, req := pisteOf i (laneNum l) 0 0 4 }
  if f.code = 1 ∨ f.code = 2 then s.queueCheck l ((s.lane l).entryUnit f.dom f.va) else s

/-! ### Reading (R18, R19, R382) -/

/-- The word at an address of lane l's map. -/
def State.regRead (s : State) (l : LaneId) (a : Nat) : Nat :=
  let x := s.lane l
  match blkOf a with
  | (.mod, o) => s.readMod l o
  | (.host, o) => s.readHost l o
  | (.mbx, o) => s.readMbx l o
  | (.strm, o) => s.readStrm l o
  | (.hlth, o) => x.readHlth o
  | (.schd, o) => s.readSchd l o
  | (.axis n, o) => s.readAxis l n o
  | (.glid, o) => s.readGlid l o
  | (.dway, o) => x.readDway o
  | (.load, o) => s.readLoad o
  | (.safe, o) => s.readSafe l o
  | (.net, o) => s.readNet l o
  | (.mmu, o) => x.readMmu o
  | (.dma, o) => x.readDma o
  | (.ledg, o) => x.readLedg o
  | (.lane, o) => s.readLane l o
  | (.pwr, o) => s.readPwr l o
  | (.aper _, _) =>
    (match x.aperWord false a with
      | some (.ok pa) => le32 ((List.range 4).map fun k => physByte x.keep.mem (pa + k)) 0
      | _ => 0)
  | (.none, _) => 0

/-- The words of a burst of lane l at one instant; where the burst is refused, the state with its record instead (R360). -/
def State.readWords (s : State) (l : LaneId) (addr n : Nat) (ecc : List EccEvent) : Except State (List Word) :=
  let x := s.lane l
  let as := burst addr n
  match x.aperFault false as with
  | some f => .error (s.aperRefuse l false f)
  | none => match x.aperEcc ecc as with
    | some f => .error (s.aperRefuse l false f)
    | none => .ok (as.map fun a => BitVec.ofNat 32 (s.regRead l a))

/-- The 64-bit word of a physical SRAM address is read by a burst. -/
def Lane.readsPa (x : Lane) (as : List Nat) (pa : Nat) : Bool :=
  isSram pa && as.any fun a => match x.aperWord false a with
    | some (.ok q) => q / 8 == pa / 8
    | _ => false

/-! ### Writing (R41, R381, R400) -/

/-- One word of an accepted write takes effect in lane l: its plain fields (R12, R15). SAFE and NET take no writes (R20). -/
def State.regWrite (s : State) (l : LaneId) (a : Nat) (w : Word) : State :=
  match blkOf a with
  | (.mod, o) => s.writeMod l o w.toNat
  | (.host, o) => s.writeHost l o w.toNat
  | (.mbx, o) => s.writeMbx l o w.toNat
  | (.strm, o) => s.writeStrm l o w
  | (.hlth, o) => s.writeHlth l o w
  | (.schd, o) => s.writeSchd l o w.toNat
  | (.axis n, o) => s.writeAxis l n o w.toNat
  | (.glid, o) => s.writeGlid l o w.toNat
  | (.dway, o) => s.writeDway l o w.toNat
  | (.load, o) => s.writeLoad o w
  | (.mmu, o) => s.writeMmu l o w.toNat
  | (.dma, o) => s.writeDma l o w.toNat
  | (.ledg, o) => s.writeLedg l o w.toNat
  | (.lane, _) => s
  | (.pwr, o) => s.writePwr l o w
  | (.aper _, _) =>
    (match (s.lane l).aperWord true a with
      | some (.ok pa) => s.modKeep l fun k => { k with mem := Memory.write k.mem pa (toLE 4 w.toNat) }
      | _ => s)
  | (.safe, _) => s
  | (.net, _) => s
  | (.none, _) => s

/-- The W1C bits of one word of an accepted write (R12). They are cleared as the start gate comes, before anything of the
gate sets one, so that a bit set in the same fabric cycle stays set (R15). -/
def State.regClear (s : State) (l : LaneId) (a : Nat) (w : Word) : State :=
  match blkOf a with
  | (.mod, o) => s.clearMod l o w.toNat
  | (.host, o) => s.clearHost l o w.toNat
  | (.mbx, o) => s.clearMbx l o w.toNat
  | (.strm, o) => s.clearStrm l o w.toNat
  | (.hlth, o) => s.clearHlth l o w.toNat
  | (.axis n, o) => s.clearAxis l n o w.toNat
  | (.glid, o) => s.clearGlid l o w.toNat
  | (.dway, o) => s.clearDway l o w.toNat
  | (.load, o) => s.clearLoad o w.toNat
  | (.mmu, o) => s.clearMmu l o w.toNat
  | (.dma, o) => s.clearDma l o w.toNat
  | (.ledg, o) => s.clearLedg l o w.toNat
  | (.lane, o) => s.clearLane l o w.toNat
  | (.pwr, o) => s.clearPwr l o w.toNat
  | _ => s

/-- The fields of the same word that start something: they act on what the whole write leaves (R396). -/
def State.regAct (s : State) (l : LaneId) (a : Nat) (w : Word) : State :=
  match blkOf a with
  | (.host, o) => s.actHost l o w.toNat
  | (.mbx, o) => s.actMbx l o w.toNat
  | (.strm, o) => if o = 4 then s.commandStrm l w else s
  | (.lane, o) => if o = 4 then s.commandLane w else s
  | (.pwr, o) => if o = 8 then s.commandPwr l w else s
  | _ => s

/-- A standby applies a write that the active lane took: not to HOST and MBX (R400), DMA (R373), or the power die, which has
taken it from the active lane. -/
def followed (a : Nat) : Bool :=
  match (blkOf a).1 with
  | .host => false
  | .mbx => false
  | .dma => false
  | .load => false
  | _ => true

/-- The words of an accepted write with their addresses. -/
def HostWrite.cells (h : HostWrite) : List (Nat × Word) := (burst h.addr h.words.length).zip h.words

/-- An accepted write takes effect in lane l at a start gate (R41, R381); `own` that it was written in this lane. A burst with
a word that an aperture refuses is not performed (R360). -/
def State.applyWrite (s : State) (l : LaneId) (own : Bool) (h : HostWrite) : State :=
  let cs := if own then h.cells else h.cells.filter fun c => followed c.1
  match (s.lane l).aperFault true (cs.map Prod.fst) with
  | some f => s.aperRefuse l true f
  | none =>
    let s := cs.foldl (fun s c => s.regWrite l c.1 c.2) s
    if own then cs.foldl (fun s c => s.regAct l c.1 c.2) s else s

/-! ### Transactions (R45, R46, R378 to R387) -/

/-- The answer on HMISO over n bytes: 00h after the last byte of it. -/
def answer (bs : List Byte) (n : Nat) : List Byte := (bs ++ zeros (n - bs.length)).take n

/-- The header with its CRC-16 (R378). -/
def headed (hdr : List Byte) : List Byte := hdr ++ toBE 2 (crc16 hdr).toNat

/-- The lane that a transaction addresses (R45). -/
def State.txLane (s : State) (addr : Nat) : LaneId :=
  let o := s.ref.owner
  let t := (s.lane o).mr.target
  if addr = laneselAddr then o else if t = 1 then .a else if t = 2 then .b else o

/-- The other lane can be reached: it is out of reset and the sync link is up (R46). -/
def State.reach (s : State) (l : LaneId) : Bool := s.linkUp l

/-- A transaction on the lands of the token holder (R377, R379, R386, R387): ignored while HBUSY is high. -/
def State.transact (s : State) (mode3 : Bool) (f : State → LaneId → List Byte → State) : State :=
  let o := s.ref.owner
  let s := s.modPort fun p => { p with hmiso := none }
  if !s.ref.token || s.lines.inReset || !(s.lane o).ln.on then s
  else if s.hbusy then s.modHost o HostLN.ignore
  else f (s.modHost o fun h => { h with mode3 := mode3 }) o (s.header o)

/-- A transaction addressed a lane that could not be reached (R46). -/
def State.unreached (s : State) (o : LaneId) : State := s.modMR o fun m => { m with noreach := true }

/-- A WRITE (R381, R385): judged in the lane that it addresses. HBUSY stays high until the start gate where a write accepted in
the lane of the token takes effect. -/
def State.hostWrite (s : State) (mode3 : Bool) (addr : HAddr) (rest : List Byte) : State :=
  s.transact mode3 fun s o hdr =>
    let s := s.modPort fun p => { p with hmiso := some (answer (headed hdr) (4 + rest.length)) }
    let m := s.txLane addr.toNat
    if m ≠ o ∧ s.reach o = false then s.unreached o
    else match judgeWrite addr rest with
      | .error e => s.modHost m fun h => h.reject e
      | .ok (ws, crc) =>
        let s := s.modLN m fun x => { x with
          host := x.host.accept crc, writes := x.writes ++ [{ addr := addr.toNat, words := ws }] }
        s.modPort fun p => { p with busyWrite := p.busyWrite || m == o }

/-- HOST_WRITE. -/
def execHostWrite (mode3 : Bool) (addr : HAddr) (rest : List Byte) (s : State) : Host.Outcome State Fault Refusal :=
  .next (s.hostWrite mode3 addr rest)

/-- MOD_TBHI latches the upper half of the timebase (R47). -/
def State.latchTb (s : State) (l : LaneId) : State :=
  s.modLane l fun x => { x with tbhi := BitVec.ofNat 32 (s.lines.now.toNat / 2 ^ 32) }

/-- The side effects of a READ that ended well: CONSUMED of the result headers it returned (R391). -/
def State.consume (s : State) (l : LaneId) (as : List Nat) : State :=
  (List.range 4).foldl (fun s j =>
    if as.contains (0x1100 + 0x80 * j + 0x3C) then
      s.modKeep l fun k => { k with slots := vmod k.slots j fun z => { z with consumed := z.consumed || z.valid } }
    else s) s

/-- The answer of a READ after its header: 00h, the words and their check value, inverted where the request failed (R378,
R382). -/
def readAnswer (hdr : List Byte) (ws : List Word) (ok : Bool) : List Byte :=
  let data := ws.flatMap fun w => toBE 4 w.toNat
  let crc := crc16 (hdr ++ data)
  hdr ++ [0] ++ data ++ toBE 2 (if ok then crc else ~~~crc).toNat

/-- A READ (R382, R383): `clocked` counts its bytes; one that ends before its request CRC has failed it. -/
def State.hostRead (s : State) (mode3 : Bool) (addr : HAddr) (ta : Byte) (crc : BitVec 16) (clocked : Nat)
    (ecc : List EccEvent) : State :=
  s.transact mode3 fun s o hdr =>
    let n := readLen ta
    let as := burst addr.toNat n
    let say := fun (s : State) (ws : List Word) (ok : Bool) =>
      s.modPort fun p => { p with hmiso := some (answer (readAnswer hdr ws ok) clocked) }
    let crcOk := decide (7 ≤ clocked) && readCrc addr ta == crc
    let aligned := addr.toNat % 4 == 0
    if !crcOk || !aligned then
      let ws := match s.readWords o addr.toNat n ecc with
        | .ok ws => ws
        | .error _ => List.replicate n 0
      say (s.modHost o fun h => { h with rcrc := h.rcrc || !crcOk, fmt := h.fmt || !aligned }) ws false
    else if s.txLane addr.toNat ≠ o then
      let s := s.modHost o fun h => { h with remrd := true }
      say (if s.reach o then s else s.unreached o) (List.replicate n 0) true
    else
      let full := decide (readBytes ta ≤ clocked)
      let s := if full && as.contains 0x14 then s.latchTb o else s
      match s.readWords o addr.toNat n ecc with
      | .error s' => say (s'.eccSeen o ((s.lane o).readsPa as) ecc) (List.replicate n 0) true
      | .ok ws =>
        let s := s.eccSeen o ((s.lane o).readsPa as) ecc
        say (if full then s.consume o as else s) ws true

/-- HOST_READ. -/
def execHostRead (mode3 : Bool) (addr : HAddr) (ta : Byte) (crc : BitVec 16) (clocked : Nat) (ecc : List EccEvent)
    (s : State) : Host.Outcome State Fault Refusal :=
  .next (s.hostRead mode3 addr ta crc clocked ecc)

/-- HOST_STATUS: the header and its CRC-16 (R378); an unknown command sets FMT, and 00h follows the header (R382). -/
def execHostStatus (mode3 : Bool) (cmd : Byte) (s : State) : Host.Outcome State Fault Refusal :=
  .next (s.transact mode3 fun s o hdr =>
    if cmd = cmdStatus then s.modPort fun p => { p with hmiso := some (headed hdr) }
    else (s.modPort fun p => { p with hmiso := some (answer hdr 6) }).modHost o fun h => { h with fmt := true })

/-- TIMEBASE_READ: a read of MOD_TBLO (R47). -/
def execTimebaseRead (l : LaneId) (s : State) : Host.Outcome State Fault Refusal := .next (s.latchTb l)

/-- YLOG_CLR (R52). -/
def execYlogClr (l : LaneId) (s : State) : Host.Outcome State Fault Refusal := .next (s.writeMod l 0x40 0x80000000)

/-! ### Result slots (R389 to R392) -/

/-- RESULT_REQUEST: a request takes effect at a start gate (R389). -/
def execResultRequest (l : LaneId) (j : Fin 4) (reqseq : BitVec 16) (s : State) : Host.Outcome State Fault Refusal :=
  .next (s.resultRequest l j reqseq)

/-- The words written over the first data words of a slot. -/
def ResSlot.fill (z : ResSlot) (ws : List Word) : ResSlot :=
  { z with data := ws.zipIdx.foldl (fun v p => vmod v p.2 fun _ => p.1) z.data }

/-- A delivery ends the request of slot j with RSTAT r (R390). -/
def State.resultEnd (s : State) (l : LaneId) (j r : Nat) (ws : List Word) : State :=
  let q := vget (s.lane l).ln.rreq {} j
  let s := s.modLN l fun x => { x with rreq := vmod x.rreq j fun q => { q with pend := false } }
  s.modKeep l fun k => { k with slots := vmod k.slots j fun z =>
    { (z.fill ws) with seq := q.reqseq, len := q.rlen, rstat := r, valid := true, consumed := false } }

/-- A request outstanding in slot j is delivered (R390): with the words of this lane, or of the other over the sync link. -/
def State.resultDeliver (s : State) (l : LaneId) (j : Nat) : State :=
  let q := vget (s.lane l).ln.rreq {} j
  if !q.pend then s
  else if q.rtgt && !s.reach l then s.resultEnd l j 1 []
  else match s.readWords (if q.rtgt then l.other else l) q.raddr q.rlen [] with
    | .ok ws => s.resultEnd l j 0 ws
    | .error s' => s'.resultEnd l j 2 []

/-- RESULT_DELIVERY. -/
def execResultDelivery (l : LaneId) (j : Fin 4) (s : State) : Host.Outcome State Fault Refusal :=
  .next (s.resultDeliver l j)

/-- At a start gate the requests of lane l for its own registers are delivered (R390). -/
def State.resultGate (s : State) (l : LaneId) : State :=
  (List.range 4).foldl (fun s j =>
    if (vget (s.lane l).ln.rreq {} j).rtgt then s else s.resultDeliver l j) s

end Sys2Proof.Machine
end

