-- ==== Sys2Proof/Machine/Tick.lean ====
section
/-! DEFINITION. The two instants of a tick at which results become common: the merge at 18 µs and the start gate (chapters 1
and 3). -/

namespace Sys2Proof.Machine

/-! ### The merge (R118 to R121) -/

/-- The result has arrived and may merge in tick t (R38, R118): one of class S not in the tick in which its task started. -/
def Task.ripe (k : Task) (t : Nat) : Bool := k.arrived?.isSome && (k.cls != .s || k.started != some t)

/-- The context's result is here for the merge of tick t: its task has delivered, and for a block of class B one is accepted. -/
def Lane.resultHere (x : Lane) (t : Nat) (r : CtxRec) : Bool :=
  (x.ln.sched.tasks.any fun k => k.ctx == r.ctx && k.ripe t) &&
    (if r.typ == 1 then (x.axis r.index).acc.isSome
     else if r.typ == 3 then (x.dway r.index).acc.isSome
     else if r.typ == 4 then x.ln.slalomAcc.isSome
     else true)

/-- The result of an AXBASE context is merged (R118, R151, R246): the next record of its axis carries its command. -/
def State.mergeAxis (s : State) (l : LaneId) (n : Nat) : State :=
  match ((s.lane l).axis n).acc with
  | none => s
  | some w =>
    let c := (s.lane l).acfg n
    let s := s.modAxis l n fun a =>
      { a with cur := { w with out := w.out.done }, acc := none, cmd := { a.cmd.answer w.out with hold := false } }
    let s := if ((s.lane l).ring c.ring).st.tracked then
        s.modRing l c.ring (·.modSlot c.slot fun t => { t with cmdReady := true })
      else s
    s.axOut l n w.out

/-- The result of a DOOR context is merged. -/
def State.mergeDoor (s : State) (l : LaneId) (d : Nat) : State :=
  match ((s.lane l).dway d).acc with
  | none => s
  | some w =>
    let s := s.modDway l d fun y => { y with cur := { w with out := {} }, acc := none }
    s.doorOut l d w.out

/-- A grant reaches its doorway, or is returned where the doorway no longer waits for it (R213, R225, R234, R441). -/
def State.grantDoor (s : State) (l : LaneId) (g : Nat × Nat) : State :=
  if ((s.lane l).dway g.1).newest.serves ((s.lane l).doorEnv g.1 s.tick) then
    let s := s.doorNow l g.1 fun v z => z.onGrant v g.2
    s.modLN l fun x => { x with ledg := { x.ledg with
      cycles := vmod x.ledg.cycles g.1 (Option.map fun y => { y with waitt := min 0xFFFF (y.waitt + g.2) }) } }
  else
    s.modLN l fun x => { x with slalom := { x.slalom with
      budgets := x.slalom.budgets.map fun b => if b.doorway == g.1 then { b with returned := true } else b } }

/-- The yield of cause 01h: written when the episode begins; its DETAIL follows the peak (R54). -/
def State.capYield (s : State) (l : LaneId) : State :=
  let q := (s.lane l).ln.slalom
  match q.capAxis with
  | none => s
  | some n =>
    if q.capNew then
      let slot := (s.lane l).mr.ylog.next
      let s := s.modLane l (·.ylogWrite (yEntry s.tick 1 ((s.img l).ctxId 1 n) (some n) q.isum))
      s.modLN l fun x => { x with slalom := { x.slalom with capSlot := slot, capPeak := q.isum, capNew := false } }
    else if q.capPeak < q.isum then
      let s := s.modKeep l fun k => { k with ylog := vmod k.ylog q.capSlot fun e => { e with detail := BitVec.ofNat 32 q.isum } }
      s.modLN l fun x => { x with slalom := { x.slalom with capPeak := q.isum } }
    else s

/-- The result of SLALOM is merged (R225, R226, R232). -/
def State.mergeSlalom (s : State) (l : LaneId) : State :=
  match (s.lane l).ln.slalomAcc with
  | none => s
  | some w =>
    let s := s.modLN l fun x => { x with slalom := { w with granted := [], buderrNow := false }, slalomAcc := none }
    let s := w.granted.foldl (fun s g => s.grantDoor l g) s
    let s := if w.buderrNow then s.attn l 8 else s
    s.capYield l

/-- The result of one context is merged in tick t, and its task leaves the queues (R118, R190). -/
def State.mergeCtx (s : State) (l : LaneId) (t : Nat) (r : CtxRec) : State :=
  let here := (s.lane l).ln.sched.tasks.filter fun k => k.ctx == r.ctx && k.ripe t
  let lines := if clsOf r.typ == .s || clsOf r.typ == .l || clsOf r.typ == .p then [(r.ctx, (here.map Task.lines).sum)] else []
  let s := s.modSched l fun q => { q with
    tasks := q.tasks.filter fun k => !(k.ctx == r.ctx && k.ripe t)
    merged := q.merged ++ [r.ctx]
    onTime := if here.any fun k => k.fromTick == t then r.ctx :: q.onTime else q.onTime
    carried := q.carried ++ lines }
  if r.typ = 1 then s.mergeAxis l r.index
  else if r.typ = 2 then s.modHyp l r.index r.hyp fun h => h.merge t
  else if r.typ = 3 then s.mergeDoor l r.index
  else if r.typ = 4 then s.mergeSlalom l
  else s

/-- A result that the merge segment carries and the standby lacks is taken from it; the standby's own copy is discarded when it
completes (R327). -/
def State.carryCtx (s : State) (l : LaneId) (r : CtxRec) : State :=
  let y := (s.lane l.other).hyp r.index r.hyp
  let s := if r.typ = 2 then s.modHyp l r.index r.hyp fun h => { y with work := h.work } else s
  s.modSched l fun q => { q with
    tasks := q.tasks.filterMap fun k =>
      if k.ctx != r.ctx then some k
      else match k.pos with
        | .running _ _ => some { k with drop := true }
        | _ => none
    merged := q.merged ++ [r.ctx] }

/-- A result that the standby lacks and the segment does not carry: a lane in SYNC, or in the shadow of its join, leaves it
and joins again (R327). -/
def State.lackCtx (s : State) (l : LaneId) : State :=
  let x := (s.lane l).ln
  if x.role != .sync && x.red.jstate != 4 then s else
  let s := (s.modRed l fun x => { x with shmiss := true, jstate := 1, jticks := 0, clean := 0 }).attn l 15
  if (s.lane l).ln.role == .sync then s.setRole l .unsync else s

/-- The contexts of a lane whose results have arrived for the merge of tick t, in ascending order. -/
def Lane.arrivedCtxs (x : Lane) (t : Nat) : List CtxRec := (ctxsUp x.img.ctxs).filter (x.resultHere t)

/-- The results of a lane that merges its own set. -/
def State.mergeOwn (s : State) (l : LaneId) : State :=
  let t := s.tick
  ((s.lane l).arrivedCtxs t).foldl (fun s r => s.mergeCtx l t r) s

/-- The results of a standby that merges by MSET (R121, R327): what it has, what the segment carries, and what it lacks. A
result that MSET does not name is held back. -/
def State.mergeBy (s : State) (l : LaneId) (h : MergeHdr) : State :=
  let t := s.tick
  let x := s.lane l
  let named := (ctxsUp x.img.ctxs).filter fun r => h.mset.contains r.ctx
  named.foldl (fun s r =>
    if x.resultHere t r then s.mergeCtx l t r
    else if h.carried.any fun k => k.1 == r.ctx then s.carryCtx l r
    else s.lackCtx l) s

/-- Results of class S that missed the merge of their due tick are counted once (R120). -/
def State.countLate (s : State) (l : LaneId) : State :=
  let late := (s.lane l).ln.sched.tasks.filter fun t =>
    t.cls == .s && !t.late && !t.drop && !t.ripe s.tick && decide (1 ≤ ticksSince s.tick t.fromTick)
  let s := late.foldl (fun s t => s.modST l fun x => { x with ctxrun := vmod x.ctxrun t.ctx fun r =>
    { r with late := satInc 0xFFFF r.late } }) s
  if late.isEmpty then s
  else s.modSched l fun q => { q with
    sLate := true
    tasks := q.tasks.map fun t => if late.contains t then { t with late := true } else t }

/-- The axes whose result of this tick has not been merged have missed their deadline (R39, R458). -/
def State.judgeMisses (s : State) (l : LaneId) : State :=
  let x := s.lane l
  let gone := (ctxsUp x.img.ctxs).filter fun r =>
    r.typ == 1 && x.hasAxis r.index && !x.ln.sched.onTime.contains r.ctx
  gone.foldl (fun s r => (((s.lane l).bladeOf r.ctx).foldl (fun s u => s.queueCheck l u) s).axisMiss l r.index) s

/-- What the host sees of the hypotheses and the cycles after the merge (R148, R206, R442); a cycle that ended in it leaves its
record. -/
def State.afterMerge (s : State) (l : LaneId) : State :=
  let t := s.tick
  let s := s.modLane l fun x => { x with ln := { x.ln with
    hyps := x.ln.hyps.mapFinIdx fun n v _ => v.map fun h => h.show (x.acfg n) t } }
  let s := s.modLane l fun x => { x with ln := { x.ln with
    ledg := { x.ln.ledg with cycles := x.ln.ledg.cycles.mapFinIdx fun d c _ => c.map (x.cycleTick d t) }
    axes := x.ln.axes.map fun a => { a with cur := { a.cur with out := {} } } } }
  (List.range 12).foldl (fun s d => s.cycleClose l d) s

/-- The merge of lane l (R118, R121, R327, R337): a standby with the sync link merges by the header where it has come; one
that has none, or no link, merges its own set, in an extrapolated tick. -/
def State.mergeLane (s : State) (l : LaneId) (header : Bool) : State :=
  let s := s.modSched l fun q => { q with merged := [], onTime := [], carried := [], window := false }
  if s.linked l then
    match (s.lane l).ln.red.mergeSeg with
    | some h => if header then s.mergeBy l h else (s.extrapolate l).mergeOwn l
    | none => (s.extrapolate l).mergeOwn l
  else if s.standby l then (s.extrapolate l).mergeOwn l
  else s.mergeOwn l

/-- MERGE_CUTOFF in lane l, once a tick: the results that have arrived are accepted, misses are counted, the shed step is
judged, and class C is queued. -/
def State.merge (s : State) (l : LaneId) (m : MergeMeas) : State :=
  let s := (s.within l 1800).mxFall
  if !(s.lane l).ln.sched.window || !(s.lane l).ln.on then s
  else if !(s.lane l).running || (s.lane l).ln.pwr.layover then s.modSched l fun q => { q with merged := [], window := false }
  else
    let s := s.mergeLane l m.header
    let s := (s.judgeMisses l).countLate l
    let s := (s.afterMerge l).shedJudge l m
    let s := if s.owns l then s.makeEpoch l else s
    let t := s.tick
    s.modLane l fun x => (x.queueC t).preemptAll l t .c [.g, .s, .l, .p]

/-- MERGE_CUTOFF (R118). -/
def execMergeCutoff (l : LaneId) (m : MergeMeas) (s : State) : Host.Outcome State Fault Refusal :=
  .next (if s.lines.inReset then s else s.merge l m)

/-! ### The start gate (R31, R32, R36) -/

/-- The tick that ends is counted for a lane: a third tick in a row with a missed deadline degrades it (R39, R467), and a task
of class G that is not finished speaks for a raise (R123). -/
def State.endTick (s : State) (l : LaneId) : State :=
  if !(s.lane l).ln.on then s else
  let q := (s.lane l).ln.sched
  let open' := q.tasks.any fun t => t.cls == .g && t.arrived?.isNone
  let run := if q.missNow then (s.lane l).ln.mod.missRun + 1 else 0
  let s := s.modLN l fun x => { x with
    mod := { x.mod with missRun := run }
    hlth := { x.hlth with calm := if q.missNow then 0 else x.hlth.calm + 1 }
    red := { x.red with extrap := x.red.exNow }
    sched := { x.sched with missNow := false, gLate := x.sched.gLate || open' } }
  if 3 ≤ run then s.degrade l 1 else s

/-- The next start gate's timebase value: every 25 µs (R31, R32). -/
def nextGate (now : Time) : Time := BitVec.ofNat 64 ((now.toNat / 2500 + 1) * 2500)

/-- Time goes on to the next start gate, which reaches every island (R32, R33). -/
def State.advance (s : State) : State :=
  let g := nextGate s.lines.now
  let s := s.modLines fun x => { x with now := g, gate := g }
  s.modLanes fun x => if !x.ln.on then x else { x with ln := { x.ln with
    islands := x.ln.islands.mapFinIdx fun i v _ => v.gate i g } }

/-- What is left of the blocks that class B was computing is dropped (R117), and a new gate judges commands by the configuration
that it finds (R178). -/
def LaneLN.dropWork (x : LaneLN) : LaneLN :=
  { x with
    axes := x.axes.map fun a => { a with work := none, cmd := { a.cmd with prevCfg := none } }
    dways := x.dways.map fun d => { d with work := none }
    slalomWork := none }

/-- The context of a hypothesis has a task that has not delivered. -/
def Lane.stageOut (x : Lane) (n h : Nat) : Bool :=
  x.ln.sched.tasks.any fun t => t.cls == .s && t.arrived?.isNone && (x.img.ctx t.ctx).any fun r => r.index == n && r.hyp == h

/-- The hypotheses of axis n at this gate (R190, R195, R197). One that shedding drops is counted, and reads 0. -/
def State.hypGate (s : State) (l : LaneId) (n : Nat) : State :=
  if !(s.lane l).hasAxis n then s
  else
    let k := hypkeep (s.lane l).ln.sched.step
    (List.range 4).foldl (fun s h =>
      let x := s.lane l
      let c := x.acfg n
      let y := x.hyp n h
      if !kept c k h then
        let s := s.modLN l fun z => z.modHyp n h fun y => { y.squash with hq := false }
        let s := s.modAxis l n (·.both fun a => { a with
          fit := vmod a.fit h fun _ => false
          res := vmod a.res h fun _ => 0 })
        if y.hasPass then s.modLN l (·.countSquash n 1 y.faults) else s
      else
        let s := if 0 < y.lostFaults then s.modLN l (·.countSquash n 0 y.lostFaults) else s
        if x.stageOut n h then s.modHyp l n h Hyp.renew
        else s.modHyp l n h fun y => y.gate c (x.axis n).cur h s.tick true) s

/-- The tasks of a lane at this gate: the step decided in the last tick applies (R124), stages and tasks are queued, and a
waiting task of class B, S or L may take a Blade from a class that it displaces (R103, R108, R115). -/
def State.schedGate (s : State) (l : LaneId) : State :=
  let step := if s.linked l then (s.lane l.other).ln.sched.nextStep else (s.lane l).ln.sched.nextStep
  let s := s.modSched l fun q => { q with step := step, nextStep := step, window := true }
  let s := if (s.lane l).ln.pwr.layover then s else (List.range 24).foldl (fun s n => s.hypGate l n) s
  let t := s.tick
  s.modLane l fun x =>
    (((x.queueGate t).preemptAll l t .b [.g, .s, .l, .p]).preemptAll l t .s [.l, .p]).preemptAll l t .l [.p]

/-- Compare slots that were behind when armed fire at this gate (R164). -/
def State.armGate (s : State) (l : LaneId) (n : Nat) : State :=
  if !(s.lane l).hasAxis n then s
  else
    let g := s.lines.gate
    let s := s.modAxis l n fun a => { a with cur := { a.cur with out := a.cur.out.done }.armTick g }
    let o := ((s.lane l).axis n).cur.out
    (s.axOut l n o).modAxis l n fun a => { a with cur := { a.cur with out := a.cur.out.done } }

/-- The writes of the active lane that the gate segment brings to a standby (R328, R400). -/
def State.segWrites (s : State) (l : LaneId) : List HostWrite :=
  if s.linked l then (s.lane l.other).ln.writes else []

/-- What the writes of this gate clear, before anything of the gate sets a bit again (R12, R15). -/
def State.clearGate (s : State) (l : LaneId) (seg : List HostWrite) : State :=
  let s := seg.foldl (fun s h => (h.cells.filter fun c => followed c.1).foldl (fun s c => s.regClear l c.1 c.2) s) s
  (s.lane l).ln.writes.foldl (fun s h => h.cells.foldl (fun s c => s.regClear l c.1 c.2) s) s

/-- The writes that take effect at this gate (R41, R328, R400): a lane's own, and in a standby the ones that the gate segment
brings from the active lane. -/
def State.writeGate (s : State) (l : LaneId) (seg : List HostWrite) : State :=
  let own := (s.lane l).ln.writes
  let s := s.modLN l fun x => { x with writes := [], applied := own }
  let s := seg.foldl (fun s h => s.applyWrite l false h) s
  own.foldl (fun s h => s.applyWrite l true h) s

/-- Ledger records and self-tests that are deferred under load (R54, R122, R448). -/
def State.deferGate (s : State) (l : LaneId) : State :=
  let step := (s.lane l).ln.sched.step
  let s := if 3 ≤ step then s.ledgerRun l else s
  let g := (s.lane l).ln.ledg.pend.length
  let s := if 3 ≤ step && 0 < g then s.yield l 7 (Config.servedCtx 7) none g else s
  let k := (s.lane l).ln.hlth.queue.length
  if 4 ≤ step && 0 < k then s.yield l 8 (Config.servedCtx 8) none k else s

/-- One lane at the start gate, after the structures of this gate stand. -/
def State.laneGate (s : State) (l : LaneId) (seg : List HostWrite) : State :=
  if !(s.lane l).ln.on then s else
  let s := s.modLN l fun x => { x.dropWork with
    ylLive := x.ylSeen, ylSeen := [] }
  let s := (List.range 24).foldl (fun s n => s.armGate l n) s
  let s := (s.schedGate l).writeGate l seg
  let s := (List.range 24).foldl (fun s n => s.applyLearn l n) s
  let s := (s.reportGate l).netGate l
  ((s.deferGate l).podGating l).resultGate l

/-- The traction interlock's output is released from the gate after a seal record came into force (R85, R286). -/
def State.sealGate (s : State) : State :=
  if s.sealed && (s.lane s.ref.owner).running then s.modSc fun c => { c with sealtr := true } else s

/-- What HBUSY waited for a start gate for (R385): a token move, until the new active lane's first frame has left (R334,
R343). -/
def State.busyGate (s : State) : State :=
  let rep := (List.range 4).any fun r => (s.hw r).repNow
  (s.modPort fun p => { p with
    busyWrite := false, busySwitch := p.busySwitch && rep, busyQuiet := p.busyQuiet && rep }).modRef fun r =>
    { r with frameBad := false }

/-- A start gate of both lanes. The token holder's goes first, since a standby follows it. What the writes of this gate clear
goes before every event of the gate, so that a bit which the gate sets stays set (R15). -/
def State.gateAll (s : State) : State :=
  let o := s.ref.owner
  let segO := s.segWrites o
  let segT := s.segWrites o.other
  let s := (s.clearGate o segO).clearGate o.other segT
  let s := (s.endTick .a).endTick .b
  let s := s.ringGate.advance
  let s := (s.redGate .a).redGate .b
  let s := ((s.liveCommit.activate o).loadEnd o).liveTimeout o
  let s := ((s.laneGate o segO).laneGate o.other segT).loadGate
  s.sealGate.busyGate.mxGate

/-- START_GATE (R36). While a reset is held no start gate is sent (R482). -/
def execStartGate (s : State) : Host.Outcome State Fault Refusal := .next (if s.lines.inReset then s else s.gateAll)

end Sys2Proof.Machine
end

