-- ==== Sys2Proof/Machine/Dispatch.lean ====
section
/-! DEFINITION. One arm per command: each a direct call of its meaning. -/

namespace Sys2Proof.Machine

def exec (i : Instr) (s : State) : Host.Outcome State Fault Refusal :=
  match i with
  | .hostWrite a0 a1 a2 => Sys2Proof.Machine.execHostWrite a0 a1 a2 s
  | .hostRead a0 a1 a2 a3 a4 a5 => Sys2Proof.Machine.execHostRead a0 a1 a2 a3 a4 a5 s
  | .hostStatus a0 a1 => Sys2Proof.Machine.execHostStatus a0 a1 s
  | .timebaseRead a0 => Sys2Proof.Machine.execTimebaseRead a0 s
  | .ylogClr a0 => Sys2Proof.Machine.execYlogClr a0 s
  | .startGate => Sys2Proof.Machine.execStartGate s
  | .startGateLoss a0 a1 => Sys2Proof.Machine.execStartGateLoss a0 a1 s
  | .handshakeTimeout a0 a1 => Sys2Proof.Machine.execHandshakeTimeout a0 a1 s
  | .bladeFree a0 a1 a2 a3 a4 => Sys2Proof.Machine.execBladeFree a0 a1 a2 a3 a4 s
  | .gTaskWaitExpiry a0 a1 => Sys2Proof.Machine.execGTaskWaitExpiry a0 a1 s
  | .taskResult a0 a1 a2 a3 => Sys2Proof.Machine.execTaskResult a0 a1 a2 a3 s
  | .mergeCutoff a0 a1 => Sys2Proof.Machine.execMergeCutoff a0 a1 s
  | .shedStepLower a0 => Sys2Proof.Machine.execShedStepLower a0 s
  | .cTaskDeadline a0 a1 => Sys2Proof.Machine.execCTaskDeadline a0 a1 s
  | .laneReport a0 => Sys2Proof.Machine.execLaneReport a0 s
  | .axBaseTask a0 a1 => Sys2Proof.Machine.execAxBaseTask a0 a1 s
  | .hflt a0 a1 => Sys2Proof.Machine.execHflt a0 a1 s
  | .speedTimeout a0 a1 => Sys2Proof.Machine.execSpeedTimeout a0 a1 s
  | .move a0 a1 a2 a3 => Sys2Proof.Machine.execMove a0 a1 a2 a3 s
  | .stop a0 a1 a2 a3 => Sys2Proof.Machine.execStop a0 a1 a2 a3 s
  | .qstop a0 a1 a2 a3 => Sys2Proof.Machine.execQstop a0 a1 a2 a3 s
  | .home a0 a1 a2 a3 => Sys2Proof.Machine.execHome a0 a1 a2 a3 s
  | .accWrite a0 a1 a2 a3 => Sys2Proof.Machine.execAccWrite a0 a1 a2 a3 s
  | .cmpArm a0 a1 a2 a3 => Sys2Proof.Machine.execCmpArm a0 a1 a2 a3 s
  | .debinChange a0 a1 a2 => Sys2Proof.Machine.execDebinChange a0 a1 a2 s
  | .chat a0 a1 a2 => Sys2Proof.Machine.execChat a0 a1 a2 s
  | .homingBackoffLimit a0 a1 => Sys2Proof.Machine.execHomingBackoffLimit a0 a1 s
  | .homingTimeout a0 a1 => Sys2Proof.Machine.execHomingTimeout a0 a1 s
  | .stallConfirm a0 a1 => Sys2Proof.Machine.execStallConfirm a0 a1 s
  | .brickPowerLoss a0 a1 => Sys2Proof.Machine.execBrickPowerLoss a0 a1 s
  | .brickPowerReturn a0 a1 a2 => Sys2Proof.Machine.execBrickPowerReturn a0 a1 a2 s
  | .preArm a0 a1 => Sys2Proof.Machine.execPreArm a0 a1 s
  | .prearmWithdraw a0 a1 => Sys2Proof.Machine.execPrearmWithdraw a0 a1 s
  | .obstacleCommit a0 a1 => Sys2Proof.Machine.execObstacleCommit a0 a1 s
  | .snowploughBrakeEnd a0 a1 => Sys2Proof.Machine.execSnowploughBrakeEnd a0 a1 s
  | .snowploughReliefEnd a0 a1 => Sys2Proof.Machine.execSnowploughReliefEnd a0 a1 s
  | .schussStage a0 a1 a2 a3 => Sys2Proof.Machine.execSchussStage a0 a1 a2 a3 s
  | .passAgeExpiry a0 a1 a2 => Sys2Proof.Machine.execPassAgeExpiry a0 a1 a2 s
  | .dragLearn a0 a1 => Sys2Proof.Machine.execDragLearn a0 a1 s
  | .dragMapSeed a0 a1 => Sys2Proof.Machine.execDragMapSeed a0 a1 s
  | .dragMapWrite a0 a1 a2 a3 => Sys2Proof.Machine.execDragMapWrite a0 a1 a2 a3 s
  | .safetyReport => Sys2Proof.Machine.execSafetyReport s
  | .reportLoss a0 => Sys2Proof.Machine.execReportLoss a0 s
  | .doorSeq a0 a1 => Sys2Proof.Machine.execDoorSeq a0 a1 s
  | .warningEnd a0 a1 => Sys2Proof.Machine.execWarningEnd a0 a1 s
  | .dwellExpiry a0 a1 => Sys2Proof.Machine.execDwellExpiry a0 a1 s
  | .lockTimeout a0 a1 => Sys2Proof.Machine.execLockTimeout a0 a1 s
  | .lockPulseEnd a0 a1 => Sys2Proof.Machine.execLockPulseEnd a0 a1 s
  | .stepLockTimeout a0 a1 => Sys2Proof.Machine.execStepLockTimeout a0 a1 s
  | .disag a0 a1 => Sys2Proof.Machine.execDisag a0 a1 s
  | .dwayOpen a0 a1 a2 => Sys2Proof.Machine.execDwayOpen a0 a1 a2 s
  | .dwayClose a0 a1 a2 => Sys2Proof.Machine.execDwayClose a0 a1 a2 s
  | .dwayResume a0 a1 a2 => Sys2Proof.Machine.execDwayResume a0 a1 a2 s
  | .svcin a0 a1 a2 => Sys2Proof.Machine.execSvcin a0 a1 a2 s
  | .svcout a0 a1 a2 => Sys2Proof.Machine.execSvcout a0 a1 a2 s
  | .stepskip a0 a1 a2 => Sys2Proof.Machine.execStepskip a0 a1 a2 s
  | .slalom a0 => Sys2Proof.Machine.execSlalom a0 s
  | .ringFrame a0 a1 => Sys2Proof.Machine.execRingFrame a0 a1 s
  | .repeatLimit a0 => Sys2Proof.Machine.execRepeatLimit a0 s
  | .upFrameReceive a0 a1 a2 => Sys2Proof.Machine.execUpFrameReceive a0 a1 a2 s
  | .ringBreak a0 a1 => Sys2Proof.Machine.execRingBreak a0 a1 s
  | .ringRejoin a0 a1 => Sys2Proof.Machine.execRingRejoin a0 a1 s
  | .upDataMissing a0 a1 => Sys2Proof.Machine.execUpDataMissing a0 a1 s
  | .ringBringup a0 a1 a2 a3 => Sys2Proof.Machine.execRingBringup a0 a1 a2 a3 s
  | .rescan a0 a1 => Sys2Proof.Machine.execRescan a0 a1 s
  | .brickLocalGate a0 a1 a2 => Sys2Proof.Machine.execBrickLocalGate a0 a1 a2 s
  | .brickFrameReceive a0 a1 a2 => Sys2Proof.Machine.execBrickFrameReceive a0 a1 a2 s
  | .brickFrameMiss a0 a1 => Sys2Proof.Machine.execBrickFrameMiss a0 a1 s
  | .brickApply a0 a1 => Sys2Proof.Machine.execBrickApply a0 a1 s
  | .brickEnum a0 a1 a2 => Sys2Proof.Machine.execBrickEnum a0 a1 a2 s
  | .brickDesc a0 a1 a2 a3 => Sys2Proof.Machine.execBrickDesc a0 a1 a2 a3 s
  | .brickConfig a0 a1 a2 => Sys2Proof.Machine.execBrickConfig a0 a1 a2 s
  | .brickPush a0 a1 a2 => Sys2Proof.Machine.execBrickPush a0 a1 a2 s
  | .brickServiceWindow a0 a1 a2 => Sys2Proof.Machine.execBrickServiceWindow a0 a1 a2 s
  | .brickArm a0 a1 a2 => Sys2Proof.Machine.execBrickArm a0 a1 a2 s
  | .brickFault a0 a1 a2 => Sys2Proof.Machine.execBrickFault a0 a1 a2 s
  | .brickBeacon a0 a1 => Sys2Proof.Machine.execBrickBeacon a0 a1 s
  | .brickLogicLoss a0 a1 => Sys2Proof.Machine.execBrickLogicLoss a0 a1 s
  | .brickLoopFrame a0 a1 a2 => Sys2Proof.Machine.execBrickLoopFrame a0 a1 a2 s
  | .testFrameStart => Sys2Proof.Machine.execTestFrameStart s
  | .inputLowRecognised a0 a1 a2 => Sys2Proof.Machine.execInputLowRecognised a0 a1 a2 s
  | .inputHighRecognised a0 a1 a2 => Sys2Proof.Machine.execInputHighRecognised a0 a1 a2 s
  | .pulsePatternFault a0 a1 a2 => Sys2Proof.Machine.execPulsePatternFault a0 a1 a2 s
  | .safetyScan a0 => Sys2Proof.Machine.execSafetyScan a0 s
  | .discrepancyFault a0 => Sys2Proof.Machine.execDiscrepancyFault a0 s
  | .twohandOperation a0 => Sys2Proof.Machine.execTwohandOperation a0 s
  | .twohandHeldFault a0 => Sys2Proof.Machine.execTwohandHeldFault a0 s
  | .resetButtonPress a0 => Sys2Proof.Machine.execResetButtonPress a0 s
  | .permitDisagreeFault a0 => Sys2Proof.Machine.execPermitDisagreeFault a0 s
  | .aliveLoss a0 => Sys2Proof.Machine.execAliveLoss a0 s
  | .testSlotLoss => Sys2Proof.Machine.execTestSlotLoss s
  | .outputTestPulse a0 a1 => Sys2Proof.Machine.execOutputTestPulse a0 a1 s
  | .edmFault a0 => Sys2Proof.Machine.execEdmFault a0 s
  | .outputOvercurrent a0 a1 => Sys2Proof.Machine.execOutputOvercurrent a0 a1 s
  | .vsoutLow a0 => Sys2Proof.Machine.execVsoutLow a0 s
  | .vsoutRecover a0 => Sys2Proof.Machine.execVsoutRecover a0 s
  | .confirm a0 a1 a2 => Sys2Proof.Machine.execConfirm a0 a1 a2 s
  | .withdraw a0 a1 => Sys2Proof.Machine.execWithdraw a0 a1 s
  | .safeReset a0 a1 => Sys2Proof.Machine.execSafeReset a0 a1 s
  | .relclr a0 a1 => Sys2Proof.Machine.execRelclr a0 a1 s
  | .reconn a0 a1 a2 => Sys2Proof.Machine.execReconn a0 a1 a2 s
  | .sealPlugRead a0 a1 a2 => Sys2Proof.Machine.execSealPlugRead a0 a1 a2 s
  | .load a0 a1 a2 => Sys2Proof.Machine.execLoad a0 a1 a2 s
  | .streamAutoload a0 => Sys2Proof.Machine.execStreamAutoload a0 s
  | .streamActivate a0 => Sys2Proof.Machine.execStreamActivate a0 s
  | .configStoreWrite a0 a1 => Sys2Proof.Machine.execConfigStoreWrite a0 a1 s
  | .live a0 => Sys2Proof.Machine.execLive a0 s
  | .shadowBuild a0 a1 => Sys2Proof.Machine.execShadowBuild a0 a1 s
  | .liveCommit => Sys2Proof.Machine.execLiveCommit s
  | .liveTimeout a0 => Sys2Proof.Machine.execLiveTimeout a0 s
  | .abort a0 => Sys2Proof.Machine.execAbort a0 s
  | .ethFrameReceive a0 a1 a2 a3 => Sys2Proof.Machine.execEthFrameReceive a0 a1 a2 a3 s
  | .arpRequest a0 a1 a2 => Sys2Proof.Machine.execArpRequest a0 a1 a2 s
  | .arpExpiry a0 a1 a2 => Sys2Proof.Machine.execArpExpiry a0 a1 a2 s
  | .icmpEcho a0 a1 a2 => Sys2Proof.Machine.execIcmpEcho a0 a1 a2 s
  | .ptpSync a0 a1 a2 a3 => Sys2Proof.Machine.execPtpSync a0 a1 a2 a3 s
  | .ptpSyncLoss a0 => Sys2Proof.Machine.execPtpSyncLoss a0 s
  | .safeFrameProduce a0 => Sys2Proof.Machine.execSafeFrameProduce a0 s
  | .safeFrameCheck a0 a1 => Sys2Proof.Machine.execSafeFrameCheck a0 a1 s
  | .connWatchdog a0 => Sys2Proof.Machine.execConnWatchdog a0 s
  | .canFrameReceive a0 a1 a2 a3 a4 a5 => Sys2Proof.Machine.execCanFrameReceive a0 a1 a2 a3 a4 a5 s
  | .canBusOff a0 a1 => Sys2Proof.Machine.execCanBusOff a0 a1 s
  | .canBusoffRecovery a0 a1 => Sys2Proof.Machine.execCanBusoffRecovery a0 a1 s
  | .tunnelRequest a0 a1 a2 a3 => Sys2Proof.Machine.execTunnelRequest a0 a1 a2 a3 s
  | .epochReceive a0 a1 a2 a3 => Sys2Proof.Machine.execEpochReceive a0 a1 a2 a3 s
  | .gateSegmentWait a0 => Sys2Proof.Machine.execGateSegmentWait a0 s
  | .heartbeatLoss a0 a1 => Sys2Proof.Machine.execHeartbeatLoss a0 a1 s
  | .frameInvalid a0 a1 a2 a3 => Sys2Proof.Machine.execFrameInvalid a0 a1 a2 a3 s
  | .hotSwitchover a0 a1 => Sys2Proof.Machine.execHotSwitchover a0 a1 s
  | .coldTakeover a0 a1 => Sys2Proof.Machine.execColdTakeover a0 a1 s
  | .coldTakeoverComplete => Sys2Proof.Machine.execColdTakeoverComplete s
  | .park => Sys2Proof.Machine.execPark s
  | .parkExit a0 => Sys2Proof.Machine.execParkExit a0 s
  | .tokenAssign a0 => Sys2Proof.Machine.execTokenAssign a0 s
  | .divergenceTest => Sys2Proof.Machine.execDivergenceTest s
  | .divergenceOutcome => Sys2Proof.Machine.execDivergenceOutcome s
  | .syncLinkLoss a0 a1 a2 => Sys2Proof.Machine.execSyncLinkLoss a0 a1 a2 s
  | .syncLinkRetry a0 a1 => Sys2Proof.Machine.execSyncLinkRetry a0 a1 s
  | .laneJoin a0 => Sys2Proof.Machine.execLaneJoin a0 s
  | .joinTimeout a0 => Sys2Proof.Machine.execJoinTimeout a0 s
  | .revpendSet => Sys2Proof.Machine.execRevpendSet s
  | .quietHandover a0 => Sys2Proof.Machine.execQuietHandover a0 s
  | .forcedHandover a0 => Sys2Proof.Machine.execForcedHandover a0 s
  | .swreq a0 => Sys2Proof.Machine.execSwreq a0 s
  | .dmaStart a0 a1 a2 => Sys2Proof.Machine.execDmaStart a0 a1 a2 s
  | .dmaResume a0 a1 => Sys2Proof.Machine.execDmaResume a0 a1 s
  | .dmaAbort a0 a1 => Sys2Proof.Machine.execDmaAbort a0 a1 s
  | .dmaBurst a0 a1 => Sys2Proof.Machine.execDmaBurst a0 a1 s
  | .faultLogClr a0 => Sys2Proof.Machine.execFaultLogClr a0 s
  | .resultRequest a0 a1 a2 => Sys2Proof.Machine.execResultRequest a0 a1 a2 s
  | .resultDelivery a0 a1 => Sys2Proof.Machine.execResultDelivery a0 a1 s
  | .mailboxPost a0 a1 a2 a3 => Sys2Proof.Machine.execMailboxPost a0 a1 a2 a3 s
  | .mailboxAck a0 a1 a2 a3 => Sys2Proof.Machine.execMailboxAck a0 a1 a2 a3 s
  | .stewardCommand a0 a1 => Sys2Proof.Machine.execStewardCommand a0 a1 s
  | .stewardWatchdog a0 a1 => Sys2Proof.Machine.execStewardWatchdog a0 a1 s
  | .loadCommand a0 => Sys2Proof.Machine.execLoadCommand a0 s
  | .nocmdTimeout => Sys2Proof.Machine.execNocmdTimeout s
  | .loadOvercurrent a0 a1 a2 => Sys2Proof.Machine.execLoadOvercurrent a0 a1 a2 s
  | .groupOvercurrent a0 a1 a2 => Sys2Proof.Machine.execGroupOvercurrent a0 a1 a2 s
  | .thermalShutdown a0 a1 => Sys2Proof.Machine.execThermalShutdown a0 a1 s
  | .thermalRelease a0 a1 => Sys2Proof.Machine.execThermalRelease a0 a1 s
  | .groupUndervoltage a0 a1 => Sys2Proof.Machine.execGroupUndervoltage a0 a1 s
  | .groupVoltageRecovery a0 a1 => Sys2Proof.Machine.execGroupVoltageRecovery a0 a1 s
  | .retryIntervalExpiry a0 => Sys2Proof.Machine.execRetryIntervalExpiry a0 s
  | .retryReload a0 => Sys2Proof.Machine.execRetryReload a0 s
  | .clr a0 => Sys2Proof.Machine.execClr a0 s
  | .openLoadOn a0 a1 a2 => Sys2Proof.Machine.execOpenLoadOn a0 a1 a2 s
  | .openLoadOff a0 a1 a2 => Sys2Proof.Machine.execOpenLoadOff a0 a1 a2 s
  | .shortb a0 a1 a2 => Sys2Proof.Machine.execShortb a0 a1 a2 s
  | .chimeToneAdvance a0 => Sys2Proof.Machine.execChimeToneAdvance a0 s
  | .ledgerRec a0 => Sys2Proof.Machine.execLedgerRec a0 s
  | .traceSample a0 a1 => Sys2Proof.Machine.execTraceSample a0 a1 s
  | .ledgerScan a0 => Sys2Proof.Machine.execLedgerScan a0 s
  | .mirrorCopy a0 => Sys2Proof.Machine.execMirrorCopy a0 s
  | .ledgerUpack a0 a1 => Sys2Proof.Machine.execLedgerUpack a0 a1 s
  | .ledgerSend a0 a1 => Sys2Proof.Machine.execLedgerSend a0 a1 s
  | .ledgerAck a0 a1 => Sys2Proof.Machine.execLedgerAck a0 a1 s
  | .ledgerDatagram a0 => Sys2Proof.Machine.execLedgerDatagram a0 s
  | .patrol a0 a1 => Sys2Proof.Machine.execPatrol a0 a1 s
  | .sramRowCheck a0 a1 a2 => Sys2Proof.Machine.execSramRowCheck a0 a1 a2 s
  | .bladeCheck a0 a1 => Sys2Proof.Machine.execBladeCheck a0 a1 s
  | .ringSegmentCheck a0 a1 => Sys2Proof.Machine.execRingSegmentCheck a0 a1 s
  | .relayPointCheck a0 a1 => Sys2Proof.Machine.execRelayPointCheck a0 a1 s
  | .laneCheck a0 a1 a2 a3 a4 => Sys2Proof.Machine.execLaneCheck a0 a1 a2 a3 a4 s
  | .inputCheck a0 a1 => Sys2Proof.Machine.execInputCheck a0 a1 s
  | .healthCheckRequest a0 a1 => Sys2Proof.Machine.execHealthCheckRequest a0 a1 s
  | .lifeSecond a0 => Sys2Proof.Machine.execLifeSecond a0 s
  | .degradeClear a0 => Sys2Proof.Machine.execDegradeClear a0 s
  | .powerOnReset a0 => Sys2Proof.Machine.execPowerOnReset a0 s
  | .supplyLow a0 a1 => Sys2Proof.Machine.execSupplyLow a0 a1 s
  | .moduleReset a0 => Sys2Proof.Machine.execModuleReset a0 s
  | .resetRelease a0 a1 => Sys2Proof.Machine.execResetRelease a0 a1 s
  | .serviceResetPress a0 => Sys2Proof.Machine.execServiceResetPress a0 s
  | .serviceReset => Sys2Proof.Machine.execServiceReset s
  | .serviceResetDeny => Sys2Proof.Machine.execServiceResetDeny s
  | .rqstuck a0 => Sys2Proof.Machine.execRqstuck a0 s
  | .rqInputRelease a0 => Sys2Proof.Machine.execRqInputRelease a0 s
  | .lrst a0 a1 => Sys2Proof.Machine.execLrst a0 a1 s
  | .laneReset a0 a1 => Sys2Proof.Machine.execLaneReset a0 a1 s
  | .laneStart a0 => Sys2Proof.Machine.execLaneStart a0 s
  | .layin a0 => Sys2Proof.Machine.execLayin a0 s
  | .podGating a0 => Sys2Proof.Machine.execPodGating a0 s
  | .layoverWake a0 => Sys2Proof.Machine.execLayoverWake a0 s
  | .wakePacket a0 a1 a2 a3 => Sys2Proof.Machine.execWakePacket a0 a1 a2 a3 s
  | .xrefLoss a0 a1 => Sys2Proof.Machine.execXrefLoss a0 a1 s
  | .xrefRegain a0 a1 => Sys2Proof.Machine.execXrefRegain a0 a1 s
  | .xrefSlewEnd => Sys2Proof.Machine.execXrefSlewEnd s
  | .pps a0 => Sys2Proof.Machine.execPps a0 s
  | .phyint a0 a1 a2 => Sys2Proof.Machine.execPhyint a0 a1 a2 s
  | .phyPoll a0 a1 a2 a3 => Sys2Proof.Machine.execPhyPoll a0 a1 a2 a3 s
  | .supplyGood a0 a1 => Sys2Proof.Machine.execSupplyGood a0 a1 s
  | .hbusyResetEnd => Sys2Proof.Machine.execHbusyResetEnd s
  | .switchToggleLoss a0 a1 => Sys2Proof.Machine.execSwitchToggleLoss a0 a1 s
  | .epochSealTimeout a0 => Sys2Proof.Machine.execEpochSealTimeout a0 s
  | .pwmPeriodBoundary a0 => Sys2Proof.Machine.execPwmPeriodBoundary a0 s
  | .phyResetRelease a0 => Sys2Proof.Machine.execPhyResetRelease a0 s

end Sys2Proof.Machine
end

