-- ==== Sys2Proof/Safety.lean ====
section
/-! DEFINITION. What counts as a good state and a safe run of this block, in the terms the statements use: the invariants,
and the frames, each of which says that two states agree but for one part. -/

namespace Sys2Proof.Machine

/-! ### Good states -/

/-- A lane's memory and the scratch of its Blades are in canonical form. -/
abbrev Lane.memWf (x : Lane) : Prop := Memory.wf x.keep.mem = true ∧ Memory.wf x.keep.scratch = true

/-- Every lane's are. -/
abbrev State.memWf (s : State) : Prop := s.laneA.memWf ∧ s.laneB.memWf

/-- An outcome is a next state. -/
def completes (o : Host.Outcome State Fault Refusal) : Prop := ∃ t, o = .next t

/-- The lane that holds the token answers transactions: there is one, it has started, and no reset is held. -/
abbrev State.answers (s : State) : Prop :=
  s.ref.token = true ∧ s.lines.inReset = false ∧ (s.lane s.ref.owner).ln.on = true

/-! ### Frames: t is s but for the part named -/

abbrev onlyLane (l : LaneId) (s t : State) : Prop := t.setLane l (s.lane l) = s
abbrev onlyLN (l : LaneId) (s t : State) : Prop := t.modLN l (fun _ => (s.lane l).ln) = s
abbrev onlyMR (l : LaneId) (s t : State) : Prop := t.modMR l (fun _ => (s.lane l).mr) = s
abbrev onlyST (l : LaneId) (s t : State) : Prop := t.modST l (fun _ => (s.lane l).st) = s
abbrev onlyKeep (l : LaneId) (s t : State) : Prop := t.modKeep l (fun _ => (s.lane l).keep) = s
abbrev onlyAxis (l : LaneId) (n : Nat) (s t : State) : Prop := t.modAxis l n (fun _ => (s.lane l).axis n) = s
abbrev onlyDway (l : LaneId) (d : Nat) (s t : State) : Prop := t.modDway l d (fun _ => (s.lane l).dway d) = s
abbrev onlyRing (l : LaneId) (r : Nat) (s t : State) : Prop := t.modRing l r (fun _ => (s.lane l).ring r) = s
abbrev onlyHyp (l : LaneId) (n h : Nat) (s t : State) : Prop := t.modHyp l n h (fun _ => (s.lane l).hyp n h) = s
abbrev onlyHw (r : Nat) (s t : State) : Prop := t.modHw r (fun _ => s.hw r) = s
abbrev onlyBrick (r b : Nat) (s t : State) : Prop := t.modBrick r b (fun _ => s.brick r b) = s
abbrev onlySc (s t : State) : Prop := { t with sc := s.sc } = s
abbrev onlyRef (s t : State) : Prop := { t with ref := s.ref } = s
abbrev onlyPd (s t : State) : Prop := { t with pd := s.pd } = s
abbrev onlyPwr (s t : State) : Prop := { t with pwr := s.pwr } = s
abbrev onlyPort (s t : State) : Prop := { t with port := s.port } = s
abbrev onlyLines (s t : State) : Prop := { t with lines := s.lines } = s
abbrev onlyModKeep (s t : State) : Prop := { t with keep := s.keep } = s
/-- Only the two lanes differ. -/
abbrev onlyLanes (s t : State) : Prop := { t with laneA := s.laneA, laneB := s.laneB } = s

/-- Only what is gathered for learning differs between two axis blocks. -/
abbrev sameButLessons (a b : AxisSt) : Prop := { a with learn := b.learn } = b

/-- Only the block of doorway d of lane l differs, and what its result may ask of the lane: commands to its axes, the yield
log, attention, DISAG, and the cycle that the ledger keeps (R150, R210, R217, R223, R436). -/
abbrev onlyDoorAndOrders (l : LaneId) (d : Fin 12) (s t : State) : Prop :=
  onlyLane l s t ∧ (t.lane l).st = (s.lane l).st ∧ (t.lane l).keep.mem = (s.lane l).keep.mem ∧
  (∀ j : Fin 12, j ≠ d → (t.lane l).dway j = (s.lane l).dway j) ∧
  ∀ n : Fin 24, sameButLessons ((t.lane l).axis n).cur ((s.lane l).axis n).cur ∧
    ((t.lane l).axis n).work.map (fun a => { a with learn := {} }) = ((s.lane l).axis n).work.map (fun a => { a with learn := {} }) ∧
    ((t.lane l).axis n).acc.map (fun a => { a with learn := {} }) = ((s.lane l).axis n).acc.map (fun a => { a with learn := {} })

/-- Only brick b of ring r, and the frame and the BEACON on the ring's line, differ. -/
abbrev onlyLineAndBrick (r b : Nat) (s t : State) : Prop :=
  onlyHw r s t ∧ (∀ j : Fin 6, j.val ≠ b → t.brick r j = s.brick r j) ∧
  { t.hw r with line := (s.hw r).line, bcn := (s.hw r).bcn, bricks := (s.hw r).bricks } = s.hw r

end Sys2Proof.Machine
end

