-- ==== Sys2Proof/Certificates/Slice0/Obligations.lean ====
section
/-! DEFINITION. The statements for the provers, family by family; each docstring names the rules of spec/ it rests on. -/

open Sys2Proof Sys2Proof.Machine

/-- A step takes the command at the front of the queue and runs it on the queue's rest; on an empty queue the block idles.
(01_door_cycle_architecture.md; log entry 1) -/
def Obligations.AStepRunsTheFrontCommand : Prop :=
  ∀ (s : State) (i : Instr) (rest : List Instr),
    (s.pending = i :: rest → step s = exec i { s with pending := rest }) ∧ (s.pending = [] → step s = .next s)

/-- Every step answers a next state, keeps both lanes' memories in canonical form, keeps the part number, and takes just
the front of the queue. (12_memory_dma.md) -/
def Obligations.EveryStepKeepsTheMemoryFormAndTheQueue : Prop :=
  ∀ s : State, ∃ t, step s = .next t ∧ (s.memWf → t.memWf) ∧ t.part = s.part ∧ t.pending = s.pending.drop 1

/-- HOST_WRITE: a WRITE is judged for length, alignment and CRC in that order; the first failure rejects it whole; one
that passes is accepted. (13_host_port_mailboxes.md; R378 to R381, R385, R386, R45, R46) -/
def Obligations.AWriteIsJudgedOnceAndWhole : Prop :=
  ∀ (mode3 : Bool) (addr : HAddr) (rest : List Byte) (s : State), s.answers →
    let o := s.ref.owner
    let m := s.txLane addr.toNat
    let n := rest.length
    let data := rest.take (n - 2)
    let crc := BitVec.ofNat 16 (ofBE (rest.drop (n - 2)))
    let badLen := n < 6 ∨ (n - 2) % 4 ≠ 0 ∨ 4 * 256 + 2 < n ∨ 0x1000000 < addr.toNat + (n - 2)
    let badCrc := crc16 (0x02 :: toBE 3 addr.toNat ++ data) ≠ crc
    let was := { (s.lane m).ln.host with mode3 := if m = o then mode3 else (s.lane m).ln.host.mode3 }
    let rej := min 255 (was.rejcnt + 1)
    ∃ t, exec (.hostWrite mode3 addr rest) s = .next t ∧
      (s.hbusy = true → t.port.hmiso = none ∧ (t.lane o).ln.host =
          { (s.lane o).ln.host with ign := true, igncnt := min 255 ((s.lane o).ln.host.igncnt + 1) } ∧
        t.port = { s.port with hmiso := none } ∧
        (t.lane o).ln = { (s.lane o).ln with host := (t.lane o).ln.host } ∧ onlyLN o s { t with port := s.port }) ∧
      (s.hbusy = false → t.port.hmiso = some (answer (headed (s.header o)) (4 + n)) ∧
        (t.lane o).ln.host.mode3 = mode3) ∧
      (s.hbusy = false → m = o ∨ s.reach o = true →
        (badLen → (t.lane m).ln.host = { was with wlen := true, rejcnt := rej }) ∧
        (¬badLen → addr.toNat % 4 ≠ 0 → (t.lane m).ln.host = { was with fmt := true, rejcnt := rej }) ∧
        (¬badLen → addr.toNat % 4 = 0 → badCrc → (t.lane m).ln.host = { was with wcrcBad := true, rejcnt := rej }) ∧
        (badLen ∨ addr.toNat % 4 ≠ 0 ∨ badCrc → (t.lane m).ln.writes = (s.lane m).ln.writes ∧
          t.port = { s.port with hmiso := t.port.hmiso }) ∧
        (¬badLen → addr.toNat % 4 = 0 → ¬badCrc →
          (t.lane m).ln.host = { was with wcrc := crc, wcount := (was.wcount + 1) % 256 } ∧
          (t.lane m).ln.writes = (s.lane m).ln.writes ++ [{ addr := addr.toNat, words := wordsBE data }] ∧
          t.port = { s.port with hmiso := t.port.hmiso, busyWrite := s.port.busyWrite || m == o }) ∧
        (t.lane m).ln = { (s.lane m).ln with host := (t.lane m).ln.host, writes := (t.lane m).ln.writes } ∧
        (m ≠ o → (t.lane o).ln = { (s.lane o).ln with host := { (s.lane o).ln.host with mode3 := mode3 } }) ∧
        onlyLN o s (({ t with port := s.port } : State).modLN m fun _ => (s.lane m).ln)) ∧
      (s.hbusy = false → m ≠ o → s.reach o = false →
        (t.lane o).mr = { (s.lane o).mr with noreach := true } ∧
        (t.lane o).ln = { (s.lane o).ln with host := { (s.lane o).ln.host with mode3 := mode3 } } ∧
        t.port = { s.port with hmiso := t.port.hmiso } ∧
        onlyLN o s (({ t with port := s.port } : State).modMR o fun _ => (s.lane o).mr))

/-- HOST_READ and HOST_STATUS: what HMISO carries, which flags are set, and that a failed or remote READ has no side
effect. (13_host_port_mailboxes.md, 01_door_cycle_architecture.md; R378 to R383, R386, R391, R47) -/
def Obligations.AReadAnswersAtOneInstant : Prop :=
  ∀ (mode3 : Bool) (s : State), s.answers →
    let o := s.ref.owner
    let h0 := { (s.lane o).ln.host with mode3 := mode3 }
    let hdr := s.header o
    (∀ cmd : Byte, ∃ t, exec (.hostStatus mode3 cmd) s = .next t ∧
      (s.hbusy = false → cmd = 0x05 → t.port.hmiso = some (hdr ++ toBE 2 (crc16 hdr).toNat) ∧ (t.lane o).ln.host = h0) ∧
      (s.hbusy = false → cmd ≠ 0x05 → t.port.hmiso = some (hdr ++ [0, 0]) ∧ (t.lane o).ln.host = { h0 with fmt := true }) ∧
      (s.hbusy = true → t.port.hmiso = none ∧ (t.lane o).ln.host =
        { (s.lane o).ln.host with ign := true, igncnt := min 255 ((s.lane o).ln.host.igncnt + 1) }) ∧
      t.port = { s.port with hmiso := t.port.hmiso } ∧
      (t.lane o).ln = { (s.lane o).ln with host := (t.lane o).ln.host } ∧ onlyLN o s { t with port := s.port }) ∧
    (∀ (addr : HAddr) (ta : Byte) (crc : BitVec 16) (clocked : Nat),
      let n := ta.toNat + 1
      let as := (List.range n).map fun k => addr.toNat / 4 * 4 + 4 * k
      let crcOk := 7 ≤ clocked ∧ crc16 (0x0B :: toBE 3 addr.toNat ++ [ta]) = crc
      let all := 7 + 4 * n ≤ clocked
      ∃ t, exec (.hostRead mode3 addr ta crc clocked []) s = .next t ∧
      (s.hbusy = false → crcOk → addr.toNat % 4 = 0 → s.txLane addr.toNat = o →
        (s.lane o).aperFault false as = none →
        let s' := if all ∧ as.contains 0x14 = true then
          s.modLane o fun x => { x with tbhi := BitVec.ofNat 32 (s.lines.now.toNat / 2 ^ 32) } else s
        let s' := s'.modHost o fun h => { h with mode3 := mode3 }
        let data := (as.map fun a => BitVec.ofNat 32 (s'.regRead o a)).flatMap fun w => toBE 4 w.toNat
        t.port.hmiso = some (answer (hdr ++ [0] ++ data ++ toBE 2 (crc16 (hdr ++ data)).toNat) clocked) ∧
        (t.lane o).ln = { (s.lane o).ln with host := h0 } ∧
        (t.lane o).tbhi = (s'.lane o).tbhi ∧
        (∀ j : Fin 4, vget (t.lane o).keep.slots {} j = { vget (s.lane o).keep.slots {} j with
          consumed := (vget (s.lane o).keep.slots {} j).consumed ||
            (decide all && as.contains (0x113C + 0x80 * j.val) && (vget (s.lane o).keep.slots {} j).valid) }) ∧
        (t.lane o).keep = { (s.lane o).keep with slots := (t.lane o).keep.slots } ∧ (t.lane o).mr = (s.lane o).mr ∧
        (t.lane o).st = (s.lane o).st ∧ onlyLane o s { t with port := s.port }) ∧
      (s.hbusy = false → ¬(crcOk ∧ addr.toNat % 4 = 0) → (s.lane o).aperFault false as = none →
        let data := (as.map fun a => BitVec.ofNat 32 ((s.modHost o fun _ => h0).regRead o a)).flatMap fun w => toBE 4 w.toNat
        t.port.hmiso = some (answer (hdr ++ [0] ++ data ++ toBE 2 (~~~ crc16 (hdr ++ data)).toNat) clocked) ∧
        (t.lane o).ln = { (s.lane o).ln with
          host := { h0 with rcrc := h0.rcrc || !decide crcOk, fmt := h0.fmt || addr.toNat % 4 != 0 } } ∧
        onlyLN o s { t with port := s.port }) ∧
      (s.hbusy = false → crcOk → addr.toNat % 4 = 0 → s.txLane addr.toNat ≠ o →
        let data := zeros (4 * n)
        t.port.hmiso = some (answer (hdr ++ [0] ++ data ++ toBE 2 (crc16 (hdr ++ data)).toNat) clocked) ∧
        (t.lane o).ln = { (s.lane o).ln with host := { h0 with remrd := true } } ∧
        (t.lane o).mr = { (s.lane o).mr with noreach := (s.lane o).mr.noreach || !s.reach o } ∧
        onlyLN o s (({ t with port := s.port } : State).modMR o fun _ => (s.lane o).mr)) ∧
      (s.hbusy = true → t.port.hmiso = none ∧ (t.lane o).ln = { (s.lane o).ln with host :=
        { (s.lane o).ln.host with ign := true, igncnt := min 255 ((s.lane o).ln.host.igncnt + 1) } } ∧
        onlyLN o s { t with port := s.port }))

/-- TIMEBASE_READ, YLOG_CLR and FAULT_LOG_CLR: the timebase reads whole through its latch; a cleared log keeps its
position and its entries. (01_door_cycle_architecture.md, 12_memory_dma.md; R47, R51, R52, R371, R375) -/
def Obligations.LatchesAndLogHeads : Prop :=
  ∀ (l : LaneId) (s : State),
    (∃ t, exec (.timebaseRead l) s = .next t ∧ t.regRead l 0x14 + 2 ^ 32 * t.regRead l 0x18 = s.lines.now.toNat ∧
      (t.lane l).ln = (s.lane l).ln ∧ (t.lane l).keep = (s.lane l).keep ∧ (t.lane l).mr = (s.lane l).mr ∧
      (t.lane l).st = (s.lane l).st ∧ onlyLane l s t) ∧
    (∃ t, exec (.ylogClr l) s = .next t ∧ t.regRead l 0x40 = (s.lane l).mr.ylog.next % 128 ∧
      (t.lane l).mr.ylog.next = (s.lane l).mr.ylog.next ∧
      (t.lane l).mr = { (s.lane l).mr with ylog := (t.lane l).mr.ylog } ∧ onlyMR l s t) ∧
    (∃ t, exec (.faultLogClr l) s = .next t ∧ (t.lane l).mr.fhead.next = (s.lane l).mr.fhead.next ∧
      (t.lane l).mr.fhead.count = 0 ∧ (t.lane l).mr.fhead.ovr = 0 ∧
      (t.lane l).mr = { (s.lane l).mr with fhead := (t.lane l).mr.fhead } ∧ onlyMR l s t)

/-- RESULT_REQUEST and RESULT_DELIVERY: which request is rejected, what a taken one changes, and that a delivery carries
one instant's words. (13_host_port_mailboxes.md; R389, R390, R392) -/
def Obligations.ResultSlotsAreRequestedAndDelivered : Prop :=
  ∀ (l : LaneId) (j : Fin 4) (s : State),
    let q := vget (s.lane l).ln.rreq {} j
    let z := vget (s.lane l).keep.slots {} j
    (∀ seq : BitVec 16,
      let bad := q.rlen = 0 ∨ 16 < q.rlen ∨ q.raddr % 4 ≠ 0 ∨ 0x1000000 < q.raddr + 4 * q.rlen ∨ q.pend = true
      ∃ t, exec (.resultRequest l j seq) s = .next t ∧
        (bad → (t.lane l).ln = { (s.lane l).ln with host := { (s.lane l).ln.host with reqerr := true } } ∧ onlyLN l s t) ∧
        (¬bad → vget (t.lane l).ln.rreq {} j = { q with pend := true, reqseq := seq } ∧
          vget (t.lane l).keep.slots {} j = { z with valid := false } ∧
          (∀ k : Fin 4, k ≠ j → vget (t.lane l).ln.rreq {} k = vget (s.lane l).ln.rreq {} k ∧
            vget (t.lane l).keep.slots {} k = vget (s.lane l).keep.slots {} k) ∧
          (t.lane l).ln = { (s.lane l).ln with rreq := (t.lane l).ln.rreq } ∧
          (t.lane l).keep = { (s.lane l).keep with slots := (t.lane l).keep.slots } ∧
          onlyKeep l s (t.modLN l fun _ => (s.lane l).ln))) ∧
    (let from' := if q.rtgt then l.other else l
     let as := (List.range q.rlen).map fun k => q.raddr / 4 * 4 + 4 * k
     let done := fun r => { z with seq := q.reqseq, len := q.rlen, rstat := r, valid := true, consumed := false }
     ∃ t, exec (.resultDelivery l j) s = .next t ∧
      (q.pend = false → t = s) ∧
      (q.pend = true → q.rtgt = false ∨ s.reach l = true → (s.lane from').aperFault false as = none → q.rlen ≤ 16 →
        vget (t.lane l).keep.slots {} j = { done 0 with data := (vget (t.lane l).keep.slots {} j).data } ∧
        (∀ i : Fin 16, vget (vget (t.lane l).keep.slots {} j).data 0 i =
          if i.val < q.rlen then BitVec.ofNat 32 (s.regRead from' (q.raddr / 4 * 4 + 4 * i.val)) else vget z.data 0 i)) ∧
      (q.pend = true → q.rtgt = true → s.reach l = false → vget (t.lane l).keep.slots {} j = done 1) ∧
      (q.pend = true → q.rtgt = false → (s.lane l).aperFault false as ≠ none →
        vget (t.lane l).keep.slots {} j = done 2) ∧
      (q.pend = true → vget (t.lane l).ln.rreq {} j = { q with pend := false }) ∧
      (q.pend = true → (s.lane from').aperFault false as = none ∨ s.reach l = false ∧ q.rtgt = true →
        (∀ k : Fin 4, k ≠ j → vget (t.lane l).ln.rreq {} k = vget (s.lane l).ln.rreq {} k ∧
          vget (t.lane l).keep.slots {} k = vget (s.lane l).keep.slots {} k) ∧
        (t.lane l).ln = { (s.lane l).ln with rreq := (t.lane l).ln.rreq } ∧
        (t.lane l).keep = { (s.lane l).keep with slots := (t.lane l).keep.slots } ∧
        onlyKeep l s (t.modLN l fun _ => (s.lane l).ln)))

/-- MAILBOX_POST, MAILBOX_ACK and STEWARD_COMMAND: what a post delivers, which acknowledgement counts, and how the steward
answers. (13_host_port_mailboxes.md, 17_power_clocks_reset.md; R395 to R399, R401, R403, R487) -/
def Obligations.MailboxesDeliverAndAcknowledge : Prop :=
  ∀ (l : LaneId) (s : State),
    (∀ (m : Fin 16) (len : Fin 32) (own : List Word),
      let b := vget (s.lane l).keep.boxes {} m
      let q := vget (s.lane l).ln.mstat {} m
      s.laneA.ln.pwr.layover = false → s.laneB.ln.pwr.layover = false →
      ∃ t, exec (.mailboxPost l m len own) s = .next t ∧
        (m ≠ 0 → m ≠ 2 →
          let far := (m = 4 ∧ l = .a) ∨ (m = 5 ∧ l = .b)
          let sends := m = 1 ∨ m = 6 ∨ 8 ≤ m.val ∨ far
          let may := sends ∧ (s.lane l).ln.host.swrun = true ∧ (8 ≤ m.val ∨ b.full = false)
          let n := min 16 own.length
          (¬may → t = s) ∧
          (may → ¬far →
            vget (t.lane l).keep.boxes {} m = { b with
              stamp := pisteOf (s.img l) (laneNum l) 0 0 1, seq := b.seq + 1, len := n, full := true,
              coll := b.full || b.coll, startno := (s.lane l).keep.swno, body := (vget (t.lane l).keep.boxes {} m).body } ∧
            (∀ i : Fin 16, vget (vget (t.lane l).keep.boxes {} m).body 0 i =
              if i.val < n then (own[i.val]?).getD 0 else vget b.body 0 i) ∧
            (vget (t.lane l).ln.mstat {} m).msgnew = (q.msgnew || m == 1) ∧
            (t.lane l).ln.host.attn = (s.lane l).ln.host.attn ||| (if m = 1 then 4 else 0) ∧
            (∀ k : Fin 16, k ≠ m → vget (t.lane l).keep.boxes {} k = vget (s.lane l).keep.boxes {} k) ∧ onlyLane l s t) ∧
          (may → far → s.linkUp l = false →
              (t.lane l).ln.mstat = vmod (s.lane l).ln.mstat m (fun z => { z with noreach := true }) ∧
            onlyLN l s t)) ∧
        (m = 0 ∨ m = 2 →
          let ok := bitOf ((s.img l).kinds m) 4 = true
          let mst := vget (t.lane l).ln.mstat {} m
          (¬ok → mst = { q with permerr := true } ∧ vget (t.lane l).keep.boxes {} m = b) ∧
          (ok → 16 < len.val → mst = { q with lenerr := true } ∧ vget (t.lane l).keep.boxes {} m = b) ∧
          (ok → len.val ≤ 16 →
            vget (t.lane l).keep.boxes {} m = { b with
              stamp := pisteOf (s.img l) (laneNum l) 0 0 4, seq := b.seq + 1, len := len, full := true,
              coll := b.full || b.coll, startno := (s.lane l).keep.hstart,
                  body := (vget (t.lane l).keep.boxes {} m).body } ∧
            (∀ i : Fin 16, vget (vget (t.lane l).keep.boxes {} m).body 0 i =
              if i.val < len.val then vget b.staging 0 i else vget b.body 0 i) ∧
            mst = { q with coll := q.coll || b.full, collcnt := if b.full then min 255 (q.collcnt + 1) else q.collcnt } ∧
            (t.lane l).ln.host.attn = (s.lane l).ln.host.attn ||| (if b.full then 4 else 0)) ∧
          (¬ok ∨ 16 < len.val → (t.lane l).ln.host = (s.lane l).ln.host) ∧
          (∀ k : Fin 16, k ≠ m → vget (t.lane l).ln.mstat {} k = vget (s.lane l).ln.mstat {} k ∧
            vget (t.lane l).keep.boxes {} k = vget (s.lane l).keep.boxes {} k) ∧
          (t.lane l).ln = { (s.lane l).ln with mstat := (t.lane l).ln.mstat, host :=
            { (s.lane l).ln.host with attn := (t.lane l).ln.host.attn } } ∧
          (t.lane l).keep = { (s.lane l).keep with boxes := (t.lane l).keep.boxes } ∧
          onlyKeep l s (t.modLN l fun _ => (s.lane l).ln))) ∧
    (∀ (m : Fin 16) (rc aseq : BitVec 16),
      let b := vget (s.lane l).keep.boxes {} m
      let q := vget (s.lane l).ln.mstat {} m
      let ok := b.full = true ∧ b.seq = aseq
      ∃ t, exec (.mailboxAck l m rc aseq) s = .next t ∧
        (ok → vget (t.lane l).keep.boxes {} m = { b with full := false, coll := false, rc := rc, aseq := aseq } ∧
          vget (t.lane l).ln.mstat {} m = { q with acknew := q.acknew || m == 0 || m == 2 } ∧
          (t.lane l).ln.host.attn = (s.lane l).ln.host.attn ||| (if m = 0 ∨ m = 2 then 4 else 0)) ∧
        (¬ok → vget (t.lane l).keep.boxes {} m = b ∧ vget (t.lane l).ln.mstat {} m = { q with ackerr := true } ∧
          (t.lane l).ln.host = (s.lane l).ln.host) ∧
        (∀ k : Fin 16, k ≠ m → vget (t.lane l).ln.mstat {} k = vget (s.lane l).ln.mstat {} k ∧
          vget (t.lane l).keep.boxes {} k = vget (s.lane l).keep.boxes {} k) ∧
        (t.lane l).ln = { (s.lane l).ln with mstat := (t.lane l).ln.mstat, host :=
          { (s.lane l).ln.host with attn := (t.lane l).ln.host.attn } } ∧
        (t.lane l).keep = { (s.lane l).keep with boxes := (t.lane l).keep.boxes } ∧
        let back := ((m = 4 ∧ l = .b) ∨ (m = 5 ∧ l = .a)) ∧ s.linkUp l = true
        let o := l.other
        (¬back → onlyKeep l s (t.modLN l fun _ => (s.lane l).ln)) ∧
        (back → (vget (t.lane o).keep.boxes {} m) = { vget (t.lane l).keep.boxes {} m with
            body := (vget (s.lane o).keep.boxes {} m).body, staging := (vget (s.lane o).keep.boxes {} m).staging } ∧
          onlyKeep o s (t.setLane l (s.lane l)))) ∧
    (∀ accs : List MemAccess,
     let b := vget (s.lane l).keep.boxes {} 0
     let code := (vget b.body 0 0).toNat % 65536
     ∃ t, exec (.stewardCommand l accs) s = .next t ∧
      (b.full = false → t = s) ∧
      (b.full = true →
        let b' := vget (t.lane l).keep.boxes {} 0
        b' = { b with full := false, coll := false, rc := b'.rc, aseq := b.seq } ∧
        (b.startno ≠ (s.lane l).keep.hstart → b'.rc = 0x00F0) ∧
        (b.startno = (s.lane l).keep.hstart → b.len = 0 → b'.rc = 0x00F2) ∧
        (b.startno = (s.lane l).keep.hstart → b.len ≠ 0 → code ≠ 0x51 → code ≠ 0x52 → b'.rc = 0x00F1) ∧
        (b.startno = (s.lane l).keep.hstart → b.len ≠ 2 → code = 0x51 ∨ code = 0x52 → b'.rc = 0x00F2) ∧
        (b.startno = (s.lane l).keep.hstart → b.len = 2 → code = 0x51 → ∃ t', exec (.ledgerSend l
          ((vget b.body 0 1).toNat % 65536)) s = .next t' ∧ (t.lane l).ln.ledg = (t'.lane l).ln.ledg) ∧
        (b.startno = (s.lane l).keep.hstart → b.len = 2 → code = 0x52 → ∃ t', exec (.ledgerUpack l
          (vget b.body 0 1)) s = .next t' ∧ (t.lane l).ln.ledg = (t'.lane l).ln.ledg) ∧
        (vget (t.lane l).ln.mstat {} 0).acknew = true ∧
        (accs = [] → (t.lane l).keep.mem = (s.lane l).keep.mem ∧ (t.lane l).ln.host.swflt = (s.lane l).ln.host.swflt) ∧
        (∀ a : MemAccess, accs = [a] → ∀ e, translate (s.img l) a.dom a.va a.write = .error e →
          (t.lane l).ln.host.swflt = true ∧ (t.lane l).ln.host.swfcnt = min 0xFFFF ((s.lane l).ln.host.swfcnt + 1) ∧
          (t.lane l).keep.mem = (s.lane l).keep.mem)))

/-- START_GATE completes: a new tick at the next multiple of 2500, in every island; the waiting writes take effect and
class B is queued. (01_door_cycle_architecture.md, 03_blades_contexts.md, 13_host_port_mailboxes.md; R31 to R34, R36,
R41, R108, R117, R385, R482) -/
def Obligations.AStartGateBeginsATick : Prop :=
  ∀ s : State,
    (s.lines.inReset = true → exec .startGate s = .next s) ∧
    (s.lines.inReset = false → ∃ t, exec .startGate s = .next t ∧
      t.lines.gate.toNat = (s.lines.now.toNat / 2500 + 1) * 2500 % 2 ^ 64 ∧ t.lines.now = t.lines.gate ∧
      t.port.busyWrite = false ∧ t.part = s.part ∧ t.keep.sealRec = s.keep.sealRec ∧ t.keep.slot0 = s.keep.slot0 ∧
      t.keep.slot1 = s.keep.slot1 ∧ t.keep.inLast = s.keep.inLast ∧
      ∀ l : LaneId, (s.lane l).ln.on = true → (t.lane l).ln.on = true →
        (t.lane l).ln.applied = (s.lane l).ln.writes ∧
        (t.lane l).ln.writes = [] ∧ (∀ n : Fin 24, ((t.lane l).axis n).work = none) ∧
        (∀ d : Fin 12, ((t.lane l).dway d).work = none) ∧ (t.lane l).ln.slalomWork = none ∧
        (∀ k ∈ (t.lane l).ln.sched.tasks, k.cls = .c → k.arrived?.isSome = true) ∧
        ((t.lane l).running = true → (s.lane l).ln.pwr.layover = false → (t.lane l).ln.pwr.layover = false →
          ∀ r ∈ (t.lane l).img.ctxs, clsOf r.typ = .b → bitOf r.flags 1 = false → r.ctx < 256 →
            ∃ k ∈ (t.lane l).ln.sched.tasks, k.ctx = r.ctx) ∧
        (∀ i : Fin 16, let v := vget (t.lane l).ln.islands {} i
          v.tick = t.lines.gate.toNat / 2500 % 2 ^ 32 ∧ v.own = false ∧
          (t.lines.gate + BitVec.ofNat 64 (Config.deliveryDelay i)).toNat ≤ v.copy.toNat ∧
          (vget (s.lane l).ln.islands {} i).copy.toNat ≤ v.copy.toNat))

/-- BLADE_FREE completes: a free Blade runs the head task of the highest class of its own pod, else steals; one fabric
cycle has one thief. (03_blades_contexts.md; R98, R107, R109, R110, R111, R112, R462; Config.scratchByte is free) -/
def Obligations.AFreeBladeTakesTheHighestClass : Prop :=
  ∀ (l : LaneId) (p b : Fin 8) (mig : Option PageFault) (cyc : Nat) (s : State),
    let x := s.lane l
    let q := x.ln.sched
    let rank : Cls → Nat := fun k => clsOrder.idxOf k
    let own := q.tasks.filter fun k => k.home == p.val && k.pos == .waiting
    let waits := fun (r : Nat) (cl : Cls) => q.tasks.filter fun k => k.home == r && k.cls == cl && k.pos == .waiting
    let may := fun k : Task => k.home ≠ p.val ∧ k.home < 8 ∧ (waits k.home k.cls).getLast? = some k ∧
      (x.img.ctx k.ctx).any (fun r => bitOf r.flags 0) = true ∧ (p.val, b.val) ∉ k.noThief
    let better := fun k u : Task => rank k.cls < rank u.cls ∨ (k.cls = u.cls ∧
      ((waits u.home u.cls).length < (waits k.home k.cls).length ∨
        ((waits u.home u.cls).length = (waits k.home k.cls).length ∧ k.home ≤ u.home)))
    let free := q.busy p b = false ∧ x.bladeUp p b = true ∧ (q.cyc ≠ some cyc ∨ q.thefts = [])
    let runs := fun (t : State) (k : Task) (stolen : Bool) =>
      (t.lane l).ln.sched.tasks = (q.tasks.map fun u => if u = k then
        { u with pos := .running p b, stolen := stolen, started := some (u.started.getD s.tick) } else u) ∧
      (t.lane l).ln.sched.steals = (if stolen then min 0x3FF (q.steals + 1) else q.steals) ∧
      (t.lane l).ln = { x.ln with sched := { q with
        tasks := (t.lane l).ln.sched.tasks, steals := (t.lane l).ln.sched.steals,
        cyc := (t.lane l).ln.sched.cyc, thefts := (t.lane l).ln.sched.thefts } } ∧
      (t.lane l).st = x.st ∧ (t.lane l).mr = x.mr ∧
      (t.lane l).keep = { x.keep with scratch := (t.lane l).keep.scratch } ∧
      (∀ a : Nat, (a < 0x4000 * (8 * p + b) ∨ 0x4000 * (8 * p + b + 1) ≤ a) →
        Memory.get (t.lane l).keep.scratch a = Memory.get x.keep.scratch a) ∧ onlyLane l s t
    (q.busy p b = true ∨ (x.bladeUp p b = false ∧ x.quarTask p b = none) → exec (.bladeFree l p b mig cyc) s = .next s) ∧
    (∀ k ∈ q.tasks, q.busy p b = false → x.quarTask p b = some k →
      ∃ t, exec (.bladeFree l p b mig cyc) s = .next t ∧ runs t k false) ∧
    (free → own ≠ [] → ∃ t, exec (.bladeFree l p b mig cyc) s = .next t ∧
      ∃ k ∈ own, (∀ u ∈ own, rank k.cls ≤ rank u.cls) ∧ (own.filter fun u => u.cls == k.cls).head? = some k ∧
        runs t k false) ∧
    (free → own = [] → (∀ k ∈ q.tasks, ¬may k) → ∃ t, exec (.bladeFree l p b mig cyc) s = .next t ∧
      (t.lane l).ln = { x.ln with sched := { q with cyc := some cyc, thefts := [] } } ∧ onlyLN l s t) ∧
    (free → own = [] → (∃ k ∈ q.tasks, may k) → mig = none → ∃ t, exec (.bladeFree l p b mig cyc) s = .next t ∧
      ∃ k ∈ q.tasks, may k ∧ (∀ u ∈ q.tasks, may u → better k u) ∧ runs t k true) ∧
    (free → own = [] → (∃ k ∈ q.tasks, may k) → mig ≠ none → ∃ t, exec (.bladeFree l p b mig cyc) s = .next t ∧
      (t.lane l).ln.sched.migflt = min 0xFFFF (q.migflt + 1) ∧ (t.lane l).ln.sched.steals = q.steals ∧
      (t.lane l).ln.sched.busy p b = false ∧
      (∃ k ∈ q.tasks, may k ∧ (∀ u ∈ q.tasks, may u → better k u) ∧
        ∃ k' ∈ (t.lane l).ln.sched.tasks, k'.ctx = k.ctx ∧ k'.pos = .waiting ∧ (p.val, b.val) ∈ k'.noThief) ∧
      onlyLane l s t) ∧
    (∀ k ∈ q.thefts, q.busy p b = false → x.bladeUp p b = true → q.cyc = some cyc →
      (k.1.home = p ∨ 8 * p + b < 8 * k.2.1 + k.2.2) → q.thefts = [k] →
      ∀ u ∈ q.tasks, u.ctx = k.1.ctx → u.pos = .running k.2.1 k.2.2 →
      (x.beforeThefts p b q.thefts).choice p b = some (k.1, k.1.home != p.val) → mig = none → k.1.pos = .waiting →
      (∀ v ∈ q.tasks, v.ctx = k.1.ctx → v = u) →
        ∃ t, exec (.bladeFree l p b mig cyc) s = .next t ∧
          (∃ v ∈ (t.lane l).ln.sched.tasks, v.ctx = k.1.ctx ∧ v.pos = .running p b) ∧
          (∀ v ∈ (t.lane l).ln.sched.tasks, v.ctx = k.1.ctx → v.pos ≠ .running k.2.1 k.2.2) ∧ onlyLane l s t)

/-- TASK_RESULT, G_TASK_WAIT_EXPIRY, C_TASK_DEADLINE and SHED_STEP_LOWER: how a task delivers, pre-empts or misses, and
when the step falls. (03_blades_contexts.md, 12_memory_dma.md; R103, R104, R113, R115, R116, R118, R123, R126, R372;
what a program accesses is the operand accs) -/
def Obligations.TasksDeliverAndShedding : Prop :=
  ∀ (l : LaneId) (ctx : Fin 256) (s : State),
    let x := s.lane l
    let q := x.ln.sched
    let mine := fun (k : Task) (p b : Nat) => k.ctx = ctx.val ∧ k.pos = .running p b
    (∀ (lines : Nat) (accs : List MemAccess), 8 < lines → exec (.taskResult l ctx lines accs) s = .next s) ∧
    (∀ lines : Nat, lines ≤ 8 → ∃ t, exec (.taskResult l ctx lines []) s = .next t ∧
        (∀ k ∈ q.tasks, k.ctx ≠ ctx.val → k ∈ (t.lane l).ln.sched.tasks) ∧
        (∀ p b : Fin 8, ∀ k ∈ q.tasks, mine k p b → k.drop = false →
          { k with pos := .arrived p.val b.val, lines := lines } ∈ (t.lane l).ln.sched.tasks ∧
          (∀ r ∈ x.img.ctxs, x.img.ctx ctx = some r → (∀ u ∈ q.tasks, u.ctx = ctx.val → u = k) →
            (vget (t.lane l).st.ctxrun {} ctx).pod = p ∧ (vget (t.lane l).st.ctxrun {} ctx).blade = b ∧
            (r.typ = 1 → r.index < 24 → ((t.lane l).axis r.index).work = none ∧
              ((x.axis r.index).work.isSome = true → ((t.lane l).axis r.index).acc.isSome = true)) ∧
            (r.typ = 3 → r.index < 12 → ((t.lane l).dway r.index).work = none ∧
              ((x.dway r.index).work.isSome = true → ((t.lane l).dway r.index).acc.isSome = true)) ∧
            (r.typ = 2 → r.index < 24 → r.hyp < 4 → ∀ w ∈ (x.hyp r.index r.hyp).work,
              let whole := 16 ≤ w.stages.length ∨ w.fault.isSome = true
              let y := (t.lane l).hyp r.index r.hyp
              y.work = none ∧ y.stageDue = false ∧ y.done = (x.hyp r.index r.hyp).done ∧
              (whole → y.build = none ∧ y.full = some w) ∧ (¬whole → y.build = some w)))) ∧
        (∀ k ∈ (t.lane l).ln.sched.tasks, ∀ p b : Fin 8, ¬mine k p b) ∧ onlyLane l s t) ∧
    (∀ (lines : Nat) (accs : List MemAccess), lines ≤ 8 → ∀ r ∈ x.img.ctxs, x.img.ctx ctx = some r →
      (s.accesses l (.context r.dom) accs).2.isSome = true → ∀ p b : Fin 8, ∀ k ∈ q.tasks, mine k p b → k.cls ≠ .s →
      (∀ u ∈ q.tasks, u.ctx = ctx.val → u = k) →
        ∃ t, exec (.taskResult l ctx lines accs) s = .next t ∧
          (∀ u ∈ (t.lane l).ln.sched.tasks, u.ctx = ctx.val → u.pos = .stopped) ∧
          (r.typ = 1 → r.index < 24 → ((t.lane l).axis r.index).work = none ∧
            ((t.lane l).axis r.index).acc = (x.axis r.index).acc)) ∧
    ((∀ k ∈ q.tasks, ¬(k.ctx = ctx.val ∧ k.cls = .g ∧ k.pos = .waiting)) ∨ x.noneFree = false ∨
        x.victim .g [.s, .l, .p] = none → exec (.gTaskWaitExpiry l ctx) s = .next s) ∧
    (∀ k ∈ q.tasks, k.ctx = ctx.val → k.cls = .g → k.pos = .waiting → x.noneFree = true →
      ∀ v ∈ q.tasks, ∀ p b : Fin 8, x.victim .g [.s, .l, .p] = some (v, p.val, b.val) →
        ∃ t, exec (.gTaskWaitExpiry l ctx) s = .next t ∧
          (v.cls = .s ∨ v.cls = .l ∨ v.cls = .p) ∧ v.pos = .running p.val b.val ∧
          (t.lane l).ln.sched.preempts = min 0x3FF (q.preempts + 1) ∧
          (∃ v' ∈ (t.lane l).ln.sched.tasks, v'.ctx = v.ctx ∧ v'.preempted = true ∧ v'.pos = .waiting) ∧
          (∃ u ∈ (t.lane l).ln.sched.tasks, u.cls = .g ∧ u.pos = .running p.val b.val) ∧ onlyLane l s t) ∧
    (let late := q.tasks.any fun k => k.ctx == ctx.val && k.cls == .c && (Task.arrived? k).isNone
     ∃ t, exec (.cTaskDeadline l ctx) s = .next t ∧
      (late = false → t = s) ∧
      (late = true → (∀ k ∈ (t.lane l).ln.sched.tasks, k.ctx = ctx.val → (Task.arrived? k).isSome = true) ∧
        (∀ k ∈ q.tasks, k.ctx ≠ ctx.val → k ∈ (t.lane l).ln.sched.tasks)) ∧
      (∀ r : CtxRec, r ∈ x.img.ctxs → late = true → x.img.ctx ctx = some r → r.typ = 6 →
        (r.index < 4 → ((t.lane l).ring r.index).built = none) ∧
        (∀ a ∈ x.img.axisRecs, a.ring = r.index → a.axis < 24 → ((t.lane l).axis a.axis).cmd.hold = true ∧
          (t.lane l).ln.sched.slackLast = 0 ∧ (t.lane l).ln.mod.dlmiss = true))) ∧
    (let due := s.owns l = true ∧ 400 ≤ q.calm ∧ q.nextStep = q.step ∧ x.mr.shfloor < q.step
     ∃ t, exec (.shedStepLower l) s = .next t ∧
      (¬due → t = s) ∧
      (due → (t.lane l).ln.sched = { q with nextStep := q.step - 1, calm := 0 } ∧
        (t.lane l).ln = { x.ln with sched := (t.lane l).ln.sched } ∧ onlyLN l s t))

/-- MERGE_CUTOFF: the timebase has reached 18 µs; arrived results are accepted; an axis with none of this tick repeats its
command with HOLD. (01_door_cycle_architecture.md, 03_blades_contexts.md; R35, R38, R39, R118, R120, R123, R323, R324) -/
def Obligations.TheCutOffMergesAndCountsMisses : Prop :=
  ∀ (l : LaneId) (m : MergeMeas) (s : State),
    (s.lines.inReset = true → exec (.mergeCutoff l m) s = .next s) ∧
    (s.lines.inReset = false →
      let x := s.lane l
      let at' := s.lines.gate + 1800
      ∃ t, exec (.mergeCutoff l m) s = .next t ∧
        t.lines.now = (if s.lines.now.toNat < at'.toNat then at' else s.lines.now) ∧ t.lines.gate = s.lines.gate ∧
        (t.lane l).ln.sched.window = (x.ln.sched.window && !x.ln.on) ∧
        (x.ln.sched.window = false ∨ x.ln.on = false →
            { t.modLN l (fun y => { y with islands := x.ln.islands }) with lines := s.lines } = s) ∧
        (x.ln.sched.window = true → x.ln.on = true → x.running = true → x.ln.pwr.layover = false → s.owns l = true →
          (t.lane l).ln.red.epochOut.map (fun e => (e.hdr.tick, e.hdr.first, e.writes)) =
            some (s.tick, x.ln.red.firstEp, x.ln.applied)) ∧
        (x.ln.sched.window = true → x.ln.on = true → x.running = true → x.ln.pwr.layover = false → s.linked l = false →
          ∀ r ∈ x.img.ctxs, r.typ = 1 → r.ctx < 256 → r.index < 24 → x.hasAxis r.index = true →
            (∀ r' ∈ x.img.ctxs, r'.ctx = r.ctx ∨ (r'.typ = 1 ∧ r'.index = r.index) → r' = r) →
            let here := x.resultHere s.tick r = true
            let now := here ∧ ∃ k ∈ x.ln.sched.tasks, k.ctx = r.ctx ∧ k.ripe s.tick = true ∧ k.fromTick = s.tick
            (here → ((t.lane l).axis r.index).acc = none ∧
              ((x.axis r.index).acc.all fun w => decide (((t.lane l).axis r.index).cur.hall.track = w.hall.track)) = true ∧
              (∀ k ∈ (t.lane l).ln.sched.tasks, ¬(k.ctx = r.ctx ∧ k.ripe s.tick = true)) ∧
              ∀ w ∈ (x.axis r.index).acc, ∀ k ∈ (w.out.ordered <|> w.out.judged),
                ((t.lane l).axis r.index).cmd.seq = k.1.seq ∧ ((t.lane l).axis r.index).cmd.rc = k.2) ∧
            (now → ((t.lane l).axis r.index).cmd.hold = false) ∧
            (¬now → ((t.lane l).axis r.index).cmd.hold = true ∧ (t.lane l).ln.mod.dlmiss = true ∧
              min 0xFFFF (x.ln.mod.misscnt + 1) ≤ (t.lane l).ln.mod.misscnt)))

/-- START_GATE_LOSS and HANDSHAKE_TIMEOUT: GATELOSS is set, and a second miss in a row or a handshake timeout queues a
check of the relay point. (01_door_cycle_architecture.md, 16_health_selftest.md; R30, R34, R458, R459, Config.relayOf
is free) -/
def Obligations.MissedGatesAndTimeoutsAskForAPatrolCheck : Prop :=
  ∀ (l : LaneId) (s : State),
    let h := (s.lane l).ln.hlth
    let asked := fun (t : State) (u : Word) =>
      (u ∈ (t.lane l).ln.hlth.queue ∨ ∃ k ∈ (t.lane l).ln.hlth.cur, k.2 = u) ∧ (t.lane l).ln.hlth.lasterr = u
    (∀ i : Fin 64, h.queue.length < 64 → ∃ t, exec (.handshakeTimeout l i) s = .next t ∧ asked t (relayUnit i) ∧
      (∀ u ∈ h.queue, u ∈ (t.lane l).ln.hlth.queue) ∧
      (t.lane l).ln = { (s.lane l).ln with hlth := (t.lane l).ln.hlth } ∧ onlyLN l s t) ∧
    (∀ i : Fin 16, h.queue.length < 64 →
      let seen := vget (s.lane l).ln.mod.gateMiss none i
      ∃ t, exec (.startGateLoss l i) s = .next t ∧
        (seen = some s.tick → t = s) ∧
        (seen ≠ some s.tick → (t.lane l).ln.mod.gateloss = true ∧
          vget (t.lane l).ln.mod.gateMiss none i = some s.tick ∧
          (t.lane l).ln.mod = { (s.lane l).ln.mod with gateloss := true, gateMiss := (t.lane l).ln.mod.gateMiss } ∧
          (seen.any (fun k => ticksSince s.tick k == 1) = true → ∃ j : Fin 64, asked t (relayUnit j)) ∧
          (seen.any (fun k => ticksSince s.tick k == 1) = false → (t.lane l).ln.hlth = h) ∧
          (∀ j : Fin 16, j ≠ i → vget (t.lane l).ln.islands {} j = vget (s.lane l).ln.islands {} j) ∧
          (let v := vget (t.lane l).ln.islands {} i
           v.own = true ∧ v.tick = v.copy.toNat / 2500 % 2 ^ 32 ∧
           (vget (s.lane l).ln.islands {} i).copy.toNat ≤ v.copy.toNat) ∧
          (t.lane l).ln = { (s.lane l).ln with
            mod := (t.lane l).ln.mod, hlth := (t.lane l).ln.hlth, islands := (t.lane l).ln.islands } ∧ onlyLN l s t))

/-- MOVE, STOP, QSTOP, HOME: the ten checks in order, the return code in AXIS_CMDST, and that a rejected command changes
nothing else. (R151) -/
def Obligations.CommandsAreJudgedInOrder : Prop :=
  ∀ (l : LaneId) (n : Fin 24) (s : State),
    let x := (s.lane l).axis n
    let c := (s.lane l).acfg n
    let checks := fun (c : AxisCfg) (a : AxisSt) (host : Bool) (code : Nat) (target : Int) =>
      let snow := a.obs.ostate == .braking || a.obs.ostate == .relief
      let toward := F32.lt (tenth target) a.prof.p == c.closeNeg
      ([(host && !x.cmd.ownhost, 0x01), (decide (5 ≤ code), 0x07), ((code == 1 || code == 4) && snow, 0x09),
        (code == 4 && c.hom.hseq == 0, 0x0A), ((code == 1 || code == 4) && a.hom.runs, 0x04),
        (code == 4 && a.prof.phase != .idle, 0x08),
        ((code == 1 || (code == 4 && c.hom.hseq != 5)) && a.keep.unpowered, 0x05),
        (code == 1 && a.hall.posq != .valid, 0x02), (code == 1 && (decide (target < -200000) ||
            decide (200000 < target)), 0x06),
        (code == 1 && c.hom.lsstop != 0 && (vget a.lim {} (if toward then 1 else 0)).deb, 0x03)] : List (Bool × Nat))
    let rc := fun c a host code target => (((checks c a host code target).find? Prod.fst).map Prod.snd).getD 0
    (∀ (host : Bool) (seq : BitVec 8) (target : Int),
      let tgt := if host then x.cmd.ptgt.toInt else target
      [((if host then Instr.move l n .host seq else Instr.move l n (.sequencer target) seq), 1, tgt),
        (Instr.stop l n host seq, 2, 0), (Instr.qstop l n host seq, 3, 0), (Instr.home l n host seq, 4, 0)].all (fun r =>
        match exec r.1 s with
        | .next t =>
          let x' := (t.lane l).axis n
          let k := rc c x.newest host r.2.1 r.2.2
          decide (x'.cmd = { x.cmd with seq := seq, rc := k }) &&
            (k == 0 || decide (x' = { x with cmd := x'.cmd })) && decide (onlyAxis l n s t)
        | _ => false) = true) ∧
    (∀ (host : Bool) (code : Fin 16) (seq : BitVec 8) (target : Int),
      let q : AxCmd := { code := code, seq := seq, target := if host then none else some target }
      let x₀ : Axis := { x with cmd := { x.cmd with
        hostCmd := if host then some q else none
        seqCmd := if host then none else some q } }
      let s₀ := s.modAxis l n fun _ => x₀
      let before := x.cmd.prevCfg.getD c
      let tgt := if host then x.cmd.ptgt.toInt else target
      (s.lane l).hasAxis n = true → ((s.lane l).slotOf n).up = none →
      ∃ t, exec (.axBaseTask l n) s₀ = .next t ∧ { (t.lane l).axis n with work := x.work } = x₀ ∧ onlyAxis l n s₀ t ∧
        ∀ w ∈ ((t.lane l).axis n).work,
          w.out.judged = (if host = true ∧ code ≠ 0 then some (q, rc before (x.acc.getD x.cur) true code tgt) else none) ∧
          w.out.ordered = if host then none else some (q, rc before (x.acc.getD x.cur) false code tgt))

/-- MOVE, STOP, QSTOP, HOME that are accepted: how the profile begins, goes on or stops, and how a homing sequence begins
or ends. (05_axis_motion.md; R150, R152, R154, R156, R168, R170, R171, R200) -/
def Obligations.AcceptedCommandsMoveStopAndHome : Prop :=
  ∀ (l : LaneId) (n : Fin 24) (seq : BitVec 8) (s : State),
    let a := ((s.lane l).axis n).newest
    let c := (s.lane l).acfg n
    let q := a.prof
    let owns := ((s.lane l).axis n).cmd.ownhost
    let snow := a.obs.ostate = .braking ∨ a.obs.ostate = .relief
    (∀ target : Int, axRc c a owns false 1 target = 0 →
      let tf := tenth target
      let reach := F32.le (dstop q.form q.decUse q.jerkUse q.v q.a) (F32.mul (F32.sub tf q.p) (sgnF q.neg)) = true
      ∃ t, exec (.move l n (.sequencer target) seq) s = .next t ∧
        let q' := ((t.lane l).axis n).newest.prof
        (q.phase = .idle → q'.phase = .accel ∧ q'.motion = .move ∧ q'.p = q.p ∧ q'.v = 0 ∧ q'.a = 0 ∧ q'.ptgt = tf ∧
          q'.neg = F32.lt tf q.p ∧ q'.scurve = c.mot.scurve ∧ q'.form = c.mot.scurve ∧
          q'.accUse = c.mot.acc ∧ q'.decUse = c.mot.dec ∧
          q'.jerkUse = c.mot.jerk ∧ q'.qdecUse = c.mot.qdec ∧ q'.accDefer = false ∧ q'.pdone = q.pdone) ∧
        (q.phase ≠ .idle → reach → q' = { q with
          ptgt := tf
          motion := .move
          again := none
          arrived := false
          cstop := false
          qstop := false
          scurve := q.form
          phase := if q.phase = .cruise then .cruise else .accel }) ∧
        (q.phase = .stopping → ¬reach → q' = { q with again := some target, cstop := false }) ∧
        (q.phase ≠ .idle → q.phase ≠ .stopping → ¬reach → q'.phase = .stopping ∧ q'.again = some target ∧ q'.p = q.p ∧
          q'.v = q.v ∧ q'.a = q.a ∧ q'.stopDec = q.decUse ∧ q'.scurve = q.form) ∧
        ((t.lane l).axis n).newest.hall = a.hall ∧ ((t.lane l).axis n).newest.hom = a.hom ∧ onlyAxis l n s t) ∧
    (∀ quick : Bool, ∃ t, exec (if quick then .qstop l n false seq else .stop l n false seq) s = .next t ∧
      let a' := ((t.lane l).axis n).newest
      let q' := a'.prof
      (¬quick → snow → { a' with out := a.out } = a) ∧
      (a.hom.runs = true → (quick ∨ ¬snow) → a'.hom.st = .fault ∧ a'.hom.hfault = 5 ∧
        a'.hall = { a.hall with posq := a.hom.posq0.least a.hall.posq } ∧ (q.phase ≠ .idle → q'.phase = .stopping)) ∧
      (a.hom.runs = false → ¬snow → q.phase ≠ .idle → q'.phase = .stopping ∧ q'.again = none ∧ q'.p = q.p ∧ q'.v = q.v ∧
        q'.a = q.a ∧ q'.pdone = q.pdone ∧
        (let held := q.phase = .stopping ∧ q.qstop = true
         q'.stopDec = (if quick then q.qdecUse else if held then max q.decUse q.stopDec else q.decUse) ∧
         q'.scurve = (if quick = true ∨ held then false else q.form) ∧ (q'.qstop = true ↔ quick = true ∨ held))) ∧
      (a.hom.runs = false → ¬snow → q.phase = .idle → { q' with cstop := q.cstop, qstop := q.qstop } = q) ∧
      (a.hom.runs = false → a'.hall = a.hall ∧ a'.hom = a.hom) ∧ a'.obs = a.obs ∧ onlyAxis l n s t) ∧
    (axRc c a owns false 4 0 = 0 → ∃ t, exec (.home l n false seq) s = .next t ∧
      let a' := ((t.lane l).axis n).newest
      let ok := a.hall.still = true ∧ (sectorOf c.hall.hmode a.hall.hstate).isSome = true ∧ (vget a.lim {} 2).deb = true
      let back := (c.hom.hseq = 3 ∧ (vget a.lim {} 1).deb = true) ∨ (c.hom.hseq = 4 ∧ (vget a.lim {} 0).deb = true)
      (c.hom.hseq = 5 → ok → a'.hom.st = .done ∧ a'.hom.hdone = true ∧ a'.hall.posq = .valid) ∧
      (c.hom.hseq = 5 → ¬ok → a'.hom.st = .fault ∧ a'.hom.hfault = 8 ∧ a'.prof = a.prof ∧ a'.hall = a.hall) ∧
      (c.hom.hseq ≠ 5 → a'.hom.st = (if back then .backOff else .approach) ∧ a'.hom.hfault = 0 ∧ a'.prof.phase = .accel ∧
        a'.prof.scurve = false ∧ a'.prof.p = q.p ∧ a'.prof.v = 0 ∧ a'.hall = a.hall) ∧ onlyAxis l n s t)

/-- ACC_WRITE and CMP_ARM: when a written acceleration applies or is deferred, and what writing a compare slot changes.
(05_axis_motion.md; R156, R157, R163, R164, R165, R176) -/
def Obligations.AccelerationWritesAndCompareSlots : Prop :=
  ∀ (l : LaneId) (n : Fin 24) (val : Word) (s : State),
    let a := ((s.lane l).axis n).newest
    let w := val.toNat
    (∀ jerkReg : Bool, ∃ t, exec (.accWrite l n jerkReg val) s = .next t ∧
      let m := ((s.lane l).acfg n).mot
      let c := ((t.lane l).acfg n).mot
      let q := a.prof
      let q' := ((t.lane l).axis n).newest.prof
      let use := { q with accUse := c.acc, decUse := c.dec, jerkUse := c.jerk, qdecUse := c.qdec }
      let sel := fun (lo hi new old : Nat) => if lo ≤ new ∧ new ≤ hi then new else old
      c = (if jerkReg then { m with jerk := sel 100 65535 (w % 65536) m.jerk, qdec := sel 500 10000 (w / 65536) m.qdec }
        else { m with acc := sel 50 10000 (w % 65536) m.acc, dec := sel 50 10000 (w / 65536) m.dec }) ∧
      (t.lane l).acfg n = { (s.lane l).acfg n with mot := c } ∧
      let lo := w % 65536
      let hi := w / 65536
      let taken := if jerkReg then 100 ≤ lo ∨ (500 ≤ hi ∧ hi ≤ 10000)
        else (50 ≤ lo ∧ lo ≤ 10000) ∨ (50 ≤ hi ∧ hi ≤ 10000)
      (q.accDefer = true ∨ ¬taken → q' = q) ∧
      (let hold := q.phase = .stopping ∨ a.obs.ostate = .braking ∨ a.obs.ostate = .relief
       let fits := F32.le (dstop q.scurve c.dec c.jerk q.v q.a) (F32.mul (F32.sub q.ptgt q.p) (sgnF q.neg)) = true
       q.accDefer = false → taken → (hold → q' = { q with accDefer := true }) ∧
        (¬hold → q.phase = .decel → fits → q' = { use with phase := .cruise }) ∧
        (¬hold → q.phase = .decel → ¬fits → q' = { q with accDefer := true }) ∧
        (¬hold → q.phase ≠ .decel → q' = use)) ∧
      { ((t.lane l).axis n).newest with prof := q, out := a.out } = a ∧
      onlyAxis l n s (t.modST l fun _ => (s.lane l).st)) ∧
    (∀ k : Fin 4, ∃ t, exec (.cmpArm l n k val) s = .next t ∧
      let z := vget a.cmp {} k
      let z' := vget ((t.lane l).axis n).newest.cmp {} k
      let act := w / 4 % 4
      let arm := w % 2 = 1
      let neg := w / 2 % 2 = 1
      let hit := z.hit && !bitOf w 4
      let late := z.late && !bitOf w 5
      let track := a.hall.track.toInt
      (z.arm = false → act = 3 → z' = z) ∧
      (z.arm = true → arm → z' = { z with hit := hit, late := late }) ∧
      (z.arm = true → ¬arm → z' = { z with hit := hit, late := late, arm := false, behind := none }) ∧
      (z.arm = false → act ≠ 3 → ¬arm → z' = { z with hit := hit, late := late, cdir := decide neg, act := act }) ∧
      (z.arm = false → act ≠ 3 → arm → z' = { z with
        hit := hit, late := late, cdir := decide neg, act := act, arm := true
        behind := some (if neg then decide (track ≤ z.cpos.toInt) else decide (z.cpos.toInt ≤ track)) }) ∧
      (∀ j : Fin 4, j ≠ k → vget ((t.lane l).axis n).newest.cmp {} j = vget a.cmp {} j) ∧
      { ((t.lane l).axis n).newest with cmp := a.cmp, out := a.out } = a ∧ onlyAxis l n s t)

/-- DEBIN_CHANGE, CHAT, HOMING_BACKOFF_LIMIT, HOMING_TIMEOUT, STALL_CONFIRM: when each acts, and the homing faults they
end in. (05_axis_motion.md; R162, R166 to R172) -/
def Obligations.LimitInputsHomingAndStall : Prop :=
  ∀ (l : LaneId) (n : Fin 24) (s : State),
    let a := ((s.lane l).axis n).newest
    let c := (s.lane l).acfg n
    let snow := a.obs.ostate = .braking ∨ a.obs.ostate = .relief
    let same := fun a' : AxisSt => { a' with out := a.out } = a
    let aborted := fun (a' : AxisSt) (k : Nat) => a'.hom.st = .fault ∧ a'.hom.hfault = k ∧
      a'.hall.posq = a.hom.posq0.least a.hall.posq ∧ (a.prof.phase ≠ .idle → a'.prof.phase = .stopping)
    (∀ i : Fin 4,
      let z := vget a.lim {} i
      (∃ t, exec (.debinChange l n i) s = .next t ∧
        let a' := ((t.lane l).axis n).newest
        let due := z.sampled = true ∧ z.raw ≠ z.deb ∧ 80 ≤ z.run
        (¬due → same a') ∧ (due → vget a'.lim {} i = { z with deb := z.raw, tripped := true }) ∧
        (due → c.hom.lsstop = 0 → { a' with lim := a.lim, out := a.out } = a) ∧
        (∀ j : Fin 4, j ≠ i → vget a'.lim {} j = vget a.lim {} j) ∧ a'.hall = a.hall ∧ a'.hom = a.hom ∧ onlyAxis l n s t) ∧
      (∃ t, exec (.chat l n i) s = .next t ∧
        let a' := ((t.lane l).axis n).newest
        let due := z.edges.head? = some a.frames ∧ 8 < z.edges.length
        (¬due → same a') ∧ (due → vget a'.lim {} i = { z with chat := true, chatted := true }) ∧
        (due → a.hom.runs = true → i.val < 2 → aborted a' 2) ∧
        (due → ¬(a.hom.runs = true ∧ i.val < 2) → { a' with lim := a.lim, out := a.out } = a) ∧ onlyAxis l n s t)) ∧
    (∃ t, exec (.homingBackoffLimit l n) s = .next t ∧
      let a' := ((t.lane l).axis n).newest
      let due := a.hom.st = .backOff ∧ a.prof.motion = .homeRun ∧
        c.hom.hback * c.hall.cpmm < (a.hall.track.toInt - a.hom.backFrom).natAbs * 100
      (¬due → same a') ∧ (due → aborted a' 7) ∧ a'.obs = a.obs ∧ onlyAxis l n s t) ∧
    (∃ t, exec (.homingTimeout l n) s = .next t ∧
      let a' := ((t.lane l).axis n).newest
      let due := (a.hom.st = .backOff ∨ a.hom.st = .approach) ∧ c.hom.htmo * 40000 < a.hom.ticks
      (¬due → same a') ∧ (due → aborted a' 3) ∧ a'.obs = a.obs ∧ onlyAxis l n s t) ∧
    (∃ t, exec (.stallConfirm l n) s = .next t ∧
      let a' := ((t.lane l).axis n).newest
      let due := ¬(c.stepper = true ∧ c.hall.hmode = 2) ∧ 0 < c.mot.nstall ∧ c.mot.nstall ≤ a.amp.stallRun ∧
        a.amp.stallDone = false
      let stop := a.hom.seq = 1 ∨ a.hom.seq = 2
      (¬due → same a') ∧ (due → a'.amp = { a.amp with stall := true, stallNow := true, stallDone := true } ∨
        (a.hom.runs = true ∧ stop ∧ a'.amp.stall = true ∧ a'.amp.stallDone = true)) ∧
      (due → a.hom.runs = true → ¬stop → aborted a' 9) ∧
      (due → a.hom.runs = true → stop → a'.hom.st = .done ∧ a'.hom.hdone = true ∧ a'.hall.posq = .valid ∧
        a'.prof.phase = .idle ∧ a'.prof.v = 0) ∧
      (due → a.hom.runs = false → snow ∨ a.prof.phase = .idle ∨ a.prof.neg = c.obs.clneg → a'.prof = a.prof) ∧
      (due → a.hom.runs = false → ¬snow → a.prof.phase ≠ .idle → a.prof.neg ≠ c.obs.clneg →
        a'.prof.phase = .stopping ∧ a'.prof.cstop = true) ∧
      a'.obs = a.obs ∧ onlyLane l s t)

/-- HFLT, SPEED_TIMEOUT, BRICK_POWER_LOSS, BRICK_POWER_RETURN: what each does to the position's quality, the speed and a
motion. (04_hall_tracking.md, 05_axis_motion.md; R131, R138, R144, R150, R171, R173, R174, R208) -/
def Obligations.HallFaultStandstillAndPower : Prop :=
  ∀ (l : LaneId) (n : Fin 24) (s : State),
    let a := ((s.lane l).axis n).newest
    let c := (s.lane l).acfg n
    let snow := a.obs.ostate = .braking ∨ a.obs.ostate = .relief
    let same := fun a' : AxisSt => { a' with out := a.out } = a
    let latch := s.lines.gate - 2500
    (∃ t, exec (.hflt l n) s = .next t ∧
      let a' := ((t.lane l).axis n).newest
      let due := c.hall.hmode = 0 ∧ 0 < a.edge.invRun ∧ c.hall.invmax ≤ a.edge.invRun
      let kept := a.keep.unpowered = true ∧ a.keep.lost = some true
      let q := if a.hall.posq = .valid ∧ ¬kept then PosQ.suspect else a.hall.posq
      (¬due → same a') ∧ (due → a'.hall = { a.hall with hflt := true, posq := a'.hall.posq }) ∧
      (due → a.hom.runs = true → a'.hom.st = .fault ∧ a'.hom.hfault = 4 ∧ a'.hall.posq = a.hom.posq0.least q) ∧
      (due → a.hom.runs = false → a'.hom = a.hom ∧ a'.hall.posq = q ∧
        (if snow ∨ a.prof.phase = .idle then a'.prof = a.prof
          else a'.prof.phase = .stopping ∧ a'.prof.cstop = true)) ∧ a'.obs = a.obs ∧ onlyAxis l n s t) ∧
    (∃ t, exec (.speedTimeout l n) s = .next t ∧
      let a' := ((t.lane l).axis n).newest
      let late := fun b : AxisSt => b.hall.still = false ∧
        (b.edge.tEdge.any fun te => decide (te.toNat + c.hall.spdto * 100000 < latch.toNat)) = true
      let due := late a ∧ (a.edge.tickAt = some latch ∨ late (a.hallTake c.hall ((s.lane l).slotOf n).up false true))
      (¬due → same a') ∧ (due → same { a' with hall := a.hall } ∧
        a'.hall = { a.hall with still := true, spd := 0, v4 := 0 }) ∧ onlyAxis l n s t) ∧
    (∃ t, exec (.brickPowerLoss l n) s = .next t ∧
      let a' := ((t.lane l).axis n).newest
      (a.keep.unpowered = true → same a') ∧
      (a.keep.unpowered = false → a'.keep = { a.keep with unpowered := true, lost := some (a.hall.still && c.mot.keep) } ∧
        (a.hom.runs = true → a'.hom.st = .fault ∧ a'.hom.hfault = 6) ∧ (a.hom.runs = false → a'.hom = a.hom) ∧
        (snow → a'.obs = { a.obs with ostate := .held, commitDue := none } ∧ a'.prof.phase = .idle ∧ a'.prof.v = 0 ∧
          a'.prof.p = mmOfPi c.hall.cpmm a.edge.pi) ∧
        (¬snow → a'.obs = a.obs ∧ (a.hom.runs = false → a'.prof = a.prof))) ∧
      a'.hall.track = a.hall.track ∧ a'.hall.sector = a.hall.sector ∧ onlyLane l s t) ∧
    (∀ h : Fin 8, ∃ t, exec (.brickPowerReturn l n h) s = .next t ∧
      let a' := ((t.lane l).axis n).newest
      let sec := sectorOf c.hall.hmode h
      let kept := a.keep.lost = some true
      let d := match sec, a.hall.sector with
        | some new, some last => let m := if c.hall.hmode = 1 then 4 else 6; some ((new + m - last) % m)
        | _, _ => none
      let one := d = some 1 ∨ d = some (if c.hall.hmode = 1 then 3 else 5)
      (a.keep.unpowered = false → same a') ∧
      (a.keep.unpowered = true → a'.keep.unpowered = false ∧ a'.keep.lost = none ∧ a'.prof = a.prof ∧ a'.hom = a.hom ∧
        (kept → c.hall.hmode = 2 ∨ d = some 0 → a'.keep.kres = 1 ∧ a'.hall = a.hall) ∧
        (kept → c.hall.hmode ≠ 2 → one → a'.keep.kres = 2 ∧ a'.hall.posq = a.hall.posq ∧ a'.hall.sector = sec ∧
          (a'.hall.track = a.hall.track + 1 ∨ a'.hall.track = a.hall.track - 1)) ∧
        (kept → c.hall.hmode ≠ 2 → d ≠ some 0 → ¬one → a'.keep.kres = 3 ∧ a'.hall.track = a.hall.track ∧
          a'.hall.posq = (if a.hall.posq = .valid then .suspect else a.hall.posq)) ∧
        (¬kept → a'.keep.kres = 4 ∧ a'.hall.posq = .invalid ∧ a'.edge.f = 128 ∧ a'.hall.track = a.hall.track)) ∧
      onlyLane l s t)

/-- PRE_ARM, PREARM_WITHDRAW, OBSTACLE_COMMIT, SNOWPLOUGH_BRAKE_END and SNOWPLOUGH_RELIEF_END: the course of an obstacle
on one axis. (06_obstacle_schuss.md; R185, R192, R195, R198 to R201) -/
def Obligations.ObstaclesArePreArmedCommittedAndReversed : Prop :=
  ∀ (l : LaneId) (n : Fin 24) (s : State),
    let a := ((s.lane l).axis n).newest
    let c := (s.lane l).acfg n
    let same := fun a' : AxisSt => { a' with out := a.out } = a
    (∃ t, exec (.preArm l n) s = .next t ∧
      let a' := ((t.lane l).axis n).newest
      let due := a.obs.ostate = .exceeding ∧ c.obs.npre ≤ a.obs.run
      (¬due → same a') ∧
      (due → a'.obs.ostate = .preArmed ∧ a'.obs.emax = a.obs.e ∧ a'.prof = a.prof ∧ a'.hall = a.hall ∧
        (∀ h : Fin 4, vget a'.res 1 h = 0 ∧ vget a'.fit false h = ((s.lane l).hyp n h).hq)) ∧ onlyLN l s t) ∧
    (∃ t, exec (.prearmWithdraw l n) s = .next t ∧
      let a' := ((t.lane l).axis n).newest
      let due := a.obs.ostate = .preArmed ∧ c.obs.nclr ≤ a.obs.clr
      (¬due → same a') ∧
      (due → a'.obs.ostate = .watching ∧ a'.obs.run = 0 ∧ a'.obs.flags.prewd = true ∧ a'.prof = a.prof ∧ a'.hall = a.hall ∧
        (∀ h : Fin 4, vget a'.fit true h = false)) ∧ onlyLN l s t) ∧
    (∃ t, exec (.obstacleCommit l n) s = .next t ∧
      let a' := ((t.lane l).axis n).newest
      let acts := a.prof.phase ≠ .idle ∧ a.hom.runs = false ∧ a.obs.ostate ≠ .braking ∧ a.obs.ostate ≠ .relief ∧
        a.obs.ostate ≠ .held ∧ a.prof.neg = c.obs.clneg
      let due := a.obs.commitDue.isSome = true ∨ ((s.lane l).partnerDue n = true ∧ acts)
      let q := a'.prof
      (¬due → same a') ∧
      (due → a'.obs.ostate = .braking ∧ a'.obs.commitDue = none ∧ a'.obs.flags.obst = true ∧
        a'.obs.flags.obstcnt = min 0xFFFF (a.obs.flags.obstcnt + 1) ∧ a'.obs.spNeg = a.prof.neg ∧
        q.phase = .stopping ∧ q.motion = .brake ∧ q.scurve = false ∧ q.again = none ∧ q.stopDec = a'.obs.spdec ∧
        q.p = mmOfPi c.hall.cpmm a.edge.pi ∧ q.v = tenth (max 0 ((if a.prof.neg then -1 else 1) * a.hall.v4)) ∧ q.a = 0 ∧
        q.ptgt = F32.add q.p (F32.mul (sgnF a.prof.neg) (dstopTrap a'.obs.spdec q.v)) ∧
        a'.hall = a.hall ∧ a'.hom = a.hom)) ∧
    (∃ t, exec (.snowploughBrakeEnd l n) s = .next t ∧
      let a' := ((t.lane l).axis n).newest
      let due := a.obs.ostate = .braking ∧ a.prof.phase = .idle
      let q := a'.prof
      (¬due → same a') ∧
      (due → a.obs.reld = 0 → a'.obs = { a.obs with ostate := .held } ∧ q = a.prof) ∧
      (due → a.obs.reld ≠ 0 → a'.obs = { a.obs with ostate := .relief } ∧ q.phase = .accel ∧ q.motion = .relief ∧
        q.neg = !a.obs.spNeg ∧ q.p = a.prof.p ∧ q.v = 0 ∧ q.a = 0 ∧ q.scurve = false ∧ q.accUse = a.obs.spdec ∧
        q.decUse = a.obs.spdec ∧ q.ptgt = F32.add a.prof.p (F32.mul (sgnF (!a.obs.spNeg)) (tenth a.obs.reld))) ∧
      a'.hall = a.hall ∧ onlyAxis l n s t) ∧
    (∃ t, exec (.snowploughReliefEnd l n) s = .next t ∧
      let a' := ((t.lane l).axis n).newest
      let due := a.obs.ostate = .relief ∧ a.prof.phase = .idle
      (¬due → same a') ∧ (due → { a' with obs := a.obs, out := a.out } = a ∧ a'.obs = { a.obs with ostate := .held }) ∧
      onlyAxis l n s t)

/-- SCHUSS_STAGE and PASS_AGE_EXPIRY: a stage extends only the pass that waits for it, a fault is held back, and a pass
too old is not ready. (06_obstacle_schuss.md; R190 to R194, R196) -/
def Obligations.SchussStagesAndTheirAge : Prop :=
  ∀ (l : LaneId) (n : Fin 24) (h : Fin 4) (s : State),
    let y := (s.lane l).hyp n h
    let c := (s.lane l).acfg n
    (∀ flt : Option PageFault, ∃ t, exec (.schussStage l n h flt) s = .next t ∧
      let y' := (t.lane l).hyp n h
      let due := y.stageDue = true ∧ (y.build.any fun p => decide (p.stages.length < 16) && p.fault.isNone) = true
      (¬due → t = s) ∧
      (due → y' = { y with work := y'.work } ∧ y'.work.isSome = true ∧
        (∀ p ∈ y.build, ∀ p' ∈ y'.work,
          (flt = none → p'.stages.length = p.stages.length + 1 ∧ p'.stages.take p.stages.length = p.stages ∧
            p'.anchor = p.anchor ∧ p'.drag = p.drag ∧ p'.fault = none ∧
            let q := stageRun c ((s.lane l).axis n).cur.obs.flags.edgeflt p.stagel p
            p'.x = q.x ∧ p'.v = q.v ∧ p'.fc = q.fc ∧ (p'.stages.getLast?.map StageRec.x) = some q.x) ∧
          (flt ≠ none → p' = { p with fault := flt }))) ∧ onlyHyp l n h s t) ∧
    (∃ t, exec (.passAgeExpiry l n h) s = .next t ∧
      let ok := y.hq = true ∧ (y.done.any fun p => decide (ticksSince s.tick p.anchor ≤ c.snow.passmax)) = true
      ((t.lane l).hyp n h) = { y with hrdy := y.hrdy && decide ok } ∧ onlyHyp l n h s t)

/-- DRAG_LEARN, DRAG_MAP_SEED and DRAG_MAP_WRITE: how the drag map changes, and when it may be written.
(06_obstacle_schuss.md; R183, R184, R208; log entry 6: the layout of MOTION is a free value) -/
def Obligations.TheDragMapIsLearntSeededAndWritten : Prop :=
  ∀ (l : LaneId) (n : Fin 24) (s : State),
    let a := ((s.lane l).axis n).cur
    let c := (s.lane l).acfg n
    let free := a.prof.phase = .idle ∧ (a.obs.ostate = .watching ∨ a.obs.ostate = .notEval) ∧ a.learn.apply = false
    (∃ t, exec (.dragLearn l n) s = .next t ∧
      let m := ((t.lane l).acfg n).dmap
      (a.learn.apply = false → t = s) ∧
      (a.learn.apply = true → ((t.lane l).axis n).cur = { a with learn := { a.learn with apply := false, due := [] } } ∧
        (∀ x ∈ a.learn.due, x.cell < 64 → (a.learn.due.filter fun z => z.cell == x.cell && z.closing == x.closing) = [x] →
          let d := vget c.dmap {} x.cell
          let old := if x.closing then d.drc else d.dro
          let d' := vget m {} x.cell
          let new := if x.closing then d'.drc else d'.dro
          let step := roundAway (x.sum - (old : Int) * x.n) ((x.n * 2 ^ c.snow.lrate : Nat) : Int)
          (x.n < 8 → new = old) ∧
          (8 ≤ x.n → (new : Int) =
            max 0 (min (c.snow.dragmax : Int) (old + max (-(c.snow.dstep : Int)) (min c.snow.dstep step))))) ∧
        (t.lane l).acfg n = { c with dmap := m } ∧ (t.lane l).ln.red.learned = (s.lane l).ln.red.learned ++ [n.val] ∧
        onlyAxis l n s ((t.modST l fun _ => (s.lane l).st).modRed l fun z => { z with learned := (s.lane l).ln.red.learned }))) ∧
    (∃ t, exec (.dragMapSeed l n) s = .next t ∧
      (¬((s.lane l).hasAxis n = true ∧ free) → t = s) ∧
      ((s.lane l).hasAxis n = true → free → (t.lane l).acfg n = { c with dmap := ((t.lane l).acfg n).dmap } ∧
        (∀ i : Fin 64, vget ((t.lane l).acfg n).dmap {} i =
          { drc := (Config.motionField ((s.lane l).img.sec 0x0B) n (100 + 2 * i.val)).toNat
            dro := (Config.motionField ((s.lane l).img.sec 0x0B) n (101 + 2 * i.val)).toNat })) ∧ onlyST l s t) ∧
    (∀ (i : Fin 64) (val : Word), ∃ t, exec (.dragMapWrite l n i val) s = .next t ∧
      let lo := val.toNat % 65536
      let hi := val.toNat / 65536
      let ok := free ∧ lo ≤ c.snow.dragmax ∧ hi ≤ c.snow.dragmax
      (¬ok → t = s) ∧
      (ok → vget ((t.lane l).acfg n).dmap {} i = { drc := lo, dro := hi } ∧
        (∀ j : Fin 64, j ≠ i → vget ((t.lane l).acfg n).dmap {} j = vget c.dmap {} j) ∧
        (t.lane l).acfg n = { c with dmap := ((t.lane l).acfg n).dmap } ∧ onlyST l s t))

/-- AX_BASE_TASK: one task computes a new block from the accepted one, takes the waiting commands, and its outputs obey
the rules of the tick. (05_axis_motion.md, 04_hall_tracking.md, 06_obstacle_schuss.md; R113, R135, R142 to R145, R155,
R158 to R161, R176, R178, R181, R182) -/
def Obligations.AxBaseComputesOneBlock : Prop :=
  ∀ (l : LaneId) (n : Fin 24) (s : State),
    let x := (s.lane l).axis n
    let c := (s.lane l).acfg n
    ((s.lane l).hasAxis n = false → exec (.axBaseTask l n) s = .next s) ∧
    ((s.lane l).hasAxis n = true → ∃ t, exec (.axBaseTask l n) s = .next t ∧
      let x' := (t.lane l).axis n
      let w := x'.newest
      let blind := c.stepper = true ∧ c.hall.hmode = 2
      let b := x.acc.getD x.cur
      x'.work.isSome = true ∧ { x' with work := x.work } = x ∧ w.out.acc = x.cmd.accWrite ∧ onlyAxis l n s t ∧
      (w.prof.phase ≠ .idle → w.amp.pr = prOf c.hall.cpmm w.prof.p) ∧
      w.amp.ferr = w.amp.pr - (if c.stepper then 256 * w.hall.track.toInt else w.edge.pi) ∧
      w.amp.addr < 4096 ∧ w.amp.aceil ≤ c.mot.amax ∧ w.amp.amp ≤ w.amp.aceil ∧
      (c.mot.kforce = 0 → w.hom.runs = false → w.prof.phase ≠ .idle → b.hom.runs = false → x.cmd.hostCmd = none →
        x.cmd.seqCmd = none → w.amp.aceil = c.mot.amax) ∧
      (w.amp.inpos = true → w.amp.ferr.natAbs ≤ 256 * c.mot.inposw) ∧
      -32767 ≤ w.obs.fest ∧ w.obs.fest ≤ 32767 ∧ -32767 ≤ w.obs.fexp ∧ w.obs.fexp ≤ 32767 ∧
      -32767 ≤ w.obs.e ∧ w.obs.e ≤ 32767 ∧ w.obs.zone ≤ 2 ∧
      (c.hall.hmode = 0 → w.edge.elpos < 1536) ∧
      (((s.lane l).slotOf n).up = none → ((s.lane l).ring c.ring).due = false → ¬blind → b.hom.runs = false →
        x.cmd.hostCmd = none → x.cmd.seqCmd = none → w.hall.track = b.hall.track))

/-- OPEN, CLOSE, RESUME, SVCIN, SVCOUT, STEPSKIP: the return code of each, and what an accepted one does to the sequencer.
(07_doorways_slalom.md; R150, R211, R213, R215 to R217, R219, R220, R233) -/
def Obligations.DoorwayCommandsAreJudgedByTheirTable : Prop :=
  ∀ (l : LaneId) (d : Fin 12) (seq : BitVec 8) (s : State),
    let x := (s.lane l).dway d
    let v := (s.lane l).doorEnv d s.tick
    let idle := v.axes.all fun y => y.a.prof.phase == .idle
    let homing := v.axes.any fun y => y.a.hom.runs
    let rc := fun (z : DwaySt) (code : Nat) =>
      let st := z.st
      let wrong := match code with
        | 1 => !(st == .locked || st == .warning || st == .closing || st == .locking || st == .stepIn)
        | 2 => !(st == .unlock || st == .stepOut || st == .opening || st == .openSt || (st == .obstr && z.decided))
        | 3 => !(st == .stopped || st == .fault)
        | 4 => !(st == .locked || st == .stopped || st == .fault)
        | 5 => !(st == .service)
        | _ => !(st == .locked)
      let stale := (s.lane l).ln.red.stale && (code == 3 || code == 4)
      ((([(!(s.lane l |>.dcfg d).defd, 4), (decide (7 ≤ code), 3), (wrong || stale, 2), (code == 1 && !v.rel, 1),
        (code == 3 && v.egr, 5), ((code == 4 ||
            code == 5) && !idle, 6), (code == 5 && homing, 6)] : List (Bool × Nat)).find?
          Prod.fst).map Prod.snd).getD 0
    let closed := v.leaves.all fun y => y.din 1 || y.din 2
    let hasStep := (s.lane l |>.dcfg d).stepax.isSome
    let rests := v.step.all fun y => y.a.prof.phase == .idle &&
      (y.a.obs.atPlat || (y.a.prof.arrived && y.a.prof.ptgt == tenth v.c.stepOut))
    let goes := fun y : DoorAx => (y.a.prof.phase ≠ .idle ∨ y.due = true) ∧ y.a.snow = false
    (∀ i : Fin 6,
      let code := i.val + 1
      let k := rc x.newest code
      let z := x.newest
      ∃ t, exec ([Instr.dwayOpen l d seq, .dwayClose l d seq, .dwayResume l d seq, .svcin l d seq, .svcout l d seq,
          .stepskip l d seq].getD i (.dwayOpen l d seq)) s = .next t ∧
        let x' := (t.lane l).dway d
        let z' := x'.newest
        x'.seq = seq ∧ x'.rc = k ∧ onlyDoorAndOrders l d s t ∧
        (k ≠ 0 → { x' with seq := x.seq, rc := x.rc } = x ∧ onlyDway l d s t) ∧
        (k = 0 → code = 1 → z.st = .locked →
          z'.st = (if hasStep && !z.stepskip then .stepOut else .unlock) ∧ z'.lockOn = decide (z'.st = .unlock)) ∧
        (k = 0 → code = 1 → z.st = .warning → z'.times.w = none ∧
          z'.st = if !v.leaves.all (·.din 2) || (z.lockOn && (z.stepskip || rests)) then .opening
            else if hasStep && !z.stepskip then .stepOut else .unlock) ∧
        (k = 0 → code = 1 → z.st = .closing → z'.st = .closing ∧ z'.times.w = none ∧ z'.after = some .opening) ∧
        (k = 0 → (code = 1 ∧ z.st = .closing) ∨ (code = 2 ∧ (z.st = .stepOut ∨ z.st = .opening)) → z.after = none →
          x.work = none → x.acc = none → ∀ y ∈ v.axes, y.n < 24 → goes y →
            (((t.lane l).axis y.n).cmd.seqCmd.any fun q => q.code == 2) = true) ∧
        (k = 0 → code = 1 → z.st = .locking ∨ z.st = .stepIn → z'.heldOpen = true ∧ z'.st = z.st) ∧
        (k = 0 → code = 2 → z.st = .openSt → z'.st = .warning) ∧
        (k = 0 → code = 2 → z.st = .unlock → (closed → z'.st = .locking) ∧ (¬closed → z'.after = some .warning)) ∧
        (k = 0 → code = 2 → z.st = .stepOut ∨ z.st = .opening → z'.after = some .warning ∧ z'.st = z.st) ∧
        (k = 0 → code = 2 → z.st = .obstr → z'.after = some .warning ∧ z'.lastClose = true) ∧
        (k = 0 → code = 3 → z'.st = (if closed then .locking else if v.rel then .openSt else .warning)) ∧
        (k = 0 → code = 4 → z'.st = .service) ∧
        (k = 0 → code = 5 → z'.st = if v.leaves.all (·.din 2) && v.step.all (·.din 2) then .locked else .stopped) ∧
        (k = 0 → code = 4 ∨ code = 5 → ∀ n : Fin 24, n.val ∈ ((s.lane l).dcfg d).axesUp → x.work = none → x.acc = none →
          ((t.lane l).axis n).cmd.ownhost = decide (code = 4)) ∧
        (k = 0 → code = 6 → z'.stepskip = true ∧ z'.st = .locked)) ∧
    (∀ c : Fin 16,
      let s₀ := s.modDway l d fun y => { y with cmd := some (c.val, seq) }
      let z := x.acc.getD x.cur
      ∃ t, exec (.doorSeq l d) s₀ = .next t ∧ onlyDway l d s₀ t ∧
        { (t.lane l).dway d with work := x.work } = (s₀.lane l).dway d ∧
        ∀ w ∈ ((t.lane l).dway d).work, (v.c.defd = false → w.out.answer = some ((c.val, seq), some 4)) ∧
          (c ≠ 0 → z.started = true → (v.egr = true → z.egr = true) → z.egrWait = false →
            w.out.answer = some ((c.val, seq), some (rc z c))))

/-- DOOR_SEQ: the transitions of R211 to R217, each from what the doorway's switches, axes, release and egress read in the
tick. (07_doorways_slalom.md; R211 to R217, R219, R220, R227, R234) -/
def Obligations.TheSequencerMovesThroughItsStates : Prop :=
  ∀ (l : LaneId) (d : Fin 12) (s : State),
    let x := (s.lane l).dway d
    let z := x.acc.getD x.cur
    let v := (s.lane l).doorEnv d s.tick
    let locked := v.leaves.all fun y => y.din 2
    let stowed := v.step.all fun y => y.din 2
    let since := ticksSince v.t z.times.since
    x.cmd = none →
    ∃ t, exec (.doorSeq l d) s = .next t ∧ onlyDway l d s t ∧
      { (t.lane l).dway d with work := x.work } = x ∧
      ∀ w ∈ ((t.lane l).dway d).work,
        let close := !v.rel || (z.st == .openSt && v.c.dwell != 0 && decide (4000 * v.c.dwell ≤ since))
        let press := v.leaves.zipIdx.any fun y => y.1.din 3 && !bitOf z.btn y.2
        let open' := v.rel && ((press && v.c.btnsrc) || (!z.releff && v.c.autoopen))
        let free := v.c.defd = true ∧ z.started = true ∧ (v.egr = true → z.egr = true) ∧ z.egrWait = false ∧ z.after = none
        let late := match z.times.w with
          | some w => ticksSince v.t w
          | none => 0
        let toLocked := w.st = .locked ∧ w.lockOn = false ∧ w.cycle = false ∧ (z.times.w.isSome = true →
          w.flags.lastcl = min 0xFFFFF late ∧ w.flags.clmiss = (z.flags.clmiss || decide (4000 * v.c.cltgt < late)))
        (v.c.defd = false → w = { z with out := {} }) ∧
        (v.c.defd = true → w.started = true ∧ w.releff = v.rel ∧ w.egr = v.egr ∧
          w.nopos = (w.noPosHeld || v.axes.any fun y => y.a.hall.posq != .valid)) ∧
        (v.c.defd = true → z.started = false → v.egr = false → press = false → z.egrWait = false → z.after = none →
          z.heldOpen = false →
          w.st = (if locked && stowed && v.axes.all (fun y => y.a.hall.posq == .valid && !y.dead) then .locked else .stopped) ∧
          (w.st = .stopped → w.nopos = true)) ∧
        (v.c.defd = true → v.egr = true → (z.egr = false ∨ z.started = false) → (∀ y ∈ v.axes, y.a.snow = false) →
          w.st = .stopped ∧ w.flags.egrstop = true ∧ w.egrWait = false ∧
          ∀ y ∈ v.axes, y.a.prof.phase ≠ .idle ∨ y.due = true →
              (w.out.orders.any fun o => o.axis == y.n && o.code == 3) = true) ∧
        (free → z.st = .locked → open' = true → v.leaves ≠ [] → locked → 0 < v.c.lockto →
          w.st = (if v.step.isSome && !z.stepskip then .stepOut else .unlock) ∧ w.flags.reopn = 0 ∧
          w.lockOn = decide (w.st = .unlock)) ∧
        (free → z.st = .locked → open' = false → z.heldOpen = false → w.st = .locked) ∧
        (free → z.st = .openSt → w.st = if close then .warning else .openSt) ∧
        (free → z.st = .openSt → close → w.times.warnLen = 4000 * v.c.warn ∧
          w.times.w = some (z.times.w.getD v.t)) ∧
        (free → close = false → z.st = .unlock → (∀ y ∈ v.leaves, y.din 2 = false) → w.st = .opening) ∧
        (free → close = false → z.st = .unlock → (v.leaves.any fun y => y.din 2) → since < 400 * v.c.lockto →
            w.st = .unlock) ∧
        (free → close = false → z.st = .stepOut → z.moved = true → v.committed z = false → v.arrived z = true →
          w.st = .unlock ∧ w.lockOn = true) ∧
        (free → close = false → z.st = .stepOut → z.moved = true → v.committed z = false → v.arrived z = false →
          locked = false ∨ z.lockOn = true → w.st = .fault ∧ w.flags.stepf = true) ∧
        (free → close = false → z.st = .opening → z.moved = false → z.stepskip = false →
          (v.step.any fun y => y.a.prof.phase != .idle) → w.st = .opening ∧ w.waitg = false) ∧
        (free → close = false → z.st = .opening → z.moved = true → v.committed z = false →
          w.st = if v.arrived z then .openSt else .opening) ∧
        (free → open' = false → z.st = .closing → v.committed z = true → w.st = .obstr) ∧
        (free → open' = false → z.st = .closing → v.committed z = false → (∀ y ∈ v.leaves, y.n ∈ z.second) →
          w.st = if v.arrived z then .locking else .closing) ∧
        (free → open' = false → z.st = .closing → v.committed z = false → v.c.paired = false →
          (∀ g ∈ z.times.grant, 2 ≤ ticksSince v.t g) → ∀ y ∈ v.leaves, y.n ∉ z.second →
            y.a.prof.arrived = true ∨ (y.a.prof.phase = .decel ∧ y.a.prof.vref.natAbs ≤ y.c.obs.vseal) →
            (w.out.orders.any fun o => o.axis == y.n && o.code == 1 && o.target == y.c.obs.closepos) = true) ∧
        (free → z.st = .locking → locked → v.step.isSome = true → w.st = .stepIn ∧ w.lockOn = false) ∧
        (free → z.st = .locking → locked → v.step.isSome = false → toLocked) ∧
        (free → z.st = .stepIn → z.moved = true → v.committed z = false → v.arrived z = true → stowed → toLocked) ∧
        (free → z.st = .obstr → z.decided = false → v.rest z = true →
          (z.flags.reopn < v.c.reopmax → z.lastClose = false → w.st = .reopen ∧ w.flags.reopn = z.flags.reopn + 1) ∧
          (v.c.reopmax ≤ z.flags.reopn ∨ z.lastClose = true →
            w.st = .obstr ∧ w.decided = true ∧ w.flags.obstr = true ∧ w.flags.reopn = z.flags.reopn)) ∧
        (free → z.st = .stepIn → z.moved = true → v.committed z = true → w.st = .reopen ∧ w.stepMove = true ∧
            w.waitg = false) ∧
        (free → z.st = .obstr → z.decided = true → w.st = .obstr) ∧
        (free → z.st = .reopen → z.moved = true → v.rest z = true →
          w.st = .warning ∧ w.times.warnLen = 4000 * v.c.rwarn ∧ (z.times.w.isSome = true → w.times.w = z.times.w)) ∧
        (free → z.st = .stopped ∨ z.st = .fault ∨ z.st = .service → w.st = z.st)

/-- WARNING_END, DWELL_EXPIRY, LOCK_TIMEOUT, LOCK_PULSE_END, STEP_LOCK_TIMEOUT, DISAG: each acts once its time has run,
else not. (07_doorways_slalom.md; R210 to R212, R216, R221, R223, R234, R443) -/
def Obligations.DoorwayTimersActWhenTheyRunOut : Prop :=
  ∀ (l : LaneId) (d : Fin 12) (s : State),
    let x := (s.lane l).dway d
    let z := x.newest
    let v := (s.lane l).doorEnv d s.tick
    let c := (s.lane l).dcfg d
    let locked := v.leaves.all fun y => y.din 2
    let since := ticksSince s.tick z.times.since
    let same := fun z' : DwaySt => { z' with out := z.out } = z
    let attn := fun t : State => (t.lane l).ln.host.attn = (s.lane l).ln.host.attn ||| 0x100
    (∃ t, exec (.warningEnd l d) s = .next t ∧ onlyDoorAndOrders l d s t ∧
      let z' := ((t.lane l).dway d).newest
      let due := z.st = .warning ∧ z.times.warnLen ≤ ticksSince s.tick z.times.w0 + 1
      (¬due → same z') ∧ (due → z.waitg = true → same z') ∧
      (due → z.waitg = false → same { z' with waitg := false, times := z.times } ∧ z'.waitg = true ∧
        z'.times = { z.times with req := s.tick })) ∧
    (∃ t, exec (.dwellExpiry l d) s = .next t ∧ onlyDoorAndOrders l d s t ∧
      let z' := ((t.lane l).dway d).newest
      let due := z.st = .openSt ∧ c.dwell ≠ 0 ∧ 4000 * c.dwell ≤ since
      (¬due → same z') ∧ (due → z'.st = .warning ∧ z'.times.warnLen = 4000 * c.warn ∧ z'.times.w0 = s.tick ∧
        z'.times.w = some (z.times.w.getD s.tick) ∧ z'.flags = z.flags ∧ z'.lockOn = z.lockOn)) ∧
    (∃ t, exec (.lockTimeout l d) s = .next t ∧ onlyDoorAndOrders l d s t ∧
      let z' := ((t.lane l).dway d).newest
      let run := 400 * c.lockto ≤ since
      let unl := z.st = .unlock ∧ run ∧ (v.leaves.any fun y => y.din 2) = true
      let lck := z.st = .locking ∧ z.times.pulse = none ∧ run ∧ locked = false
      (¬unl → ¬lck → same z') ∧
      (lck → z.flags.lockn < c.lockrty → z'.st = .locking ∧ z'.lockOn = true ∧ z'.times.pulse = some s.tick ∧
        z'.flags = { z.flags with lockn := z.flags.lockn + 1 }) ∧
      (unl ∨ (lck ∧ c.lockrty ≤ z.flags.lockn) → z'.st = .fault ∧ z'.lockOn = false ∧ z'.flags.lockf = true ∧
        (x.work = none → x.acc = none → attn t))) ∧
    (∃ t, exec (.lockPulseEnd l d) s = .next t ∧ onlyDoorAndOrders l d s t ∧
      let z' := ((t.lane l).dway d).newest
      let due := z.st = .locking ∧ z.times.pulse.any (fun p => 20000 ≤ ticksSince s.tick p) = true
      (¬due → same z') ∧ (due → same { z' with lockOn := z.lockOn, times := z.times } ∧ z'.lockOn = false ∧
        z'.times = { z.times with pulse := none, since := s.tick })) ∧
    (∃ t, exec (.stepLockTimeout l d) s = .next t ∧ onlyDoorAndOrders l d s t ∧
      let z' := ((t.lane l).dway d).newest
      let due := z.st = .stepIn ∧ z.times.stepDone.any (fun p => 400 * c.lockto ≤ ticksSince s.tick p) = true ∧
        (v.step.any fun y => !y.din 2) = true
      (¬due → same z') ∧ (due → z'.st = .fault ∧ z'.flags.stepf = true ∧ z'.lockOn = false ∧ (x.work = none →
          x.acc = none → attn t))) ∧
    (∃ t, exec (.disag l d) s = .next t ∧ onlyDoorAndOrders l d s t ∧
      let z' := ((t.lane l).dway d).newest
      let due := 0 < z.dis ∧ z.disSeen = false ∧ 400 * (s.lane l).st.car.disto ≤ z.dis
      (¬due → same z') ∧ (due → same { z' with disSeen := false } ∧ z'.disSeen = true ∧ (x.work = none → x.acc = none →
        (t.lane l).ln.car.disag = true ∧ attn t ∧
        (t.lane l).ln.ledg.due = (s.lane l).ln.ledg.due ++ [.event 0x0201 d s.tick (s.trainTime l)])))

/-- SLALOM: ISUM and ALLOC, who is granted, and that no grant is made above CAP at its judgement, within SPACING, or in an
over-cap tick. (07_doorways_slalom.md; R224, R225, R226, R232) -/
def Obligations.SlalomGrantsWithinTheCap : Prop :=
  ∀ (l : LaneId) (s : State),
    let v := (s.lane l).slalomEnv s.tick
    let o := (s.lane l).ln.slalomAcc.getD (s.lane l).ln.slalom
    let c := (s.lane l).st.car
    let up := fun b : SlalomBrick => match b.axis with
      | some _ => b.iq.natAbs * b.ifs * c.supg / 1048320 + c.iqui
      | none => c.iqui
    let isum := (v.bricks.map up).sum
    let waits := v.doors.filter fun d => d.st.waitg
    ∃ t, exec (.slalom l) s = .next t ∧ onlyLN l s t ∧
      { (t.lane l).ln with slalomWork := (s.lane l).ln.slalomWork } = (s.lane l).ln ∧
      ((s.lane l).running = false → t = s) ∧ ((s.lane l).running = true → (t.lane l).ln.slalomWork.isSome = true) ∧
      ((s.lane l).running = true → ∀ w ∈ (t.lane l).ln.slalomWork,
        let spaced := o.lastGrantTick.all fun g => c.spacing ≤ ticksSince s.tick g
        w.isum = min 0xFFFF isum ∧ w.caphold = decide (c.cap < isum) ∧
        (c.cap < isum → w.granted = [] ∧ w.grants = o.grants ∧ w.lastGrantTick = o.lastGrantTick) ∧
        (∀ g ∈ w.granted, g.1 ∈ waits.map SlalomDoor.d) ∧ (w.granted.map Prod.fst).Nodup ∧
        w.alloc = v.alloc w.budgets ∧
        (w.granted ≠ [] → ∀ b ∈ w.budgets.getLast?, b.doorway = w.lastgr ∧ ∀ x ∈ (waits.find? fun x => x.d == b.doorway),
          v.alloc w.budgets.dropLast - ((v.bricks.filter fun y => y.axis.any x.own.contains).map up).sum + x.istart ≤ c.cap) ∧
        (w.granted ≠ [] → w.lastGrantTick = some s.tick ∧ some w.lastgr = (w.granted.map Prod.fst).getLast? ∧
          spaced = true) ∧
        (0 < c.spacing → w.granted.length ≤ 1) ∧ w.waiting = min 15 (waits.length - w.granted.length) ∧
        (∀ x ∈ waits.head?, waits.length = 1 → isum ≤ c.cap →
          let live := o.budgets.filter fun b => !v.ended b && b.doorway != x.d
          let alloc := v.alloc live
          let own := (v.bricks.filter fun b => b.axis.any x.own.contains).map up |>.sum
          (w.granted ≠ [] ↔ spaced = true ∧ alloc - own + x.istart ≤ c.cap) ∧
          (w.granted ≠ [] → w.grants = min 0xFFFF (o.grants + 1))) ∧
        (isum ≤ c.cap → w.capAxis = none ∧ w.budSeen = false) ∧
        (c.cap < isum → w.capAxis = if o.capAxis.isSome then o.capAxis else v.stops.head?) ∧
        w.buderr = (o.buderr || (decide (c.cap < isum) && v.stops.isEmpty && !o.budSeen)))

/-- Frame headers, down records and up records: each reads back as what it was built from, with a right check, for every
value. (08_glide_link.md; R238 to R240, R244; every field at every value its width admits) -/
def Obligations.RingFramesReadBackAsTheyWereBuilt : Prop :=
  ∀ (r : Fin 4) (k : Fin 6),
    (∀ (typ : FType) (nb : Fin 8) (svc rep laneB : Bool) (tbg : BitVec 32),
      let h : FHdr := { typ := typ, nb := nb, svc := svc, rep := rep, laneB := laneB, tbg := tbg.toNat }
      hdrOf r (h.bytes r) = some h ∧ (h.bytes r).length = 8 ∧ byteAt (h.bytes r) 0 = typ.code) ∧
    (∀ (seq : Fin 256) (mode : Fin 4) (hold clrsafe : Bool) (addr amp : Fin 4096),
      let d : DownRec := { seq := seq, mode := mode, hold := hold, clrsafe := clrsafe, addr := addr, amp := amp }
      downOf (d.bytes r k) = d ∧ crcOk r (.down k) (d.bytes r k) = true ∧ (d.bytes r k).length = 16) ∧
    upGot r k 0 (placeholder r k) = .empty ∧
    (∀ (b : Brick) (latch : Time) (ia ib : BitVec 16),
      let b : Brick := { b with smp := { b.smp with ia := ia.toInt, ib := ib.toInt } }
      let bytes := b.upBytes r k
      bytes.length = 24 ∧ upGot r k latch bytes = .record (upOf latch bytes) ∧
      (b.seqe < 256 → b.bflt < 16 → b.dnerr < 256 → b.smp.hall < 8 → b.smp.din < 16 → b.smp.vdc < 65536 →
        let u := upOf latch bytes
        u.seqe = b.seqe ∧ u.stat = b.stat ∧ u.hst = b.smp.hall ∧ u.din = b.smp.din ∧ u.ia = ia.toInt ∧ u.ib = ib.toInt ∧
          u.vdc = b.smp.vdc ∧ u.bflt = b.bflt ∧ u.dnerr = b.dnerr ∧ u.ovf = decide (2 < b.smp.edges.length) ∧
          u.edges.length = min 2 b.smp.edges.length ∧ u.latch = latch))

/-- BRICK_LOCAL_GATE, BRICK_APPLY, BRICK_FRAME_MISS, BRICK_FAULT, BRICK_LOGIC_LOSS: what a brick holds and does after
each. (08_glide_link.md; R242 to R245, R249 to R252) -/
def Obligations.ABrickAppliesItsRecordOrCountsAMiss : Prop :=
  ∀ (r : Fin 4) (b : Fin 6) (s : State),
    let x := s.brick r b
    let refs := fun y : Brick =>
      let runs := y.cfg.configured && y.smp.pwr && y.bflt == 0 && y.bridge == .run
      let bank := if y.cfg.armed = some 0 then y.cfg.bank0 else y.cfg.bank1
      let at' := fun a : Nat => if y.cfg.armed = none then (0 : Int) else sgn 16 (le16 bank (2 * (a % 4096)))
      y.refA = (if runs then y.amp * at' y.addr else 0) ∧
      y.refB = (if runs then y.amp * at' (y.addr + if y.cfg.form = 0 then 2731 else 3072) else 0) ∧
      y.refC = (if y.cfg.form = 0 then -y.refA - y.refB else 0)
    let missed := fun y : Brick =>
      let n := x.missRun + 1
      y.missRun = n ∧ y.dnerr = (x.dnerr + 1) % 256 ∧ y.held = true ∧ y.judged = true ∧ y.seqe = x.seqe ∧ y.mode = x.mode ∧
      y.addr = x.addr ∧ y.amp = x.amp ∧ y.cfg = x.cfg ∧
      (n < 2 ∨ x.cfg.configured = false → y.bridge = x.bridge ∧ y.safe = x.safe) ∧
      (2 ≤ n → x.cfg.configured = true → y.safe = true ∧
        (x.cfg.safeMode = 0 → y.bridge = .short) ∧ (x.cfg.safeMode = 1 → y.bridge = .off) ∧
        (2 ≤ x.cfg.safeMode → y.bridge = if 8 ≤ n then .short else x.bridge))
    let due := x.cfg.slot.isSome && !x.got && !x.judged
    (∀ smp : BrickSample, ∃ t, exec (.brickLocalGate r b smp) s = .next t ∧ onlyBrick r b s t ∧
      t.brick r b = { x with
        smp := smp, hdrMiss := if x.heard then 0 else x.hdrMiss + 1, heard := false, saw := false, got := false
        judged := false, taken := none, tbase := x.tbase + 2500 }) ∧
    (∃ t, exec (.brickApply r b) s = .next t ∧ onlyBrick r b s t ∧
      let y := t.brick r b
      refs y ∧ y.cfg = x.cfg ∧ y.smp = x.smp ∧ y.bflt = x.bflt ∧
      (x.cfg.slot = none ∨ (x.got = false ∧ x.judged = true) →
          { y with refA := x.refA, refB := x.refB, refC := x.refC } = x) ∧
      (due → missed y) ∧
      (x.cfg.slot.isSome = true → x.got = true → x.taken = none →
        { y with refA := x.refA, refB := x.refB, refC := x.refC } = { x with missRun := 0, held := true }) ∧
      (x.cfg.slot.isSome = true → x.got = true → ∀ d ∈ x.taken,
        let z : Brick := { x with missRun := 0, seqe := d.seq, refA := y.refA, refB := y.refB, refC := y.refC }
        let off := d.mode = 0 ∨ d.mode = 3
        (x.safe = true → d.clrsafe = true → off → y = { z with safe := false, bridge := .off, mode := 0, held := false }) ∧
        (x.safe = true → ¬(d.clrsafe = true ∧ off) → y = { z with held := true }) ∧
        (x.safe = false → d.hold = true → y = { z with held := true }) ∧
        (x.safe = false → d.hold = false → y = { z with
          mode := d.mode, addr := d.addr, amp := d.amp, held := false
          bridge := if d.mode = 1 then .run else if d.mode = 2 then .short else .off }))) ∧
    (∃ t, exec (.brickFrameMiss r b) s = .next t ∧ onlyLineAndBrick r b s t ∧
      (t.hw r).line = (if x.saw then (s.hw r).line else []) ∧ (t.hw r).bcn = (s.hw r).bcn ∧
      (due → missed (t.brick r b)) ∧ (¬due → t.brick r b = x)) ∧
    (∀ code : Fin 8, ∃ t, exec (.brickFault r b code) s = .next t ∧ onlyBrick r b s t ∧ refs (t.brick r b) ∧
      { t.brick r b with refA := x.refA, refB := x.refB, refC := x.refC } = { x with bflt := code }) ∧
    (∃ t, exec (.brickLogicLoss r b) s = .next t ∧ onlyBrick r b s t ∧
      t.brick r b = { smp := x.smp, cfg := { desc := x.cfg.desc } })

/-- BRICK_FRAME_RECEIVE, BRICK_SERVICE_WINDOW, BRICK_LOOP_FRAME, BRICK_BEACON: what a brick takes from a frame and puts
into it. (08_glide_link.md; R238 to R241, R245, R249, R250, R255, R262, R263, R463; which slot bit comes first in the
LOOP pattern is free) -/
def Obligations.ABrickTakesItsRecordAndFillsItsUpSlot : Prop :=
  ∀ (r : Fin 4) (b : Fin 6) (s : State),
    let x := s.brick r b
    let h₀ := s.hw r
    let on := !h₀.line.isEmpty
    (∀ err : LineErr, ∃ t, exec (.brickFrameReceive r b err) s = .next t ∧ onlyLineAndBrick r b s t ∧
      let f := applyErr (if on then h₀.line else h₀.bcn) err
      let f' := if on then (t.hw r).line else (t.hw r).bcn
      let y := t.brick r b
      (if on then (t.hw r).bcn = h₀.bcn else (t.hw r).line = h₀.line) ∧
      (on = false → h₀.bcn = [] → t = s) ∧
      ((x.cfg.slot = none ∨ hdrOf r f = none) → (on = true ∨ h₀.bcn ≠ []) → f' = f ∧ y = { x with saw := true }) ∧
      ((on = true ∨ h₀.bcn ≠ []) → ∀ k ∈ x.cfg.slot, ∀ h ∈ hdrOf r f,
        let other := fun (at' : Nat) => f'.length = max f.length (at' + 24) ∧
          ∀ i : Fin 320, (i.val < at' ∨ at' + 24 ≤ i.val) → byteAt f' i = byteAt f i
        y.heard = true ∧ y.saw = true ∧ y.tbase = BitVec.ofNat 32 h.tbg ∧
        { y with heard := x.heard, saw := x.saw, tbase := x.tbase, got := x.got, taken := x.taken, lastSeq := x.lastSeq,
                 cfg := x.cfg } = x ∧
        (h.typ = .cyclic → k < h.nb →
          let rec' := slice f (8 + 16 * k) 16
          let good := crcOk r (.down k) rec' = true ∧ x.lastSeq ≠ some (byteAt rec' 0)
          let at' := 8 + 16 * h.nb + (if h.svc then 70 else 0) + 24 * k
          (good → y.got = true ∧ y.taken = some (downOf rec') ∧ y.lastSeq = some (byteAt rec' 0)) ∧
          (¬good → y.got = x.got ∧ y.taken = x.taken ∧ y.lastSeq = x.lastSeq) ∧
          slice f' at' 24 = x.upBytes r k ∧ other at') ∧
        (h.typ = .cyclic → h.nb ≤ k → y.got = x.got ∧ f' = f) ∧
        (h.typ = .beacon → h.nb < k → slice f' (8 + 24 * (k - h.nb)) 24 = x.upBytes r k ∧ other (8 + 24 * (k - h.nb))) ∧
        (h.typ = .beacon → k ≤ h.nb → f' = f) ∧
        (h.typ ≠ .cyclic → y.cfg = x.cfg ∧ (h.typ ≠ .beacon → f' = f ∧ y.got = true ∧ y.taken = none)))) ∧
    (∀ err : LineErr, ∃ t, exec (.brickServiceWindow r b err) s = .next t ∧ onlyBrick r b s t ∧
      let f := applyErr h₀.line err
      let good := (hdrOf r f).any fun h =>
        let w := slice f (8 + 16 * h.nb) 70
        h.typ == .cyclic && h.svc && crcOk r .window w && byteAt w 0 == 1 && x.cfg.slot.any (bitOf (byteAt w 1)) &&
          le16 w 2 % 64 == 0 && decide (le16 w 2 ≤ 8128)
      (good = false → t = s) ∧
      (good = true → ∀ h ∈ hdrOf r f,
        let w := slice f (8 + 16 * h.nb) 70
        let y := t.brick r b
        { y with cfg := x.cfg } = x ∧
        (x.cfg.armed = some 0 → y.cfg = { x.cfg with bank1 := putBytes x.cfg.bank1 (le16 w 2) (slice w 4 64) }) ∧
        (x.cfg.armed ≠ some 0 → y.cfg = { x.cfg with bank0 := putBytes x.cfg.bank0 (le16 w 2) (slice w 4 64) }))) ∧
    (∀ err : LineErr, ∃ t, exec (.brickLoopFrame r b err) s = .next t ∧ onlyLineAndBrick r b s t ∧ (t.hw r).bcn = h₀.bcn ∧
      let f := applyErr h₀.line err
      let mine := (hdrOf r f).any fun h => h.typ == .loopT && x.cfg.slot.any (· < h.nb)
      (mine = false → (t.hw r).line = f ∧ t.brick r b = { x with saw := true }) ∧
      (mine = true → ∀ k ∈ x.cfg.slot,
        (t.hw r).line = putBytes f (250 + k) [if crcOk r .window (slice f 8 242) then 1 else 2] ∧
        (t.brick r b).got = true ∧ (t.brick r b).taken = none ∧ (t.brick r b).cfg = x.cfg)) ∧
    (∃ t, exec (.brickBeacon r b) s = .next t ∧
      let due := 2 ≤ x.hdrMiss ∧ x.heard = false ∧ h₀.bcn = [] ∧ x.cfg.slot.isSome = true
      (¬due → t = s) ∧
      (due → onlyHw r s t ∧ { t.hw r with bcn := [] } = h₀ ∧ ∀ k ∈ x.cfg.slot, k ≤ 5 →
        let f := (t.hw r).bcn
        hdrOf r f = some { typ := .beacon, nb := k, tbg := x.tbase.toNat } ∧ slice f 8 24 = x.upBytes r k ∧
          f.length = 8 + 24 * (6 - k)))

/-- BRICK_ENUM, BRICK_DESC, BRICK_CONFIG, BRICK_PUSH, BRICK_ARM: slot, descriptor, configuration, table bytes, and when a
bank is armed. (08_glide_link.md; R245 to R249) -/
def Obligations.BringUpFramesGiveABrickSlotAndTables : Prop :=
  ∀ (r : Fin 4) (b : Fin 6) (err : LineErr) (s : State),
    let x := s.brick r b
    let f := applyErr (s.hw r).line err
    let mine := fun typ : FType => (hdrOf r f).any fun h => h.typ == typ && x.cfg.slot.any (· < h.nb)
    let frame := fun t : State => onlyLineAndBrick r b s t ∧ (t.hw r).bcn = (s.hw r).bcn
    let other := fun (typ : FType) (t : State) =>
      mine typ = false → (t.hw r).line = f ∧ t.brick r b = { x with saw := true }
    let bank := fun (c : BrickCfg) (k : Nat) => ((if k = 0 then c.bank0 else c.bank1) ++ zeros 8192).take 8192
    let put := fun (off : Nat) (d : List Byte) => if x.cfg.armed = some 0
      then { x.cfg with bank1 := putBytes x.cfg.bank1 off d } else { x.cfg with bank0 := putBytes x.cfg.bank0 off d }
    (∃ t, exec (.brickEnum r b err) s = .next t ∧ frame t ∧
      let isEnum := (hdrOf r f).any fun h => h.typ == .enum
      (isEnum = false → (t.hw r).line = f ∧ t.brick r b = { x with saw := true }) ∧
      (isEnum = true → ∀ h ∈ hdrOf r f,
        (t.brick r b).cfg = { x.cfg with slot := if h.nb ≤ 5 then some h.nb else none } ∧
        hdrOf r (t.hw r).line = some { h with nb := min 7 (h.nb + 1) } ∧ (t.hw r).line.drop 8 = f.drop 8)) ∧
    (∀ d : BrickDesc, ∃ t, exec (.brickDesc r b d err) s = .next t ∧ frame t ∧
        (t.brick r b).cfg = { x.cfg with desc := d } ∧
      (mine .desc = false → (t.hw r).line = f ∧ (t.brick r b).got = x.got) ∧
      (mine .desc = true → ∀ h ∈ hdrOf r f, ∀ k ∈ x.cfg.slot, upAt h k + 24 ≤ f.length →
        let a := slice (t.hw r).line (upAt h k) 24
        crcOk r (.up k) a = true ∧ (t.hw r).line.length = f.length ∧
        (d.vendor < 65536 → le16 a 0 = d.vendor) ∧ (d.model < 65536 → le16 a 2 = d.model) ∧ (d.pver < 256 →
            byteAt a 4 = d.pver) ∧
        (d.forms < 256 → byteAt a 5 = d.forms) ∧ (d.safes < 256 → byteAt a 6 = d.safes) ∧
        (d.ifs < 65536 → le16 a 8 = d.ifs) ∧ le32 a 12 = d.serial.toNat)) ∧
    (∃ t, exec (.brickConfig r b err) s = .next t ∧ frame t ∧ other .config t ∧
      (mine .config = true → ∀ h ∈ hdrOf r f, ∀ k ∈ x.cfg.slot,
        let a := slice f (8 + 16 * k) 16
        (t.hw r).line = putBytes f (upAt h k) (x.upBytes r k) ∧
        (crcOk r (.down k) a = true → (t.brick r b).cfg = { x.cfg with
          configured := true, safeMode := byteAt a 1, form := byteAt a 2 % 2, dly := le16 a 4 }) ∧
        (crcOk r (.down k) a = false → (t.brick r b).cfg = x.cfg))) ∧
    (∃ t, exec (.brickPush r b err) s = .next t ∧ frame t ∧ other .push t ∧
      (mine .push = true →
        let w := slice f 8 262
        let good := crcOk r .window w && x.cfg.slot.any (bitOf (byteAt w 0)) && le16 w 2 % 256 == 0 && decide (le16 w 2 ≤ 7936)
        (t.hw r).line = f ∧ (t.brick r b).cfg = if good then put (le16 w 2) (slice w 4 256) else x.cfg)) ∧
    (∃ t, exec (.brickArm r b err) s = .next t ∧ frame t ∧ other .arm t ∧
      (mine .arm = true → ∀ h ∈ hdrOf r f, ∀ k ∈ x.cfg.slot,
        let a := slice f (8 + 16 * k) 16
        let n := byteAt a 0 % 2
        let ack := if bitOf x.cfg.desc.forms x.cfg.form = false then 2
          else if (crc32c (bank x.cfg n)).toNat = le32 a 4 then 0 else 1
        let y := t.brick r b
        (crcOk r (.down k) a = false → y.cfg = x.cfg ∧ (t.hw r).line = f) ∧
        (crcOk r (.down k) a = true → y.cfg = { x.cfg with ack := ack, armed := if ack = 0 then some n else x.cfg.armed } ∧
          (upAt h k + 24 ≤ f.length → byteAt (slice (t.hw r).line (upAt h k) 24) 20 = ack ∧
            crcOk r (.up k) (slice (t.hw r).line (upAt h k) 24) = true))))

/-- RING_FRAME and REPEAT_LIMIT: the frame a lane builds, record by record, and that after eight repeats a ring idles.
(08_glide_link.md; R238, R239, R241, R246, R252 to R254, R256) -/
def Obligations.RingFramesCarryWhatTheAxesAsk : Prop :=
  ∀ (l : LaneId) (r : Fin 4) (s : State),
    let g := (s.lane l).ring r
    let i := s.img l
    let nb := (s.ringImg l r).nb r
    let builds := (g.st = .running ∨ g.st = .broken ∨ g.st = .rejoining) ∧
      ((g.built.bind (hdrOf r)).any fun h => h.typ != .cyclic) = false
    (∃ t, exec (.ringFrame l r) s = .next t ∧ onlyRing l r s t ∧
      let g' := (t.lane l).ring r
      (¬builds → t = s) ∧
      (builds → g'.svc = g.svc.drop 1 ∧ g'.built.isSome = true ∧
        { g' with svc := g.svc, built := g.built, slots := g.slots } = g) ∧
      (builds → nb ≤ 6 → ∀ f ∈ g'.built,
        let h : FHdr := { typ := .cyclic, nb := nb, svc := !g.svc.isEmpty, laneB := decide (l = .b)
                          tbg := (s.lines.gate.toNat + 2500) % 2 ^ 32 }
        hdrOf r f = some h ∧ f.length = 8 + 40 * nb + (if h.svc then 70 else 0) ∧
        (∀ w ∈ g.svc.head?, w.data.length = 64 → slice f (8 + 16 * nb) 70 = svcWindow r w) ∧
        ∀ k : Fin 6, k.val < nb →
          let b := slice f (8 + 16 * k.val) 16
          let d := downOf b
          let z := vget g.slots {} k
          let mine := i.axisAt r k
          let a := ((s.lane l).axis ((mine.map AxisRec.axis).getD 0)).cur
          let down := g.st = .broken ∨ g.st = .rejoining
          let off := z.cmdReady = false ∨ bitOf z.stat 0 = false ∨ (s.lane l).ln.pwr.layover = true
          crcOk r (.down k) b = true ∧ d.seq = (s.tick + 1) % 256 ∧ slice f (upAt h k) 24 = placeholder r k ∧
          (mine = none → d = { seq := d.seq }) ∧
          (mine.isSome = true → down →
            d = { seq := d.seq, mode := if k.val < g.brkat ∧ i.brickSafe r k ≠ 1 then 2 else 0 }) ∧
          (mine.isSome = true → ¬down →
            d.addr = a.amp.addr % 4096 ∧ d.amp = a.amp.amp % 4096 ∧
            (z.sfhold = true → d.mode = 0 ∧ d.hold = false ∧ d.clrsafe = (a.hall.still && !bitOf z.stat 3)) ∧
            (z.sfhold = false → d.clrsafe = false) ∧
            (z.sfhold = false → off → d.mode = 0 ∧ d.hold = false) ∧
            (z.sfhold = false → ¬off →
              d.mode = 1 ∧ d.hold = ((s.lane l).axis ((mine.map AxisRec.axis).getD 0)).cmd.hold)))) ∧
    (∃ t, exec (.repeatLimit r) s = .next t ∧ onlyHw r s t ∧
      let due := 8 ≤ (s.hw r).reps ∧ (s.hw r).repNow = false
      (¬due → t = s) ∧ (due → t.hw r = { s.hw r with line := [], typ := none, last := none, repNow := false }))

/-- UP_FRAME_RECEIVE and UP_DATA_MISSING: each used slot's record is taken or counted missing; a moving axis without data
is suspect. (08_glide_link.md; R239, R240, R253, R255, R256, R260, R458) -/
def Obligations.UpFramesBringRecordsOrLoseThem : Prop :=
  ∀ (l : LaneId) (s : State),
    (∀ (r : Fin 4) (err : LineErr),
      let g := (s.lane l).ring r
      let hw := s.hw r
      let i := s.ringImg l r
      let f := applyErr hw.line err
      let tracked := g.st = .running ∨ g.st = .broken ∨ g.st = .rejoining
      let comes := hw.line ≠ [] ∧ g.got = false ∧ hw.bcn = []
      ∃ t, exec (.upFrameReceive l r err) s = .next t ∧ onlyLane l s t ∧
        let g' := (t.lane l).ring r
        let lost := fun z z' : SlotSt => z' = { z with
          inb := none, missRun := z.missRun + 1, missup := min 0xFF (if z.missup < 0xFF then z.missup + 1 else 0xFF) }
        (∀ q : Fin 4, q ≠ r → (t.lane l).ring q = (s.lane l).ring q) ∧
            (∀ n : Fin 24, (t.lane l).axis n = (s.lane l).axis n) ∧
        (t.lane l).st = (s.lane l).st ∧ (t.lane l).keep.mem = (s.lane l).keep.mem ∧
        (hw.line = [] → hw.bcn = [] → t = s) ∧ ((hw.line = [] ∨ g.got = true) → hw.bcn = [] → t = s) ∧
        (comes → g'.got = true ∧ g'.st = g.st ∧ g'.brkat = g.brkat ∧ g'.beacons = g.beacons) ∧
        (comes → hdrOf r f = none → g'.hdrerr = (if g.hdrerr < 0xFF then g.hdrerr + 1 else 0xFF) ∧ g'.goodRun = 0) ∧
        (comes → hdrOf r f ≠ none → g'.hdrerr = g.hdrerr) ∧
        (comes → ¬tracked → g'.slots = g.slots) ∧
        (comes → tracked → ∀ k : Fin 6,
          let z := vget g.slots {} k
          let z' := vget g'.slots {} k
          let used := i.slotUsed r k = true
          (¬used → z' = z) ∧
          (hdrOf r f = none → used → (z.inb.map UpRec.latch = some s.lines.gate → z' = z) ∧
            (z.inb.map UpRec.latch ≠ some s.lines.gate → lost z z')) ∧
          (∀ h ∈ hdrOf r f, h.typ = .cyclic → used →
            let b := slice f (upAt h k) 24
            let u := upOf s.lines.gate b
            let good := crcOk r (.up k) b = true ∧ byteAt b 1 < 128
            (h.nb ≤ k.val → z' = z) ∧ (k.val < h.nb → ¬good → lost z z') ∧
            (k.val < h.nb → good → z'.inb = some u ∧ z'.missRun = 0 ∧ z'.stat = byteAt b 1 ∧ z'.bflt = u.bflt ∧
              z'.temp = byteAt b 18 ∧ z'.dnerr = byteAt b 20 ∧ z'.missup = z.missup ∧ (z.sfhold = true → z'.sfhold = true) ∧
              (¬(bitOf z'.stat 1 = true ∨ bitOf z'.stat 3 = true) → z'.sfhold = z.sfhold) ∧
              ((bitOf z'.stat 1 && !bitOf z.stat 1) = true ∨ (bitOf z'.stat 3 && !bitOf z.stat 3) = true →
                (t.lane l).ln.host.attn.getLsbD 7 = true)))) ∧
        (comes → tracked → ∀ h ∈ hdrOf r f, h.typ = .cyclic →
          let used := (List.range (min 6 h.nb)).filter fun k => i.slotUsed r k
          let good := used.all fun k =>
            crcOk r (.up k) (slice f (upAt h k) 24) && decide (byteAt (slice f (upAt h k) 24) 1 < 128)
          let bad := used.filter fun k => !crcOk r (.up k) (slice f (upAt h k) 24)
          g'.goodRun = (if good && g.st == .broken then g.goodRun + 1 else 0) ∧
          (g.upcrc ≤ 0xFF → g'.upcrc = min 0xFF (g.upcrc + bad.length))) ∧
        (hw.line = [] → ∀ h ∈ hdrOf r (applyErr hw.bcn err), hw.bcn ≠ [] → h.typ = .beacon →
          g'.beacons = (if g.beacons < 0xFF then g.beacons + 1 else 0xFF) ∧ g'.got = g.got ∧
          g'.brkat = if g.st = .broken then h.nb else g.brkat)) ∧
    (∀ n : Fin 24, ∃ t, exec (.upDataMissing l n) s = .next t ∧ onlyAxis l n s t ∧
      let due := (s.lane l).hasAxis n = true ∧ 2 ≤ ((s.lane l).slotOf n).missRun
      let x := (s.lane l).axis n
      let x' := (t.lane l).axis n
      let hit := fun b b' : AxisSt => b' = if b.hall.still = false ∧ b.hall.posq = .valid
        then { b with hall := { b.hall with posq := .suspect } } else b
      (¬due → t = s) ∧ (due → hit x.cur x'.cur ∧ x'.cmd = x.cmd ∧ x'.work.isSome = x.work.isSome ∧
        ∀ w ∈ x.work, ∀ w' ∈ x'.work, hit w w'))

/-- RING_BREAK, RING_REJOIN, RING_BRINGUP, RESCAN: when a ring changes its state, and the code it stops with.
(08_glide_link.md; R246 to R249, R256, R257, R260) -/
def Obligations.RingsBreakRejoinAndComeUp : Prop :=
  ∀ (l : LaneId) (s : State),
    (∀ r : Fin 4,
      let g := (s.lane l).ring r
      let i := s.ringImg l r
      let f := (s.hw r).line
      let fault := fun (t : State) (code : Nat) => let g' := (t.lane l).ring r
        g'.st = .fault ∧ g'.buerr = code ∧ g'.built = none ∧ (t.lane l).ln.host.attn.getLsbD 7 = true
      let desc := fun k => descAt r k f
      (∃ t, exec (.ringBreak l r) s = .next t ∧
        let due := g.st = .running ∧ 2 ≤ g.noRetRun + (if g.got then 0 else 1)
        (¬due → t = s) ∧
        (due → (t.lane l).ring r = { g with
            st := .broken, rbrk := true, goodRun := 0
            brkat := ((hdrOf r (s.hw r).bcn).bind fun h => if h.typ = .beacon then some h.nb else none).getD 6 } ∧
          (t.lane l).ln.host.attn = (s.lane l).ln.host.attn ||| 0x80 ∧ onlyLN l s t)) ∧
      (∃ t, exec (.ringRejoin l r) s = .next t ∧
        let first := g.st = .broken ∧ 4 ≤ g.goodRun
        let waits := ((g.built.bind (hdrOf r)).any fun h => h.typ != .cyclic) = true
        let judged := g.st = .rejoining ∧ ¬waits
        let back := judged ∧ (s.hw r).typ = some .desc
        let ok := (List.range ((s.img l).nb r)).all fun k => (desc k).any fun b =>
          BitVec.ofNat 32 (le32 b 12) == (vget g.slots {} k).serial && bitOf (byteAt b 11) 2
        (¬first → ¬judged → t = s) ∧
        (judged → ¬back → (t.lane l).ring r = { g with built := some (s.descFrame l r) } ∧ onlyRing l r s t) ∧
        (first → (t.lane l).ring r = { g with st := .rejoining, built := some (s.descFrame l r) } ∧ onlyRing l r s t) ∧
        (back → ok = true → (t.lane l).ring r = { g with
            st := .running, brkat := 7, goodRun := 0
            slots := g.slots.map fun z => { z with sfhold := true, cleared := none } } ∧ onlyRing l r s t) ∧
        (back → ok = false → fault t 4)) ∧
      (∀ (idleBack : Bool) (rtd : Nat), ∃ t, exec (.ringBringup l r idleBack rtd) s = .next t ∧
        let g' := (t.lane l).ring r
        let at' := fun (n : Nat) => g.st = .bringUp ∧ g.bu.step = n
        let next := fun (n : Nat) (typ : FType) => g'.st = .bringUp ∧ g'.bu.step = n ∧
          ((g'.built.bind (hdrOf r)).map FHdr.typ) = some typ
        (g.st ≠ .bringUp → t = s) ∧
        (at' 1 → g.bu.ticks < 3 → g'.st = .bringUp ∧ g'.bu = { g.bu with ticks := g.bu.ticks + 1 } ∧ g'.built = g.built) ∧
        (at' 1 → 3 ≤ g.bu.ticks → idleBack = false → fault t 1 ∧ g'.nfound = 0) ∧
        (at' 1 → 3 ≤ g.bu.ticks → idleBack = true → next 2 .enum ∧ ((g'.built.bind (hdrOf r)).map FHdr.nb) = some 0) ∧
        (at' 2 → let n := ((hdrOf r f).bind fun h => if h.typ = .enum then some h.nb else none).getD 0
          g'.nfound = n ∧ (n ≠ i.nb r → fault t 2) ∧ (n = i.nb r → next 3 .cyclic)) ∧
        (at' 3 → g'.rtd = min 1023 rtd ∧ (800 < rtd → fault t 3) ∧ (rtd ≤ 800 → next 4 .desc)) ∧
        (at' 4 → ((List.range (i.nb r)).any fun k => (desc k).all (refusesDesc i r k)) = true → fault t 4) ∧
        (at' 4 → ((List.range (i.nb r)).any fun k => (desc k).all (refusesDesc i r k)) = false →
          (2 ≤ g.bu.prev.length → next 5 .config ∨ fault t 6) ∧
          (g.bu.prev = [] → g'.st = .bringUp ∧ g'.bu.step = 1 ∧ g'.bu.prev.length = 1)) ∧
        (at' 5 ∨ at' 6 → (∀ b ∈ g.bu.pushes.head?, next 6 .push ∧ g'.bu.pushes = g.bu.pushes.drop 1) ∧
          (g.bu.pushes = [] → next 7 .arm)) ∧
        (at' 7 → let ok := (List.range (i.nb r)).all fun k => (desc k).any fun b => byteAt b 20 == 0
          (ok = true → g'.st = .running ∧ ((g'.built.bind (hdrOf r)).map FHdr.typ) = some .cyclic) ∧
          (ok = false → fault t 5)))) ∧
    (∀ rings : BitVec 4, ∃ t, exec (.rescan l rings) s = .next t ∧ (rings = 0 → t = s) ∧
      ∀ r : Fin 4,
        let g := (s.lane l).ring r
        let g' := (t.lane l).ring r
        let ok := (s.img l).ringen r && (List.range 24).all fun n =>
          !((s.lane l).hasAxis n && ((s.lane l).acfg n).ring == r) ||
            (((s.lane l).axis n).cur.prof.phase == .idle && ((s.lane l).axis n).cur.hall.still &&
              [DState.locked, .stopped, .service].contains ((s.lane l).dway ((s.lane l).acfg n).doorway).cur.st)
        (rings.getLsbD r = false → g' = g) ∧ (rings.getLsbD r = true → ¬ok → g' = { g with rej := true }) ∧
        (rings.getLsbD r = true → ok → g'.st = .bringUp ∧ g'.bu.step = 1 ∧ g'.buerr = 0 ∧ g'.brkat = 7 ∧ g'.rej = g.rej))

/-- INPUT_LOW_RECOGNISED, INPUT_HIGH_RECOGNISED, TEST_FRAME_START, PULSE_PATTERN_FAULT: levels, frames, CROSS and STUCK.
(09_safety_functions.md; R263, R266 to R272, R278, R284, R458) -/
def Obligations.InputsAreRecognisedBySamplesOutsideTheirWindow : Prop :=
  ∀ s : State,
    let c := s.sc
    let low := fun (t : State) => ∀ o : Fin 6, (vget t.sc.outs {} o).lon = true → (vget s.sc.outs {} o).lon = false →
      refOutRole t.sc.refRec o ≠ 0 ∧ t.sc.refrun = true ∧ t.sc.sclost = false ∧ (vget t.sc.outs {} o).ocode = 0 ∧
        ((idxs 16 (bitOf (refOutMask t.sc.refRec o))).all fun f => (vget t.sc.fns {} f).rf.st == .run) = true
    (∀ (t : Tech) (i : Fin 32) (ts : List Nat) (high : Bool), ∃ u,
      exec (if high then .inputHighRecognised t i ts else .inputLowRecognised t i ts) s = .next u ∧
      let src := c.source t i
      let mask := fun x : Nat =>
        src != 0 && decide ((src - 1) * 5000 ≤ x % 20000) && decide (x % 20000 < (src - 1) * 5000 + 400)
      let run := ts.filter fun x => !mask x
      let per := if t = .referee then 50 else 100
      let steps := ((run.zip (run.drop 1)).all fun p => decide (p.1 < p.2) && (p.2 - p.1) % per == 0 &&
        (List.range ((p.2 - p.1) / per)).all fun k => k == 0 || mask (p.1 + per * k)) = true
      let lev := if t = .referee then c.rlev else c.slev
      let due := (if t = .referee then 8 else 5) ≤ run.length ∧ steps ∧ lev.getLsbD i ≠ high ∧
          (if t = .referee then c.refrun else c.scrun) = true
      let lev' := if t = .referee then u.sc.rlev else u.sc.slev
      (¬due → u = s) ∧ (if t = .referee then u.sc.slev = c.slev else u.sc.rlev = c.rlev) ∧
      (due → lev'.getLsbD i = high ∧ (∀ j : Fin 32, j ≠ i → lev'.getLsbD j = lev.getLsbD j) ∧
        (if t = .referee then u.sc.rOk else u.sc.patOk).getLsbD i = false) ∧
      (t = .safetyCore → u.sc.fns = c.fns ∧ u.sc.outs = c.outs) ∧
      (t = .referee → onlySc s u ∧ low u ∧ (due → ∀ f : Fin 16,
        let r := refFnRec c.refRec f
        (r.typ = 3 → (vget u.sc.fns {} f).rf = (vget c.fns {} f).rf) ∧
        (r.typ ≠ 3 → r.demands (r.levels u.sc.rlev) = true → (vget u.sc.fns {} f).rf.st ≠ .run)) ∧
        (due → ∀ o : Fin 6, (vget u.sc.outs {} o).lon = true → u.sc.sclost = false ∧ (vget u.sc.outs {} o).ocode = 0 ∧
          ((idxs 16 (bitOf (refOutMask u.sc.refRec o))).all fun f => (vget u.sc.fns {} f).rf.st == .run) = true))) ∧
    (∃ t, exec .testFrameStart s = .next t ∧ onlySc s t ∧ (c.refrun = false → t = s) ∧ low t ∧
      (c.refrun = true → t.sc.frame = c.frame + 1 ∧ t.sc.frameOn = true ∧ t.sc.patBad = 0 ∧ t.sc.slev = c.slev ∧
        t.sc.rlev = c.rlev ∧ t.sc.fhigh = c.slev ∧ t.sc.rhigh = c.rlev ∧
        (c.frameOn = true → t.sc.patOk = (c.patOk ||| c.fhigh) &&& ~~~c.patBad ∧ t.sc.rOk = c.rOk ||| c.rhigh) ∧
        (c.frameOn = false → t.sc.patOk = c.patOk ∧ t.sc.rOk = c.rOk))) ∧
    (∀ (i : Fin 32) (runs1 runs2 : List (Nat × Nat)), ∃ t, exec (.pulsePatternFault i runs1 runs2) s = .next t ∧
      let src := c.source .safetyCore i
      let judged := c.scrun = true ∧ src ≠ 0 ∧ c.slev.getLsbD i = true
      let foreign := fun rs : List (Nat × Nat) => rs.any fun r => decide (1 ≤ r.2 ∧ r.2 ≤ 4) &&
        [1, 2, 3, 4].any fun o => o != src && decide ((o - 1) * 5000 ≤ r.1 ∧ r.1 ≤ (o - 1) * 5000 + 400)
      let own := fun rs : List (Nat × Nat) => rs.any fun r => (List.range r.2).any fun k =>
        decide ((src - 1) * 5000 ≤ (r.1 + 100 * k) % 20000 ∧ (r.1 + 100 * k) % 20000 < (src - 1) * 5000 + 400)
      let cross := judged ∧ foreign runs1 = true ∧ foreign runs2 = true
      let stuck := judged ∧ own runs1 = false ∧ own runs2 = false
      t.sc.slev = c.slev ∧ t.sc.rlev = c.rlev ∧ t.sc.outs = c.outs ∧
      (∀ j : Fin 32, j ≠ i → t.sc.cross.getLsbD j = c.cross.getLsbD j ∧ t.sc.stuck.getLsbD j = c.stuck.getLsbD j) ∧
      t.sc.cross.getLsbD i = (c.cross.getLsbD i || decide cross) ∧ t.sc.stuck.getLsbD i = (c.stuck.getLsbD i ||
          decide stuck) ∧
      (cross ∨ stuck → t.sc.chk.getLsbD i = true) ∧ (¬judged → t = s) ∧
      (∀ f : Fin 16,
        let x := vget c.fns {} f
        let x' := vget t.sc.fns {} f
        let hit := (fnRec c.saf f).uses i = true ∧ x.sc.st ≠ .fault ∧ (cross ∨ stuck)
        x'.rf = x.rf ∧ (¬hit → x' = x) ∧
        (hit → x'.sc.st = .fault ∧ x'.sc.code = (if cross then 2 else 3) ∧
          x'.faults = (if x.faults < 0xFFFF then x.faults + 1 else 0xFFFF) ∧ (t.lane .a).ln.host.attn.getLsbD 10 = true)))

/-- SAFETY_SCAN, SAFETY_REPORT, REPORT_LOSS: functions by their table, switches closed only with every permit, reports to
both lanes. (09_safety_functions.md; R263, R265, R272 to R279, R282, R284, R295, R189, R209) -/
def Obligations.AScanEvaluatesEveryFunctionAndReports : Prop :=
  ∀ s : State,
    (∀ rb : Readback, ∃ t, exec (.safetyScan rb) s = .next t ∧ (s.sc.scrun = false → t = s) ∧
      (s.sc.scrun = true →
        let c := s.sc
        let c' := t.sc
        c'.time = c.time + 1 ∧ c'.scan = (c.scan + 1) % 65536 ∧ c'.slev = c.slev ∧ c'.rlev = c.rlev ∧
            c'.sealSec = c.sealSec ∧
        (∀ f : Fin 16,
          let r := fnRec c.saf f
          let x := vget c.fns {} f
          let x' := vget c'.fns {} f
          let demand := r.demands (r.levels c.slev)
          (r.ev = false → x'.sc.st = .run → demand = false) ∧
          (x.sc.st = .unused → r.typ = 0 → x'.sc.st = .unused) ∧
          (r.ev = false → x.sc.st = .run → demand = false → r.disagrees (r.levels c.slev) = false →
              x.disagMs + 1 ≤ r.disc + 100 →
            x'.sc.st = .run) ∧
          (r.ev = false → x.sc.st = .run → demand = true → x'.sc.st = .demand ∨ x'.sc.st = .fault)) ∧
        (∀ o : Fin 6,
          let z := vget c.outs {} o
          let z' := vget c'.outs {} o
          let r := outRec c.saf o
          (z'.hon = true → r.role ≠ 0 ∧ c'.reflost = false ∧ z'.ocode = 0 ∧
            (∀ f : Fin 16, bitOf r.fmask f = true → (vget c'.fns {} f).sc.st = .run) ∧
            (∀ k : Fin 64, bitOf r.cmask k = true → (c'.conn k).st = .valid ∧ (c'.conn k).permit = true)) ∧
          (z'.lon = true → z.lon = false → c'.refrun = true ∧ c'.sclost = false ∧ z'.ocode = 0 ∧
            ((idxs 16 (bitOf (refOutMask c.refRec o))).all fun f => (vget c'.fns {} f).rf.st == .run) = true)) ∧
        (c'.zspd = false → c'.rell = false ∧ c'.relr = false) ∧
        c'.rep.zspd = c'.zspd ∧ c'.rep.rell = c'.rell ∧ c'.rep.relr = c'.relr ∧
        (∀ f : Fin 16, c'.rep.sperm.getLsbD f = decide ((vget c'.fns {} f).sc.st = .run)) ∧
        (∀ d : Fin 12,
          c'.rep.loops.getLsbD d = ((List.range 16).any fun f => (fnRec c.saf f).typ == 2 && bitOf (fnRec c.saf f).dmask d &&
            (vget c'.fns {} f).sc.st == .run) ∧
          c'.rep.egr.getLsbD d = ((List.range 16).any fun f => (fnRec c.saf f).typ == 1 && bitOf (fnRec c.saf f).dmask d &&
            (vget c'.fns {} f).sc.st != .run)) ∧
        (∀ o : Fin 6, let z' := vget c'.outs {} o
          let pulse := z'.testing.isSome || (Config.pulseSeen o c'.scan && (vget c.outs {} o).testing.isSome)
          c'.rep.outon.getLsbD o = (z'.hon && z'.lon && z'.ocode == 0 && !pulse)) ∧
        c'.view.rep = c'.rep ∧ c'.view.slev = c'.slev ∧ c'.view.rlev = c'.rlev ∧ c'.view.scan = c'.scan ∧
            c'.view.fns = c'.fns ∧
        ∀ l : LaneId, (t.lane l).ln.axes = (s.lane l).ln.axes ∧ (t.lane l).ln.dways = (s.lane l).ln.dways ∧
          (t.lane l).st = (s.lane l).st ∧ (t.lane l).keep.mem = (s.lane l).keep.mem)) ∧
    (∃ t, exec .safetyReport s = .next t ∧ onlyLanes s t ∧ (s.sc.scrun = false → t = s) ∧
      (s.sc.scrun = true → ∀ l : LaneId, (t.lane l).ln.rpt.rep = s.sc.rep ∧ (t.lane l).ln.rpt.rptok = true ∧
        (t.lane l).ln.rpt.missed = 0 ∧ { (t.lane l).ln with rpt := (s.lane l).ln.rpt } = (s.lane l).ln ∧
        (t.lane l).keep = (s.lane l).keep ∧ (t.lane l).mr = { (s.lane l).mr with view := s.sc.view } ∧
            (t.lane l).st = (s.lane l).st)) ∧
    (∀ l : LaneId, ∃ t, exec (.reportLoss l) s = .next t ∧ onlyLN l s t ∧ ((s.lane l).ln.rpt.missed < 4 → t = s) ∧
      { (t.lane l).ln with rpt := (s.lane l).ln.rpt } = (s.lane l).ln ∧
      (4 ≤ (s.lane l).ln.rpt.missed →
        let r := (t.lane l).ln.rpt.rep
        r.zspd = false ∧ r.rell = false ∧ r.relr = false ∧ r.loops = 0 ∧ r.egr = BitVec.allOnes 12 ∧
            r.edges = Vector.replicate 24 2 ∧
          r.curts = Vector.replicate 12 1 ∧ (t.lane l).ln.rpt.missed = (s.lane l).ln.rpt.missed))

/-- From any state where faulted outputs and those of a lost technology are open, every step leads to such a state.
(09_safety_functions.md; R263, R265, R281, R282, R295) -/
def Obligations.AFaultedOutputStaysOpen : Prop :=
  let safe := fun s : State =>
    (∀ o : Fin 6, (vget s.sc.outs {} o).ocode ≠ 0 → (vget s.sc.outs {} o).hon = false ∧ (vget s.sc.outs {} o).lon = false) ∧
    (s.sc.reflost = true → ∀ o : Fin 6, (vget s.sc.outs {} o).hon = false) ∧
    (s.sc.sclost = true → ∀ o : Fin 6, (vget s.sc.outs {} o).lon = false)
  ∀ s t : State, safe s → step s = .next t → safe t

/-- DISCREPANCY_FAULT, TWOHAND_OPERATION, TWOHAND_HELD_FAULT, RESET_BUTTON_PRESS, PERMIT_DISAGREE_FAULT complete: when
each acts. (09_safety_functions.md; R272 to R276, R279, R283, R295) -/
def Obligations.SafetyFunctionsFaultResetAndOperate : Prop :=
  ∀ (f : Fin 16) (s : State),
    let c := s.sc
    let r := fnRec c.saf f
    let q := refFnRec c.refRec f
    let x := vget c.fns {} f
    let others := fun t : State => (∀ g : Fin 16, g ≠ f → vget t.sc.fns {} g = vget c.fns {} g) ∧ t.sc.slev = c.slev ∧
        t.sc.rlev = c.rlev
    let open' := fun t : State => ∀ o : Fin 6, bitOf (refOutMask c.refRec o) f = true → (vget t.sc.outs {} o).lon = false
    (let due := x.sc.st ≠ .unused ∧ x.sc.st ≠ .fault ∧ r.disc < x.sc.discMs
     let dueR := x.rf.st ≠ .unused ∧ x.rf.st ≠ .fault ∧ q.disc < x.rf.discMs
     (¬due → ¬dueR → exec (.discrepancyFault f) s = .next s) ∧
     (due ∨ dueR → ∃ t, exec (.discrepancyFault f) s = .next t ∧ others t ∧ t.sc.rell = c.rell ∧ t.sc.relr = c.relr ∧
       let x' := vget t.sc.fns {} f
       (¬due → x'.sc = x.sc ∧ x'.faults = x.faults) ∧ (¬dueR → x'.rf = x.rf ∧ t.sc.outs = c.outs) ∧
       (due → x'.sc.st = .fault ∧ x'.sc.code = (if r.typ = 2 then 4 else 1) ∧
         x'.faults = (if x.faults < 0xFFFF then x.faults + 1 else 0xFFFF) ∧ (t.lane .a).ln.host.attn.getLsbD 10 = true ∧
         (t.lane .b).ln.host.attn.getLsbD 10 = true) ∧
       (dueR → x'.rf.st = .fault ∧ x'.rf.code = (if q.typ = 2 then 4 else 1) ∧ open' t))) ∧
    (let l := r.levels c.slev
     let rise := fun (old : Option Nat) (high : Bool) => if high then some (old.getD c.time) else none
     let timed := s.modSc fun c => { c with fns := vmod c.fns f fun y =>
       { y with rise1 := rise x.rise1 l.1, rise2 := rise x.rise2 l.2 } }
     let old := ([rise x.rise1 l.1, rise x.rise2 l.2].any fun o => o.any fun t => decide (30000 < c.time - t)) = true
     let stuck := r.typ = 3 ∧ old ∧ x.sc.st ≠ .fault ∧ x.sc.st ≠ .unused
     let live := r.typ = 3 ∧ ¬old ∧ x.sc.st = .run
     let near := match rise x.rise1 l.1, rise x.rise2 l.2 with
       | some a, some b => decide (a - b ≤ r.synct ∧ b - a ≤ r.synct)
       | _, _ => false
     let sets := l.1 = true ∧ l.2 = true ∧ x.armed = true ∧ near = true ∧ c.zspd = true
     let seen := fun t : State => (vget t.sc.fns {} f).rise1 = rise x.rise1 l.1 ∧
       (vget t.sc.fns {} f).rise2 = rise x.rise2 l.2 ∧ (vget t.sc.fns {} f).rf = x.rf ∧ others t
     (¬stuck → ¬live → exec (.twohandOperation f) s = .next timed) ∧
     (stuck → ∃ t, exec (.twohandOperation f) s = .next t ∧ seen t ∧ t.sc.rell = c.rell ∧ t.sc.relr = c.relr ∧
       (vget t.sc.fns {} f).sc.st = .fault ∧ (vget t.sc.fns {} f).sc.code = 5 ∧ (vget t.sc.fns {} f).armed = x.armed) ∧
     (live → ∃ t, exec (.twohandOperation f) s = .next t ∧ seen t ∧ onlySc s t ∧ (vget t.sc.fns {} f).sc = x.sc ∧
       (vget t.sc.fns {} f).armed = (if l.1 || l.2 then x.armed && !(l.1 && l.2) else true) ∧
       t.sc.rell = (c.rell || (decide sets && r.target == 0)) ∧ t.sc.relr = (c.relr || (decide sets && r.target != 0)))) ∧
    (let held := r.typ = 3 ∧ x.sc.st ≠ .fault ∧ x.sc.st ≠ .unused ∧
       ([x.rise1, x.rise2].any fun o => o.any fun t => decide (30000 < c.time - t)) = true
     (¬held → exec (.twohandHeldFault f) s = .next s) ∧
     (held → ∃ t, exec (.twohandHeldFault f) s = .next t ∧ others t ∧ t.sc.rell = c.rell ∧ t.sc.relr = c.relr ∧
       (vget t.sc.fns {} f).sc.st = .fault ∧ (vget t.sc.fns {} f).sc.code = 5 ∧ (vget t.sc.fns {} f).rf = x.rf ∧
       (vget t.sc.fns {} f).faults = (if x.faults < 0xFFFF then x.faults + 1 else 0xFFFF) ∧
       (t.lane .a).ln.host.attn.getLsbD 10 = true)) ∧
    (let high := c.slev.getLsbD r.ch1
     let lasted := x.press.any fun p => decide (100 ≤ c.time - p ∧ c.time - p ≤ 3000)
     let acts := x.sc.st = .run ∧ high = false ∧ lasted = true
     (r.typ ≠ 7 → exec (.resetButtonPress f) s = .next s) ∧
     (r.typ = 7 → ∃ t, exec (.resetButtonPress f) s = .next t ∧ t.sc.slev = c.slev ∧ t.sc.rlev = c.rlev ∧
       t.sc.rell = c.rell ∧ t.sc.relr = c.relr ∧ t.sc.outs = c.outs ∧
       (bitOf r.rstmask f = false → (vget t.sc.fns {} f).press =
         if x.sc.st = .run then (if high then some (x.press.getD c.time) else none) else none) ∧
       ∀ g : Fin 16, g ≠ f →
         let y := vget c.fns {} g
         let y' := vget t.sc.fns {} g
         let z := fnRec c.saf g
         let w := refFnRec c.refRec g
         let can := z.demands (z.levels c.slev) = false ∧ y.sc.st = .rstwait
         let canR := w.demands (w.levels c.rlev) = false ∧ y.rf.st = .rstwait
         let gone := z.demands (z.levels c.slev) = false ∧ y.sc.st = .fault ∧
           y.sc.causeGone (z.levels c.slev) (z.allIn c.patOk) = true
         (¬(acts ∧ bitOf r.rstmask g = true) → y' = y) ∧ (y.sc.st ≠ .rstwait → y'.sc.st = y.sc.st) ∧
         (acts → bitOf r.rstmask g = true → (can → y'.sc.st = .run) ∧ (canR → y'.rf.st = .run) ∧
           (gone → y'.sc = { y.sc with resetSeen := true }) ∧ (¬can → ¬gone → y'.sc = y.sc)))) ∧
    (let due := r.typ ≠ 0 ∧ r.typ ≠ 3 ∧ r.disc + 100 < x.disagMs
     (¬due → exec (.permitDisagreeFault f) s = .next s) ∧
     (due → ∃ t, exec (.permitDisagreeFault f) s = .next t ∧ others t ∧ t.sc.rell = c.rell ∧ t.sc.relr = c.relr ∧ open' t ∧
       let x' := vget t.sc.fns {} f
       x'.sc.st = .fault ∧ x'.sc.code = 6 ∧ x'.rf.st = .fault ∧ x'.rf.code = 6))

/-- OUTPUT_TEST_PULSE, EDM_FAULT, OUTPUT_OVERCURRENT, VSOUT_LOW, VSOUT_RECOVER, ALIVE_LOSS, TEST_SLOT_LOSS,
SWITCH_TOGGLE_LOSS. (09_safety_functions.md; R263 to R265, R280 to R283, R295) -/
def Obligations.SafetyOutputsFaultAndTest : Prop :=
  ∀ s : State,
    let c := s.sc
    let out := fun (t : State) (o : Fin 6) => vget t.sc.outs {} o
    let others := fun (t : State) (o : Fin 6) => (∀ j : Fin 6, j ≠ o → out t j = out s j) ∧ t.sc.fns = c.fns
    let open' := fun (t : State) (o : Fin 6) (code : Nat) => let z := out t o
      z.ocode = code ∧ z.hon = false ∧ z.lon = false ∧ z.testing = none ∧ (t.lane .a).ln.host.attn.getLsbD 10 = true ∧
      (t.lane .b).ln.host.attn.getLsbD 10 = true ∧ (t.lane .a).ln.ledg.due = (s.lane .a).ln.ledg.due ++
        [.event 0x0302 (pack [(3, o), (5, 0), (4, code)]) s.tick (s.trainTime .a)]
    let lost := fun (t : State) (l : LaneId) => (t.lane l).ln.host.attn.getLsbD 10 = true ∧ (t.lane l).ln.ledg.due =
      (s.lane l).ln.ledg.due ++ [.event 0x0303 (maskOf [t.sc.sclost, t.sc.reflost]) s.tick (s.trainTime l)]
    let opens := fun (t : State) (high : Bool) => ∀ o : Fin 6,
      (out t o).hon = ((out s o).hon && !high) ∧ (out t o).lon = ((out s o).lon && high) ∧ (out t o).ocode = (out s o).ocode
    (∀ o : Fin 6,
      let z := out s o
      let edm := (outRec c.saf o).edmin
      let closed := z.hon = true ∧ z.lon = true ∧ z.ocode = 0
      (∀ rb : PulseReadback, ∃ t, exec (.outputTestPulse o rb) s = .next t ∧ others t o ∧ onlySc s t ∧
        let due := c.refrun = true ∧ (c.frame % 25 = 2 * o ∨ c.frame % 25 = 12 + 2 * o) ∧ z.slot ≠ some c.frame
        let puls := closed ∧ z.testing = none
        (¬due → t = s) ∧ (due → t.sc.slotMs = if z.nextHigh then 0 else c.slotMs) ∧
        (due → z.edmLeft ≠ none → out t o = { z with slot := some c.frame }) ∧
        (due → z.edmLeft = none → out t o = { z with
          slot := some c.frame
          nextHigh := !z.nextHigh
          testing := if puls then some { high := z.nextHigh, rb := rb } else z.testing })) ∧
      (∃ t, exec (.edmFault o) s = .next t ∧ others t o ∧
        let due := z.edmLeft = some 0 ∧ edm ≠ 0xFF ∧ c.slev.getLsbD edm = decide closed ∧ z.ocode = 0
        (¬due → t = s) ∧ (due → open' t o 5)) ∧
      (∀ milliamps : Nat, ∃ t, exec (.outputOvercurrent o milliamps) s = .next t ∧ others t o ∧
        (milliamps ≤ 700 ∨ z.ocode ≠ 0 → t = s) ∧ (700 < milliamps → z.ocode = 0 → open' t o 6)) ∧
      (∀ tech : Tech, ∃ t, exec (.switchToggleLoss tech o) s = .next t ∧ others t o ∧ onlySc s t ∧
        let hon := z.hon && tech != .safetyCore
        let lon := z.lon && tech != .referee
        let stands := hon && lon && z.ocode == 0
        let edmt := if edm = 0xFF then none else some (10 * (outRec c.saf o).edmt)
        out t o = { z with
          hon := hon
          lon := lon
          edmOn := stands
          edmLeft := if stands = z.edmOn then z.edmLeft else edmt })) ∧
    (∀ (low : Bool) (reading : Byte), ∃ t, exec (if low then .vsoutLow reading else .vsoutRecover reading) s = .next t ∧
      t.sc.vslow = decide (reading.toNat < 80 ∨ (c.vslow = true ∧ reading.toNat ≤ 85)) ∧ t.lines.vsout = reading.toNat ∧
      t.sc.fns = c.fns ∧ ∀ o : Fin 6,
        let z := out s o
        (t.sc.vslow = true → (outRec c.saf o).role = 0 ∨ z.ocode ≠ 0 → out t o = z) ∧
        (t.sc.vslow = true → (outRec c.saf o).role ≠ 0 → z.ocode = 0 →
          (out t o).ocode = 7 ∧ (out t o).hon = false ∧ (out t o).lon = false) ∧
        (t.sc.vslow = false → out t o = if z.ocode = 7 then { z with ocode := 0 } else z)) ∧
    (∃ t, exec (.aliveLoss .safetyCore) s = .next t ∧
      let due := c.scrun = true ∧ c.reflost = false
      (¬due → t = s) ∧ (due → t.sc.reflost = true ∧ t.sc.sclost = c.sclost ∧ opens t true ∧ lost t .a ∧ lost t .b)) ∧
    (∃ t, exec (.aliveLoss .referee) s = .next t ∧
      let due := c.refrun = true ∧ c.sclost = false
      (¬due → t = s) ∧ (due → t.sc.sclost = true ∧ t.sc.reflost = c.reflost ∧ opens t false ∧ lost t .a ∧ lost t .b)) ∧
    (∃ t, exec .testSlotLoss s = .next t ∧
      let due := 1000 ≤ c.slotMs ∧ c.scrun = true ∧ c.reflost = false
      (¬due → t = s) ∧ (due → t.sc.reflost = true ∧ opens t true ∧ lost t .a))

/-- CONFIRM, WITHDRAW, RESET, RELCLR, RECONN, SEAL_PLUG_READ: what each needs, changes and answers. (02_fraluys_stream.md,
09_safety_functions.md, 10_train_network.md; R79, R80, R82, R83, R85, R86, R95, R293, R313, R402; which of several
codes of R83 is given is the model's choice, log entry 22) -/
def Obligations.SafetyCommandsAreJudgedAndAnswered : Prop :=
  ∀ s : State,
    let c := s.sc
    let fold := foldOf c.chkv
    (∀ src : SafeSrc,
      let box := fun t : State => vget (t.lane (srcLane src)).keep.boxes {} (srcBox src + 1)
      let seq := (s.safeMsg src).seq
      let answer := fun (t : State) (code rc : Nat) => (box t).full = true ∧ (box t).len = 2 ∧
        vget (box t).body 0 0 = BitVec.ofNat 32 (code + 65536 * rc) ∧ vget (box t).body 0 1 = seq.setWidth 32
      let host := srcHost src = true
      (∀ chk plug : Word, ∃ t, exec (.confirm src chk plug) s = .next t ∧
        let ok := host ∧ c.sealSec.isSome = true ∧ s.sealed = false ∧ c.chkv = c.refChkv ∧ fold ≠ 0 ∧ fold ≠ 0xFFFF ∧
            chk = c.chkv ∧
          plug.setWidth 16 = fold ∧ s.lines.plugGood = true ∧ s.lines.plugLevel = fold
        (c.scrun = false → t = s) ∧ t.sc = c ∧
        (c.scrun = true → t.keep.plug = if s.lines.plugGood then s.lines.plugLevel else s.keep.plug) ∧
        (c.scrun = true → ok → s.keep.sealRec.count < 0xFFFF → answer t 0x31 0 ∧ t.sealed = true ∧
          let r := t.keep.sealRec
          r.chkv = c.chkv ∧ r.fold = fold ∧ r.epoch = (s.img s.ref.owner).epoch ∧ r.imgcrc = (s.img s.ref.owner).crc ∧
            r.time = s.lines.now ∧ r.count = s.keep.sealRec.count + 1 ∧ r.wdrawn = false) ∧
        (c.scrun = true → ¬ok → t.keep.sealRec = s.keep.sealRec ∧
          (¬host → answer t 0x31 0x109) ∧
          (host → (c.sealSec = none → answer t 0x31 0x106) ∧
            ([0x101, 0x102, 0x103, 0x104, 0x105, 0x106].any fun k =>
              (box t).full && (vget (box t).body 0 0) == BitVec.ofNat 32 (0x31 + 65536 * k)) = true))) ∧
      (∀ chk : Word, ∃ t, exec (.withdraw src chk) s = .next t ∧
        let ok := host ∧ s.sealed = true ∧ chk = c.chkv ∧ c.allLoops = true ∧ c.zspd = true
        (c.scrun = false → t = s) ∧ (c.scrun = true → ok → answer t 0x32 0 ∧ t.sealed = false ∧ t.sc.sealtr = false ∧
          t.keep.sealRec = { s.keep.sealRec with wdrawn := true }) ∧
        (c.scrun = true → ¬ok → t.sc = c ∧ t.keep.sealRec = s.keep.sealRec ∧
            answer t 0x32 (if host then 0x107 else 0x109))) ∧
      (∀ sides : Word, ∃ t, exec (.relclr src sides) s = .next t ∧ (c.scrun = false → t = s) ∧
        (c.scrun = true → answer t 0x42 0 ∧
          t.sc = { c with rell := c.rell && !sides.getLsbD 0, relr := c.relr && !sides.getLsbD 1 })) ∧
      (∀ sel : Word, ∃ t, exec (.safeReset src sel) s = .next t ∧ (c.scrun = false → t = s) ∧ onlySc s t ∧
        (c.scrun = true → t.sc = { c with cmds := c.cmds ++ [{ src := src, code := 0x41, seq := seq, words := [sel,
            0] }] })) ∧
      (∀ lo hi : Word, ∃ t, exec (.reconn src lo hi) s = .next t ∧ (c.scrun = false → t = s) ∧ onlySc s t ∧
        (c.scrun = true → t.sc = { c with cmds := c.cmds ++ [{ src := src, code := 0x43, seq := seq, words := [lo,
            hi] }] }))) ∧
    (∀ (src : SafeSrc) (rb : Readback) (seq : BitVec 16) (w1 w2 : Word) (conn : Bool),
      let code := if conn then 0x43 else 0x41
      let s₀ := s.modSc fun c => { c with cmds := [{ src := src, code := code, seq := seq, words := [w1, w2] }] }
      c.scrun = true → (safeSources.all fun q => !(s.safeMsg q).full) = true → ∃ t, exec (.safetyScan rb) s₀ = .next t ∧
        let b := vget (t.lane (srcLane src)).keep.boxes {} (srcBox src + 1)
        let said := fun rc : Nat => b.full = true ∧ b.len = 2 ∧ vget b.body 0 0 = BitVec.ofNat 32 (code + 65536 * rc) ∧
          vget b.body 0 1 = seq.setWidth 32
        t.sc.cmds = [] ∧ (conn = true → said 0 ∨ said 0x10B) ∧ (conn = false → said 0 ∨ said 0x108) ∧
        (conn = true → said 0 → ∀ k : Fin 64, (if k.val < 32 then bitOf w1.toNat k else bitOf w2.toNat (k - 32)) = true →
          (t.sc.conn k).st ≠ .ackwait) ∧
        (conn = false → said 0 → ∀ f : Fin 16, w1.getLsbD f = true → (vget t.sc.fns {} f).sc.st ≠ .rstwait)) ∧
    (∀ s0 s1 s2 : BitVec 16, ∃ t, exec (.sealPlugRead s0 s1 s2) s = .next t ∧
      let good := s0 = s1 ∧ s1 = s2
      let new := good ∧ s2 ≠ s.keep.plug
      let runs := s.laneA.running || s.laneB.running
      t.lines = { s.lines with plugLevel := s2, plugGood := decide good } ∧ t.sc = c ∧
      (¬new → onlyLines s t) ∧ (new → t.keep = { s.keep with plug := s2 }) ∧
      (new → runs = true → ∀ l : LaneId, (t.lane l).mr = { (s.lane l).mr with plugchg := true } ∧
        (t.lane l).ln.host.attn = (s.lane l).ln.host.attn ||| 0x8 ∧
        (t.lane l).ln.ledg.due = (s.lane l).ln.ledg.due ++ [.event 0x0101 s2.toNat s.tick (s.trainTime l)]) ∧
      (new → runs = false → t.laneA = s.laneA ∧ t.laneB = s.laneB))

/-- LOAD and STREAM_AUTOLOAD: when a load begins, the error of its first failing step, and the shadow structure of a good
image. (02_fraluys_stream.md; R55, R66 to R71, R75 to R79, R91, R95, R453) -/
def Obligations.AFullLoadIsCheckedAndBuiltInShadow : Prop :=
  ∀ (l : LaneId) (s : State),
    let x := s.lane l
    let judged := fun (bs : List Byte) (refErr : LineErr) (code₀ : Nat) (t : State) =>
      let z := (t.lane l).ln.strm
      let head := bs.take 4 = [0x46, 0x52, 0x4C, 0x59] ∧ le16 bs 6 = 64 ∧ (crc32c (bs.take 60)).toNat = le32 bs 60
      let epoch := le16 bs 4 = 1 ∨ le16 bs 4 = 2
      let tot := 80 ≤ le32 bs 8 ∧ le32 bs 8 ≤ 524288 ∧ le32 bs 8 % 4 = 0
      let rest := if x.running then StrmState.running else .rejected
      let ends := fun code : Nat => z.code = code ∧ z.done = true ∧ z.st = rest ∧ z.shadow = none ∧ z.built = false ∧
        t.port.busyLoad = false ∧ (t.lane l).ln.host.attn.getLsbD 3 = true
      (¬head → ends 1) ∧ (head → ¬epoch → ends 2) ∧ (head → epoch → ¬tot → ends 3 ∧ z.lenerr = true) ∧
      (∀ e ∈ (match checkImage s.part none bs with
          | .error e => some e
          | .ok _ => none), ends e.code ∧ z.sect = e.sect ∧ z.typ = e.typ ∧ z.off = e.off) ∧
      (∀ p ∈ (checkImage s.part none bs).toOption,
          let j := p.1
          let format := (x.st.run.any fun i => i.ledFormat != j.ledFormat && x.ln.ledg.upseq != x.ln.ledg.nextseq) = true
          let other := s.sealed = true ∧ j.chkv ≠ s.keep.sealRec.chkv
          let plug := s.sealed = true ∧ ¬(s.lines.plugGood = true ∧ s.lines.plugLevel = foldOf j.chkv)
          let differ := crc32c (applyErr j.sealedBytes refErr) ≠ j.chkv
          let changed := s.lines.plugGood = true ∧ s.lines.plugLevel ≠ s.keep.plug
          t.keep = { s.keep with plug := if s.lines.plugGood then s.lines.plugLevel else s.keep.plug } ∧
          (changed → s.laneA.running = true ∨ s.laneB.running = true → ∀ k : LaneId, (t.lane k).mr.plugchg = true) ∧
          (format → ends 0x0E) ∧ (¬format → differ → ends 0x0A) ∧ (¬format → ¬differ → other → ends 0x0B) ∧
          (¬format → ¬differ → ¬other → plug → ends 0x0C) ∧
          (¬format → ¬differ → ¬other → ¬plug → z.st = .building ∧ z.code = code₀ ∧ z.shadow = some j ∧ z.built = true ∧
              t.port.busyLoad = true ∧
            (l.other ∈ s.reached l → (t.lane l.other).ln.strm.shadow = some j ∧ (t.lane l.other).ln.strm.st = .building)))
    let kept := fun t : State => t.sc = s.sc ∧ t.pd = s.pd ∧ ∀ k : LaneId, (t.lane k).st = (s.lane k).st ∧
      (∀ n : Fin 24, (s.lane k).img.ringen ((s.lane k).acfg n).ring = true → (t.lane k).axis n = (s.lane k).axis n) ∧
      (t.lane k).ln.dways = (s.lane k).ln.dways ∧ (t.lane k).keep = (s.lane k).keep
    let isLive := x.ln.strm.st = .liveStaging ∨ x.ln.strm.st = .liveReady
    (∀ (store : Bool) (refErr : LineErr), ∃ t, exec (.load l store refErr) s = .next t ∧ kept t ∧
      let free := s.port.busyLoad = false ∧ s.owns l = true
      let may := x.running = false ∨ (x.ln.rpt.rep.zspd = true ∧
          (x.img.doorways.all fun d => (x.dway d).cur.st == .locked) = true)
      (¬free → t = s) ∧
      (free → (t.lane l).mr.store = store) ∧
      (free → ¬may → (t.lane l).ln.strm.code = (if isLive then 0x10 else 0x0E) ∧ (t.lane l).ln.strm.done = true ∧
          t.port = s.port ∧
        (t.lane l).ln.host.attn.getLsbD 3 = true) ∧
      (free → may → judged (Memory.read x.keep.mem stagingBase 524288) refErr (if isLive then 0x10 else 0) t)) ∧
    (∀ refErr : LineErr, s.ref.owner = l → ∃ t, exec (.streamAutoload refErr) s = .next t ∧ kept t ∧
      let k := s.keep
      let best := if k.slot1.valid && (!k.slot0.valid || k.slot0.seq ≤ k.slot1.seq) then some k.slot1
        else if k.slot0.valid then some k.slot0 else none
      let starts := s.ref.token = true ∧ x.ln.on = true ∧ x.ln.strm.st = .empty ∧ x.running = false ∧
          s.port.busyLoad = false ∧
        (best.any fun q => bitOf (le16 q.bytes 14) 1) = true
      (¬starts → t = s) ∧ (starts → ∀ q ∈ best, judged q.bytes refErr x.ln.strm.code t))

/-- STREAM_ACTIVATE and CONFIG_STORE_WRITE: the shadow replaces what runs, the load ends with its rings, and the store
slot written. (02_fraluys_stream.md, 09_safety_functions.md, 14_load_channels.md; R66, R68 step 14, R71, R72, R90,
R92, R286, R430) -/
def Obligations.AStreamTakesEffectAndIsStored : Prop :=
  ∀ (l : LaneId) (s : State),
    (∃ t, exec (.streamActivate l) s = .next t ∧
      let x := s.lane l
      let y := t.lane l
      let rest := (List.range 4).all fun r => (x.ring r).svc.isEmpty && !((x.ring r).ahead && (x.ring r).st == .bringUp)
      let ready := s.owns l = true ∧ x.ln.strm.st = .building ∧ x.ln.strm.built = true ∧ rest = true ∧
          x.ln.strm.shadow.isSome = true
      let up := fun z : Lane => (List.range 4).all fun r => (z.ring r).st != .bringUp
      let waits := s.owns l = true ∧ x.ln.strm.st = .building ∧ x.ln.strm.built = false ∧ x.running = true
      (s.owns l = false ∨ x.ln.strm.st ≠ .building → t = s) ∧ (waits → up x = false → t = s) ∧
      (ready → ∀ k : LaneId, ∀ j ∈ (s.lane k).ln.strm.shadow,
        (t.lane k).st.run = some j ∧ (t.lane k).st.livecnt = 0 ∧ (t.lane k).ln.strm.shadow = none ∧
        (∀ n : Fin 24, ((t.lane k).acfg n).defd = (j.axisRec n).isSome) ∧
        (∀ d : Fin 12, (((s.lane k).ln.strm.partImg.getD j).carries 10 = true → (t.lane k).dcfg d = dwayCfgOf j d))) ∧
      (ready → ∀ j ∈ x.ln.strm.shadow,
        (s.sc.sealSec.isSome = true → j.chkv = s.sc.chkv → t.sc = s.sc) ∧
        (s.sc.sealSec = none ∨ j.chkv ≠ s.sc.chkv → t.sc.sealSec = some (j.sec 0x10, j.sec 0x11) ∧ t.sc.chkv = j.chkv ∧
          t.sc.refChkv = j.chkv ∧ (∀ o : Fin 6, (vget t.sc.outs {} o).hon = false ∧ (vget t.sc.outs {} o).lon = false) ∧
          ∀ f : Fin 16, (vget t.sc.fns {} f).sc.st = if (fnRec (j.sec 0x10) f).typ = 0 then .unused else .start)) ∧
      ((ready ∧ up y = true) ∨ (waits ∧ up x = true) →
        y.ln.strm.st = .running ∧ y.ln.strm.done = true ∧ y.ln.strm.storeDue = y.mr.store ∧ t.port.busyLoad = false ∧
        y.ln.host.attn.getLsbD 3 = true) ∧
      (ready → up y = false → y.ln.strm.st = .building ∧ t.port = s.port)) ∧
    (∀ good : Bool, ∃ t, exec (.configStoreWrite l good) s = .next t ∧
      let k := s.keep
      let first := k.slot0.valid = false ∨ (k.slot1.valid = true ∧ k.slot0.seq < k.slot1.seq)
      let old := if first then k.slot1 else k.slot0
      let bs := (s.img l).bytes
      let due := (s.lane l).ln.strm.storeDue = true
      (t.lane l).st = (s.lane l).st ∧ (t.lane l).keep = (s.lane l).keep ∧ (¬due → t = s) ∧
      (due → (t.lane l).ln.strm.storeDue = false ∧ (if first then t.keep.slot1 else t.keep.slot0) = old ∧
        (if first then t.keep.slot0 else t.keep.slot1) =
          { bytes := bs, crc := crc32c bs, seq := (if old.valid then old.seq else 0) + 1, valid := good }) ∧
      (due → good = true → (t.lane l).mr.stored = true ∧ (t.lane l).ln.strm.code = (s.lane l).ln.strm.code) ∧
      (due → good = false → (t.lane l).ln.strm.code = 0x11 ∧ (t.lane l).mr = (s.lane l).mr))

/-- LIVE, SHADOW_BUILD, LIVE_COMMIT, LIVE_TIMEOUT, ABORT: what a live re-stream needs, and that it commits or is discarded
whole. (02_fraluys_stream.md; R75, R87 to R92, R249, R342, R453) -/
def Obligations.ALiveRestreamCommitsWholeOrNotAtAll : Prop :=
  ∀ (l : LaneId) (s : State),
    let x := s.lane l
    let z := x.ln.strm
    let isLive := fun k : LaneId => (s.lane k).ln.strm.st = .liveStaging ∨ (s.lane k).ln.strm.st = .liveReady
    let runsOn := fun t : State => ∀ k : LaneId, (t.lane k).st = (s.lane k).st ∧ (t.lane k).keep = (s.lane k).keep ∧
      (∀ n : Fin 24, (s.lane k).img.ringen ((s.lane k).acfg n).ring = true → (t.lane k).axis n = (s.lane k).axis n) ∧
      (t.lane k).ln.dways = (s.lane k).ln.dways
    let discards := fun (t : State) (code : Nat) => runsOn t ∧ ∀ k : LaneId,
      let y := (t.lane k).ln.strm
      (isLive k → y.st = .running ∧ y.shadow = none ∧ y.partImg = none ∧ y.built = false ∧ y.code = code ∧
          y.liveend = true ∧
        (t.lane k).ln.host.attn.getLsbD 3 = true) ∧
      (¬isLive k → t.lane k = s.lane k)
    (∃ t, exec (.live l) s = .next t ∧ runsOn t ∧
      let y := (t.lane l).ln.strm
      let free := s.port.busyLoad = false ∧ s.owns l = true
      let ends := fun code : Nat => y.code = code ∧ y.liveend = true ∧ y.st = z.st ∧ y.shadow = z.shadow ∧
        (t.lane l).ln.host.attn.getLsbD 3 = true
      (¬free → t = s) ∧ (free → isLive l → y = { z with code := 0x0E, sect := 0, typ := 0, off := 0 }) ∧
      (free → ¬isLive l → x.st.run = none → ends 0x0E) ∧
      (free → ¬isLive l → ∀ i ∈ x.st.run,
        let c := checkImage s.part (some i) (Memory.read x.keep.mem stagingBase 524288)
        (∀ e ∈ (match c with
          | .error e => some e
          | .ok _ => none), ends e.code ∧ y.sect = e.sect ∧ y.typ = e.typ ∧ y.off = e.off) ∧
        (∀ r ∈ c.toOption,
          let p := r.1
          let m := r.2
          let format := i.ledFormat ≠ m.ledFormat ∧ x.ln.ledg.upseq ≠ x.ln.ledg.nextseq
          (format → ends 0x0E) ∧
          (¬format → m = i.merge p ∧ ∀ k : LaneId, k ∈ s.reached l → (s.lane k).running = true →
            let w := (t.lane k).ln.strm
            w.st = .liveStaging ∧ w.shadow = some m ∧ w.partImg = some p ∧ w.built = false ∧ w.liveFrom = s.lines.now)))) ∧
    (∀ idle : Bool, ∃ t, exec (.shadowBuild l idle) s = .next t ∧ onlyLN l s t ∧
      let due := idle = true ∧ z.st = .liveStaging ∧
        ((List.range 4).all fun r => (x.ring r).svc.isEmpty && !((x.ring r).ahead && (x.ring r).st == .bringUp)) = true
      (¬due → t = s) ∧ (due → (t.lane l).ln = { x.ln with strm := { z with st := .liveReady, built := true } })) ∧
    (∃ t, exec .liveCommit s = .next t ∧
      let o := s.ref.owner
      let u := s.lane o
      let v := s.lane o.other
      let rest := (List.range 24).all fun n => !u.hasAxis n ||
        ((u.axis n).cur.prof.phase == .idle && (u.axis n).cur.hall.still)
      let due := s.ref.token = true ∧ u.ln.strm.st = .liveReady ∧ u.ln.rpt.rep.zspd = true ∧
        (u.img.doorways.all fun d => (u.dway d).cur.st == .locked) = true ∧ rest = true ∧ 80 ≤ u.ln.rpt.same ∧
        ¬(v.ln.strm.st = .liveStaging ∧ v.ln.role = .sync)
      (¬due → t = s) ∧ (due → u.ln.strm.shadow = none → t = s) ∧
      (due → ∀ j ∈ u.ln.strm.shadow,
        let format := u.running = true ∧ u.img.ledFormat ≠ j.ledFormat ∧ u.ln.ledg.upseq ≠ u.ln.ledg.nextseq
        (format → discards t 0x0E) ∧
        (¬format → isLive o.other → v.ln.role ≠ .sync → (t.lane o.other).st = v.st ∧ (t.lane o.other).ln.axes = v.ln.axes ∧
          (t.lane o.other).ln.strm.st = .running ∧ (t.lane o.other).ln.strm.shadow = none) ∧
        (¬format → ∀ k : LaneId, isLive k → (k = o ∨ v.ln.role = .sync) → ∀ m ∈ (s.lane k).ln.strm.shadow,
          let w := t.lane k
          w.st.run = some m ∧ w.ln.strm.st = .running ∧ w.ln.strm.liveend = true ∧ w.ln.strm.shadow = none ∧
          w.st.livecnt = (if (s.lane k).st.livecnt < 0xFFFF then (s.lane k).st.livecnt + 1 else 0xFFFF) ∧
          w.ln.host.attn.getLsbD 3 = true))) ∧
    (∃ t, exec (.liveTimeout l) s = .next t ∧
      let due := s.owns l = true ∧ isLive l ∧ x.mr.liveto * 100000000 ≤ (s.lines.now - z.liveFrom).toNat
      (¬due → t = s) ∧ (due → discards t 0x0F)) ∧
    (∃ t, exec (.abort l) s = .next t ∧
      let due := s.port.busyLoad = false ∧ s.owns l = true
      (¬due → t = s) ∧ (due → discards t 0x10))

/-- SAFE_FRAME_PRODUCE, SAFE_FRAME_CHECK, CONN_WATCHDOG: the frame that is built, the seven checks in order, and INVALID
with its cause. (10_train_network.md; R303 to R305, R309 to R312, R319) -/
def Obligations.SafeFramesAreProducedCheckedAndWatched : Prop :=
  ∀ (k : Fin 64) (s : State),
    let c := s.sc
    let r := connRec c.saf k
    let x := c.conn k
    let live := x.st = .valid ∨ x.st = .ackwait
    let others := fun t : State => ∀ j : Fin 64, j ≠ k → t.sc.conn j = c.conn j
    let invalid := fun (t : State) (code : Nat) => (t.sc.conn k).st = .invalid ∧ (t.sc.conn k).code = code ∧
      (t.sc.conn k).permit = false ∧ (t.sc.conn k).payload = [] ∧
      (x.st = .invalid → (t.sc.conn k).invcnt = x.invcnt ∧ t.laneA = s.laneA ∧ t.laneB = s.laneB) ∧
      (x.st ≠ .invalid → (t.sc.conn k).invcnt = (if x.invcnt < 0xFF then x.invcnt + 1 else 0xFF) ∧
        ∀ l : LaneId, (t.lane l).ln.host.attn.getLsbD 11 = true ∧ (t.lane l).ln.ledg.due =
          (s.lane l).ln.ledg.due ++ [.event 0x0401 (pack [(6, k), (2, 0), (4, code)]) s.tick (s.trainTime l)])
    (∃ t, exec (.safeFrameProduce k) s = .next t ∧ others t ∧
      let due := c.scrun = true ∧ x.st = .producing ∧ (x.started = false ∨ r.period ≤ x.wdMs)
      let x' := t.sc.conn k
      (¬due → t = s) ∧
      (due → x' = { x with seq := x.seq + 1, started := true, wdMs := 0 } ∧ ∀ l : LaneId,
        let q := (s.lane l).ln.net.queue
        let n' := (t.lane l).ln.net
        n'.queue.length = (if 64 ≤ q.length then q.length else q.length + 1) ∧
        n'.qdrop = let v := (s.lane l).ln.net.qdrop
          if 64 ≤ q.length then (if v < 0xFFFF then v + 1 else 0xFFFF) else v) ∧
      (due → ∀ e ∈ (t.lane .a).ln.net.queue.getLast?,
        let f := e.2
        e.1 = k.val ∧ le32 f 0 = r.cid.toNat ∧ le32 f 4 = (x.seq + 1).toNat ∧ bitOf (le16 f 14) 1 = !x.started ∧
        bitOf (le16 f 14) 0 = (if r.permf = 0x10 then c.allLoops else c.sperm r.permf) ∧
        (16 ≤ r.plen → r.plen < 256 → f.length = 20 + r.plen ∧ le16 f 12 = r.plen ∧
          le32 f (16 + r.plen) = (crc32From r.cid (f.take (16 + r.plen))).toNat ∧
          le16 f 16 = c.rep.sperm.toNat ∧ byteAt f 18 = c.rep.outon.toNat))) ∧
    (∀ f : List Byte, ∃ t, exec (.safeFrameCheck k f) s = .next t ∧ others t ∧ t.sc.fns = c.fns ∧ t.sc.outs = c.outs ∧
      let x' := t.sc.conn k
      let n := 20 + r.plen
      let crc := fun seed : Word => n ≤ f.length && (crc32From seed (f.take (16 + r.plen))).toNat == le32 f (16 + r.plen)
      let cid := le32 f 0
      let age := sgn 32 ((s.safeTime + 2 ^ 32 - le32 f 8) % 2 ^ 32)
      let d := (le32 f 4 + 2 ^ 32 - x.seq.toNat) % 2 ^ 32
      let isLive := x.st == .valid || x.st == .ackwait
      let step := (([(decide (le16 f 12 ≠ r.plen ∨ (f.length ≠ n ∧ f.length ≠ canLen n)), 1), (!crc r.cid, 2),
        (decide (cid ≠ r.cid.toNat), 3), (isLive && bitOf (le16 f 14) 1, 4),
        (r.agemax != 0 && !(bitOf (le16 f 14) 2 && s.safeSynced), 5),
        (r.agemax != 0 && decide (age < -2000 ∨ (r.agemax : Int) * 100000 < age), 6),
        ((isLive || x.origin) && decide (d = 0 ∨ r.seqwin < d),
            7)] : List (Bool × Nat)).find? Prod.fst).map Prod.snd |>.getD 0
      let taken : Conn := { x with
        seq := BitVec.ofNat 32 (le32 f 4), permit := bitOf (le16 f 14) 0, payload := slice f 16 (le16 f 12), wdMs := 0,
            wdNew := true }
      let up := fun v : Nat => if v < 0xFF then v + 1 else 0xFF
      let dup := decide (d = 0 ∨ 2 ^ 31 ≤ d)
      let judged := c.scrun = true ∧ x.st ≠ .unused ∧ x.st ≠ .producing
      let foreign := decide (cid ≠ r.cid.toNat) && crc (BitVec.ofNat 32 cid)
      (¬judged → x' = x) ∧
      (judged → step = 0 → live → x' = taken) ∧
      (judged → step = 0 → ¬live → x.origin = false → x' = { taken with origin := true, rcnt := 0 }) ∧
      (judged → step = 0 → ¬live → x.origin = true → x' = { taken with
        rcnt := x.rcnt + 1
        code := if x.rcnt + 1 < r.reint then x.code else 0
        st := if x.rcnt + 1 < r.reint then x.st else if r.manual then .ackwait else .valid }) ∧
      (judged → step = 1 → x' = { x with ageerr := up x.ageerr, rcnt := 0 }) ∧
      (judged → step = 2 → foreign = true → invalid t 6) ∧
      (judged → step = 2 → foreign = false →
        let times := c.time :: x.crcTimes.filter fun t => decide (c.time < t + 1000)
        x'.crcerr = up x.crcerr ∧ (¬(live ∧ 8 < times.length) →
            x' = { x with crcerr := up x.crcerr, crcTimes := times, rcnt := 0 }) ∧
        (live → 8 < times.length → invalid t 2)) ∧
      (judged → ¬live → step = 3 ∨ step = 5 ∨ step = 6 → x' = { x with ageerr := up x.ageerr, rcnt := 0 }) ∧
      (judged → live → (step = 3 → invalid t 6) ∧ (step = 5 → invalid t 5) ∧ (step = 6 → invalid t 4)) ∧
      (judged → step = 4 → x'.st = .invalid ∧ x'.code = 7 ∧ x'.origin = true ∧ x'.seq = taken.seq ∧ x'.permit = false ∧
        x'.payload = [] ∧ x'.invcnt = up x.invcnt) ∧
      (judged → step = 7 → dup = true → x' = { x with dup := up x.dup }) ∧
      (judged → step = 7 → dup = false → live → invalid t 3) ∧
      (judged → step = 7 → dup = false → ¬live → x' = { taken with rcnt := 0, origin := true })) ∧
    (∃ t, exec (.connWatchdog k) s = .next t ∧ others t ∧
      let due := live ∧ r.wdto ≤ x.wdMs
      (¬due → t = s) ∧ (due → invalid t 1))

/-- ETH_FRAME_RECEIVE, ARP_REQUEST, ARP_EXPIRY, ICMP_ECHO, TUNNEL_REQUEST: what is answered, delivered, discarded and
counted. (10_train_network.md; R298 to R300, R305, R306, R317, R319; addresses are not filtered and a frame is at most
1518 bytes, by the model's log) -/
def Obligations.InterfacesAnswerDeliverOrDiscard : Prop :=
  ∀ (l : LaneId) (e : Fin 2) (s : State),
    let i := s.img l
    let on := s.owns l = true ∧ bitOf i.ifen e = true
    let n := (s.lane l).ln.net
    let kept := fun t : State => (t.lane l).ln.axes = (s.lane l).ln.axes ∧ (t.lane l).ln.dways = (s.lane l).ln.dways ∧
      (t.lane l).st = (s.lane l).st ∧ (t.lane l).keep.mem = (s.lane l).keep.mem ∧ t.sc.fns = s.sc.fns ∧
          t.sc.outs = s.sc.outs
    let drops := fun t : State => t = s.modNet l fun n => n.modEth e fun y => { y with rxdisc := min 0xFF (y.rxdisc + 1) }
    let sent := fun (t : State) (f : List Byte) => (t.lane l).ln.net.tx = n.tx ++ [(e.val, f)]
    let arpReply := fun (t : State) (p : List Byte) =>
      t = s.send l e (ethFrame i e (i.pcp e) (slice p 8 6) 0x0806
        (toBE 2 1 ++ toBE 2 0x0800 ++ [6, 4] ++ toBE 2 2 ++ i.mac e ++ toBE 4 (i.ipaddr e) ++ slice p 8 6 ++ slice p 14 4))
    let arpGood := fun p : List Byte => 28 ≤ p.length ∧ slice p 0 6 = [0, 1, 8, 0, 6, 4] ∧ ofBE (slice p 24 4) = i.ipaddr e
    let ipGood := fun p : List Byte => 20 ≤ p.length ∧ byteAt p 0 = 0x45 ∧ 20 ≤ ofBE (slice p 2 2) ∧
        ofBE (slice p 2 2) ≤ p.length ∧
      ofBE (slice p 6 2) % 16384 = 0 ∧ ones16 (p.take 20) = 65535 ∧ ipForUs i (ofBE (slice p 16 4)) = true ∧ byteAt p 9 ≠ 6
    let body := fun p : List Byte => slice p 20 (ofBE (slice p 2 2) - 20)
    let echo := fun b : List Byte => byteAt b 0 = 8 ∧ byteAt b 1 = 0 ∧ 8 ≤ b.length ∧ b.length ≤ 1480 ∧ ones16 b = 65535
    let echoed := fun (t : State) (mac p : List Byte) => onlyLN l s t ∧
      let b := 0 :: 0 :: toBE 2 (inetSum ([0, 0, 0, 0] ++ (body p).drop 4)) ++ (body p).drop 4
      let dst := ofBE (slice p 16 4)
      sent t (ethFrame i e (i.pcp e) mac 0x0800
        (ipDatagram i e s.tick 1 (if isMulticast dst then i.ipaddr e else dst) (ofBE (slice p 12 4)) b))
    (∀ (f : List Byte) (rx : Nat), n.eths.toList.all (fun y => y.rxdisc ≤ 0xFF) = true →
        ∃ t, exec (.ethFrameReceive l e f rx) s = .next t ∧ kept t ∧
      let bad := f.length < 14 ∨ 1518 < f.length ∨ untag i e f = none
      (¬on → t = s) ∧ (on → bad → drops t) ∧
      (on → ¬bad → ∀ u ∈ untag i e f,
        let p := u.2
        (u.1 ≠ 0x0806 → u.1 ≠ 0x0800 → ¬(u.1 = 0x88F7 ∧ i.ptpOver 2 e = true) → t = s) ∧
        (u.1 = 0x0806 → ¬arpGood p → t = s) ∧ (u.1 = 0x0806 → arpGood p → ofBE (slice p 6 2) = 1 → arpReply t p) ∧
        (u.1 = 0x0806 → arpGood p → ofBE (slice p 6 2) = 2 →
          let ip := ofBE (slice p 14 4)
          let cache := (vget (t.lane l).ln.net.eths {} e).arp
          let static := (List.range 16).any fun j => i.sarpIp j == ip
          (static = true → t = s) ∧ (static = false → onlyLN l s t ∧ (t.lane l).ln.net.tx = n.tx ∧
            cache.getLast? = some (BitVec.ofNat 32 ip, slice p 8 6, s.lines.now.toNat + 30000000000) ∧
            cache.length ≤ max 64 (vget n.eths {} e).arp.length)) ∧
        (u.1 = 0x0800 → ¬ipGood p → drops t) ∧
        (u.1 = 0x0800 → ipGood p → byteAt p 9 = 1 → (echo (body p) → echoed t (slice f 6 6) p) ∧ (¬echo (body p) → t = s)) ∧
        (u.1 = 0x0800 → ipGood p → byteAt p 9 ≠ 1 → byteAt p 9 ≠ 17 → t = s) ∧
        (u.1 = 0x0800 → ipGood p → byteAt p 9 = 17 →
          let src := ofBE (slice p 12 4)
          let b := body p
          let len := ofBE (slice b 4 2)
          let pseudo := slice p 12 4 ++ slice p 16 4 ++ [0, 17] ++ toBE 2 len
          let good := 8 ≤ b.length ∧ 8 ≤ len ∧ len ≤ b.length ∧
            (ofBE (slice b 6 2) = 0 ∨ ones16 (pseudo ++ b.take len) = 65535)
          let port := ofBE (slice b 2 2)
          let hit := (List.range (safeNconn s.sc.saf)).filter fun k => !(connRec s.sc.saf k).produce && (i.trPort k == port &&
            (i.trIp k == 0 || i.trIp k == src))
          (¬good → drops t) ∧
          (good → t.sc = { s.sc with inbox := s.sc.inbox ++ hit.map fun k => (k, slice b 8 (len - 8)) } ∧
            ((i.tunEn = false ∨ port ≠ i.tunPort) → ¬(i.ptpOver 1 e = true ∧ (port = 319 ∨ port = 320)) →
              (t.lane l).ln.net = { n with rx := n.rx ++ [(e.val, b)] })))) ) ∧
    (∀ f : List Byte, ∃ t, exec (.arpRequest l e f) s = .next t ∧
      let carries := on ∧ (untag i e f).any (fun u => u.1 == 0x0806 && ofBE (slice u.2 6 2) == 1) = true
      (¬carries → t = s) ∧ (carries → ∀ u ∈ untag i e f, (arpGood u.2 → arpReply t u.2) ∧ (¬arpGood u.2 → t = s))) ∧
    (∀ f : List Byte, n.eths.toList.all (fun y => y.rxdisc ≤ 0xFF) = true → ∃ t, exec (.icmpEcho l e f) s = .next t ∧
      let carries := on ∧ (untag i e f).any (fun u => u.1 == 0x0800 && byteAt u.2 9 == 1) = true
      (¬carries → t = s) ∧ (carries → ∀ u ∈ untag i e f, (¬ipGood u.2 → drops t) ∧
        (ipGood u.2 → echo (body u.2) → echoed t (slice f 6 6) u.2) ∧ (ipGood u.2 → ¬echo (body u.2) → t = s))) ∧
    (∀ ip : Word, ∃ t, exec (.arpExpiry l e ip) s = .next t ∧ onlyLN l s t ∧ t = s.modNet l fun n => n.modEth e fun y =>
      { y with arp := y.arp.filter fun a => !(a.1 == ip && decide (a.2.2 ≤ s.lines.now.toNat)) }) ∧
    (∀ (ip : Word) (d : List Byte), ∃ t, exec (.tunnelRequest l e ip d) s = .next t ∧ kept t ∧
      let takes := on ∧ i.tunEn = true ∧ bitOf i.tunIfs e = true
      let good := ((List.range 4).any fun k => i.tunSrc k == ip.toNat && ip != 0) = true ∧ d.length = 12 + 4 * byteAt d 3 ∧
        slice d 0 2 = [0x54, 0x55] ∧ le32 d (d.length - 4) = (crc32c (d.take (d.length - 4))).toNat
      (¬takes → t = s) ∧
      (takes → ¬good → (t.lane l).ln.net = { n with tundrop := if n.tundrop < 0xFFFF then n.tundrop + 1 else 0xFFFF } ∧
        onlyLN l s t) ∧
      (takes → good → (t.lane l).ln.net.tundrop = n.tundrop ∧ (t.lane l).ln.net.tx.length = n.tx.length + 1 ∧
        (t.lane l).ln.net.tunreq = if n.tunreq < 0xFFFF then n.tunreq + 1 else 0xFFFF))

/-- PTP_SYNC, PTP_SYNC_LOSS, CAN_FRAME_RECEIVE, CAN_BUS_OFF, CAN_BUSOFF_RECOVERY: train time, safe frames on CAN, and the
counts. (10_train_network.md; R301, R302, R307, R319; Config.ptpRate and Config.ptpTx are free; a bus-off sets TEC to
FFh by the model's log) -/
def Obligations.TrainTimeLocksAndCanRecovers : Prop :=
  ∀ (l : LaneId) (e : Fin 2) (s : State),
    let i := s.img l
    let n := (s.lane l).ln.net
    let up := fun v : Nat => if v < 0xFF then v + 1 else 0xFF
    let cut := fun (b x : Int) => if x < -b then -b else if b < x then b else x
    let paired := fun (t : State) (t1 t2 : Int) =>
      let n' := (t.lane l).ln.net
      let off := sgn 64 (enc 64 (t2 + (n.tofs.toNat : Int) - t1 - n.ptp.delay))
      let close := -100 ≤ off ∧ off ≤ 100
      n'.rate = cut 10000 (Config.ptpRate off n.rate) ∧ n'.ptp.delay = n.ptp.delay ∧ n'.ptp.pair = some (t1, t2) ∧
      n'.ptp.req.isSome = true ∧ n'.tx.length = n.tx.length + 1 ∧ onlyLN l s t ∧
      (n.fresh = true → n'.tsync = 1 ∧ n'.fresh = false ∧ n'.ofs = 0 ∧ n'.tofs = n.tofs - BitVec.ofInt 64 off) ∧
      (n.fresh = false → n'.tofs = n.tofs ∧ n'.ofs = cut 2047 off ∧
        (n.tsync = 2 → (off < -1000 ∨ 1000 < off) → n'.tsync = 1 ∧ n'.fresh = true) ∧
        (n.tsync = 2 → -1000 ≤ off → off ≤ 1000 → n'.tsync = 2) ∧
        (n.tsync = 1 → close → n'.goodSyncs = n.goodSyncs + 1 ∧ n'.tsync = if 16 ≤ n.goodSyncs + 1 then 2 else 1) ∧
        (n.tsync = 1 → ¬close → n'.goodSyncs = 0 ∧ n'.tsync = 1))
    let mine := fun (f p : List Byte) => s.owns l = true ∧ bitOf i.ifen e = true ∧ f.length ≤ 1518 ∧ 14 ≤ f.length ∧
      i.ptpMode = 2 ∧ bitOf i.ptpIfs e = true ∧ untag i e f = some (0x88F7, p) ∧ 44 ≤ p.length ∧ byteAt p 1 % 16 = 2 ∧
      byteAt p 4 = i.ptpDomain
    (∀ (f : List Byte) (rx : Nat),
      (isPtpSync i e f = false → exec (.ptpSync l e f rx) s = .next s) ∧
      (isPtpSync i e f = true → exec (.ptpSync l e f rx) s = exec (.ethFrameReceive l e f rx) s) ∧
      (∀ u ∈ untag i e f, let p := u.2
        let at' : Int := ((s.lines.gate.toNat + rx : Nat) : Int)
        let from' := slice p 20 10
        let seq := ofBE (slice p 30 2)
        mine f p →
          (byteAt p 0 % 16 = 0 → bitOf (byteAt p 6) 1 = false → ∃ t, exec (.ptpSync l e f rx) s = .next t ∧
            paired t (ptpTime p true) at' ∧ (t.lane l).ln.net.lastSync = s.lines.now) ∧
          (byteAt p 0 % 16 = 0 → bitOf (byteAt p 6) 1 = true → ∃ t, exec (.ptpSync l e f rx) s = .next t ∧
            (t.lane l).ln.net.ptp.sync = some (from', seq, at' - sgn 64 (ofBE (slice p 8 8)) / 655360) ∧
            (t.lane l).ln.net.tofs = n.tofs ∧ (t.lane l).ln.net.tsync = n.tsync ∧
            (t.lane l).ln.net.lastSync = s.lines.now ∧ onlyLN l s t) ∧
          (byteAt p 0 % 16 = 8 → ∀ q ∈ n.ptp.sync, q.1 = from' → q.2.1 = seq →
            ∃ t, exec (.ptpSync l e f rx) s = .next t ∧ paired t (ptpTime p true) q.2.2) ∧
          (byteAt p 0 % 16 = 9 → 54 ≤ p.length → slice p 44 10 = ptpPort i e → ∀ q ∈ n.ptp.req, q.1 = seq →
            ∀ w ∈ n.ptp.pair, ∃ t, exec (.ethFrameReceive l e f rx) s = .next t ∧
              (t.lane l).ln.net.ptp.delay = ((w.2 - w.1) + (ptpTime p false - q.2)) / 2 ∧
              (t.lane l).ln.net.ptp.req = none ∧ (t.lane l).ln.net.tofs = n.tofs ∧ onlyLN l s t))) ∧
    (∃ t, exec (.ptpSyncLoss l) s = .next t ∧
      let due := n.tsync ≠ 0 ∧ 300000000 ≤ (s.lines.now - n.lastSync).toNat
      (¬due → t = s) ∧ (due → t = s.modNet l fun n => { n with tsync := 0, fresh := true, goodSyncs := 0 })) ∧
    (∀ (fd ext : Bool) (ident : Nat) (data : List Byte), ∃ t, exec (.canFrameReceive l e fd ext ident data) s = .next t ∧
      let on := s.owns l = true ∧ bitOf i.ifen (2 + e) = true ∧ (vget n.cans {} e).st ≠ 2
      let hit := (List.range (safeNconn s.sc.saf)).filter fun k => !(connRec s.sc.saf k).produce && (bitOf (i.trPath k) (2 + e) &&
        (bitOf (i.trCan k) 31 == ext && i.trCan k % 2 ^ 29 == ident))
      let safe := fd = true ∧ hit ≠ []
      (¬on → t = s) ∧
      (on → safe → t = (s.modNet l fun n => { n with rx := n.rx ++ [(2 + e.val, toLE 4 ident ++ data)] }).modSc fun c =>
        { c with inbox := c.inbox ++ hit.map fun k => (k, data) }) ∧
      (on → ¬safe → t = s.modNet l fun n => n.modCan e fun y => { y with other := up y.other })) ∧
    (∃ t, exec (.canBusOff l e) s = .next t ∧
      let on := s.owns l = true ∧ bitOf i.ifen (2 + e) = true ∧ (vget n.cans {} e).st ≠ 2
      (¬on → t = s) ∧ (on → onlyLN l s t ∧ (vget (t.lane l).ln.net.cans {} e).st = 2 ∧
        (vget (t.lane l).ln.net.cans {} e).busoff = up (vget n.cans {} e).busoff ∧
        (∀ j : Fin 2, j ≠ e → vget (t.lane l).ln.net.cans {} j = vget n.cans {} j) ∧ (t.lane l).ln.net.tx = n.tx)) ∧
    (∃ t, exec (.canBusoffRecovery l e) s = .next t ∧
      let off := (vget n.cans {} e).st = 2
      (¬off → t = s) ∧ (off → onlyLN l s t ∧
          vget (t.lane l).ln.net.cans {} e = { vget n.cans {} e with st := 0, tec := 0 } ∧
        ∀ j : Fin 2, j ≠ e → vget (t.lane l).ln.net.cans {} j = vget n.cans {} j))

/-- LANE_REPORT, EPOCH_RECEIVE, EPOCH_SEAL_TIMEOUT, GATE_SEGMENT_WAIT, HEARTBEAT_LOSS, FRAME_INVALID: reports, mismatches
and epochs. (R342; R323 to R327, R329, R330, R342, R343) -/
def Obligations.LanesReportAndEpochsReachTheStandby : Prop :=
  ∀ (l : LaneId) (s : State),
    let x := s.lane l
    let g := x.ln.red
    let stands := s.ref.token = true ∧ s.ref.owner ≠ l ∧ x.ln.on = true
    let onlyRed := fun t : State => t.modRed l (fun _ => g) = s
    let discarded := fun (t : State) (n : Nat) => ({ g with
      inflight := none
      judged := some n
      epdisc := (t.lane l).ln.red.epdisc
      unsealedRun := g.unsealedRun + 1 } : RedLN)
    let clean := fun (t : State) (n : Nat) => t.ref = { s.ref with clean := if l = .a then n else s.ref.clean }
    (∃ t, exec (.laneReport l) s = .next t ∧
      let off := x.ln.on = false ∨ s.lines.inReset = true
      let y := t.lane l
      let r := t.ref.report l
      let o := l.other
      let q := t.ref.report t.ref.owner.other
      let p := t.ref.report t.ref.owner
      let both := s.ref.token = true ∧ p.here = true ∧ q.here = true ∧ p.tick = s.tick ∧ q.tick = s.tick
      let late := x.ln.sched.cLate.any fun c => (x.img.ctx c).any fun z => z.typ == 8
      let sends := s.owns l && s.linked o
      let g' := (t.lane o).ln.red
      let ready := s.owns l = true ∧ s.ref.gapDue = true ∧ s.ref.skipFrame = false ∧
        ((List.range 4).all fun k => !(y.ring k).st.tracked || (y.ring k).built.isSome) = true
      (off → t = s) ∧
      (¬off → r.here = true ∧ r.tick = s.tick ∧ r.role = x.ln.role ∧ r.degr = x.ln.hlth.degr ∧ r.img = x.imgLow ∧
        (∀ k : Fin 4, r.built.getLsbD k = (x.img.ringen k && (y.ring k).built.isSome)) ∧
        r.fcrc = crc32c ((List.range 4).flatMap fun k =>
          if r.built.getLsbD k then downPart k ((y.ring k).built.getD []) else []) ∧
        r.quiet = ((List.range 24).all (fun n => !x.hasAxis n || (let a := (x.axis n).cur
            decide (a.prof.phase = .idle ∧ a.hall.still = true ∧ a.obs.ostate ≠ .braking ∧ a.obs.ostate ≠ .relief))) &&
          (List.range 12).all (fun d => !((x.dcfg d).defd && (x.dway d).cur.waitg)) && !s.commitDue &&
          decide (80 ≤ x.ln.rpt.same)) ∧
        t.ref.isLost l = false ∧ t.ref.isLost o = s.ref.isLost o ∧ t.ref.report o = s.ref.report o ∧
        t.ref.beat l = some (s.lines.gate + 2200) ∧
        t.lines = { s.lines with now := if s.lines.now.toNat < (s.lines.gate + 2200).toNat then s.lines.gate + 2200
          else s.lines.now } ∧
        y.keep.mem = x.keep.mem ∧ y.st = x.st ∧ (s.ref.gapDue = false → y.mr = x.mr)) ∧
      (¬off → x.ln.pwr.layover = false → y.ln.axes = x.ln.axes ∧ y.ln.dways = x.ln.dways ∧ y.ln.rings = x.ln.rings ∧
          t.pd = s.pd) ∧
      (¬off → both → let differs := p.built = q.built ∧ p.fcrc ≠ q.fcrc
        let mis := differs ∧ q.role = .sync ∧ s.ref.divtest = false
        t.ref.mism = (if mis then s.ref.mism + 1 else 0) ∧ (mis → t.ref.revpend = false) ∧
        (¬mis → t.ref.revpend = s.ref.revpend ∧ (o = .b ∨ (s.lane o).ln.red.inflight = none → t.ref.clean = s.ref.clean))) ∧
      (¬off → ¬both → t.ref.mism = s.ref.mism ∧ t.ref.revpend = s.ref.revpend) ∧
      (¬off → ready → t.ref.gapDue = false ∧ t.ref.lastgap = min 15 s.repeats) ∧
      (¬off → ¬ready → t.ref.gapDue = s.ref.gapDue ∧ t.ref.lastgap = s.ref.lastgap) ∧
      (¬off → s.owns l = true → y.ln.red.epochOut = none ∧ y.ln.red.firstEp = false) ∧
      (¬off → sends = false → g'.inflight = (s.lane o).ln.red.inflight) ∧
      (¬off → sends = true → g'.epdisc = (if (s.lane o).ln.red.inflight.isSome = true ∧ (s.lane o).ln.red.epdisc < 0xFFFF
        then (s.lane o).ln.red.epdisc + 1 else (s.lane o).ln.red.epdisc)) ∧
      (¬off → sends = true → late = true → g'.inflight = none) ∧
      (¬off → sends = true → late = false → ∀ ep ∈ g.epochOut, g'.inflight = some ep) ∧
      (¬off → sends = true → late = false → g.epochOut = none →
          g'.inflight.map (fun e => (e.hdr.tick, e.writes, e.hdr.step)) =
          some (s.tick, x.ln.applied, x.ln.sched.nextStep) ∧
        g'.inflight.map Epoch.blocks = some {
          axes := y.ln.axes.map fun a => a.acc.getD a.cur
          dways := y.ln.dways.map fun d => d.acc.getD d.cur
          slalom := y.ln.slalomAcc.getD y.ln.slalom
          hyps := y.ln.hyps.map fun v => v.map fun h => { h with work := none } })) ∧
    (∀ (tick crc : Word) (came : Nat), ∃ t, exec (.epochReceive l tick crc came) s = .next t ∧
      let g' := (t.lane l).ln.red
      ((¬stands ∨ g.inflight = none) → t = s) ∧
      (stands → ∀ e ∈ g.inflight,
        let good := tick.toNat = e.hdr.tick ∧ crc = crc32c (e.bytes l.other) ∧
          (s.tick = e.hdr.tick ∨ (s.tick = (e.hdr.tick + 1) % 2 ^ 32 ∧ came ≤ 2050))
        g'.inflight = none ∧ g'.judged = some e.hdr.tick ∧
        (¬good → g' = discarded t e.hdr.tick ∧
          g'.epdisc = (if g.epdisc < 0xFFFF then g.epdisc + 1 else 0xFFFF) ∧ clean t 0) ∧
        (good → g'.sealedEp = some e ∧ g'.unsealedRun = 0 ∧ g'.sealedTick = e.hdr.tick ∧ g'.sealStep = e.hdr.step ∧
          g'.epdisc = g.epdisc ∧
              clean t (if g.extrap then 0 else if x.ln.role = .sync then s.ref.clean + 1 else s.ref.clean)) ∧
        onlyLanes s { t with ref := s.ref } ∧ t.lane l.other = s.lane l.other ∧ (t.lane l).keep = x.keep ∧
            (t.lane l).st = x.st ∧
        (t.lane l).ln.axes = x.ln.axes ∧ (t.lane l).ln.dways = x.ln.dways)) ∧
    (∃ t, exec (.epochSealTimeout l) s = .next t ∧
      let n := (s.tick + 2 ^ 32 - 1) % 2 ^ 32
      let due := stands ∧ g.judged ≠ some n
      let g' := (t.lane l).ln.red
      (¬due → t = s) ∧
      (due → g' = discarded t n ∧
        g'.epdisc = (if g.epdisc < 0xFFFF then g.epdisc + 1 else 0xFFFF) ∧ clean t 0 ∧ onlyRed { t with ref := s.ref })) ∧
    (∃ t, exec (.gateSegmentWait l) s = .next t ∧
      let due := stands ∧ x.running = true ∧ g.gateSeg = false ∧ g.exNow = false
      let g' := (t.lane l).ln.red
      (¬due → t = s) ∧
      (due → g' = { g with exNow := true, extrap := true, extrapn := g'.extrapn } ∧
        g'.extrapn = (if g.extrapn < 0xFFFF then g.extrapn + 1 else 0xFFFF) ∧ clean t 0 ∧
            onlyRed { t with ref := s.ref })) ∧
    (∀ elapsed : Nat, ∃ t, exec (.heartbeatLoss l elapsed) s = .next t ∧
      let due := s.lines.inReset = false ∧ (s.ref.beat l).any (fun b =>
        decide (Config.hbLimit l s.tick < (s.lines.gate + BitVec.ofNat 64 elapsed - b).toNat)) = true
      (¬due → t = s) ∧
      (due → t.ref.isLost l = true ∧ t.ref.isLost l.other = s.ref.isLost l.other ∧
        t = { s with ref := { s.ref with lost := t.ref.lost } })) ∧
    (∀ ea eb ec ed : LineErr, ∃ t, exec (.frameInvalid ea eb ec ed) s = .next t ∧
      let p := s.ref.report s.ref.owner
      let left := fun (k : Nat) (e : LineErr) => if p.built.getLsbD k then downPart k (applyErr (s.hw k).line e) else []
      let due := s.ref.token = true ∧ p.here = true ∧ p.tick = (s.tick + 2 ^ 32 - 1) % 2 ^ 32 ∧
        (crc32c (left 0 ea ++ left 1 eb ++ left 2 ec ++ left 3 ed) ≠ p.fcrc ∨
          ((List.range 4).any fun k => p.built.getLsbD k && (s.hw k).repNow) = true)
      (¬due → t = s) ∧ (due → t = { s with ref := { s.ref with frameBad := true } }))

/-- HOT_SWITCHOVER, COLD_TAKEOVER, COLD_TAKEOVER_COMPLETE, PARK, PARK_EXIT, TOKEN_ASSIGN: when the token moves and what
the new lane does. (11_lane_redundancy.md; R321, R331, R332, R334 to R340) -/
def Obligations.TheTokenMovesByTheRefereesTable : Prop :=
  ∀ s : State,
    let r := s.ref
    let l := r.owner
    let m := l.other
    let moved := fun (dst : LaneId) (code : Nat) (cold : Bool) (t : State) =>
      t.ref.token = true ∧ t.ref.owner = dst ∧ t.ref.parked = false ∧ t.ref.switched = true ∧ t.ref.dcode = code ∧
      t.ref.dtick = s.tick % 2 ^ 24 ∧ t.ref.gapDue = true ∧ t.ref.busyFrom = s.tick ∧ t.ref.revpend = false ∧
      t.ref.swreq = false ∧ t.ref.clean = 0 ∧ t.ref.cold = cold ∧
          t.ref.switches = (if r.switches < 0xFF then r.switches + 1 else 0xFF) ∧ t.ref.role dst = .active ∧
      (t.lane dst).ln.role = .active ∧ (t.lane dst).ln.red.firstEp = true ∧ (t.lane dst).ln.red.coldEp = cold ∧
      (t.lane dst).ln.host.attn.getLsbD 15 = true ∧ (t.lane dst).ln.writes = [] ∧ (t.lane dst.other).ln.writes = [] ∧
      (t.lane .a).mr.target = 0 ∧ (t.lane .b).mr.target = 0 ∧
      (((s.lane dst).ln.ledg.due.all fun e => match e with
        | .event _ _ _ _ => true
        | .cycle _ _ _ _ _ => false) = true → (t.lane dst).keep.mem = (s.lane dst).keep.mem)
    let parks := fun t : State => t.ref.token = false ∧ t.ref.parked = true ∧ t.ref.dcode = 9 ∧
        t.ref.dtick = s.tick % 2 ^ 24 ∧
      t.ref.owner = l ∧ t.port.hmiso = none ∧ t.port.busySwitch = false ∧ t.port.busyCold = false ∧
          t.port.busyQuiet = false ∧ t.ref.gapDue = false ∧
      (t.lane .a).ln.writes = [] ∧ (t.lane .b).ln.writes = [] ∧ (t.lane .a).ln.host.attn.getLsbD 15 = true ∧
      (t.lane l).ln.role = (if (s.lane l).ln.on then if (s.lane l).ln.hlth.degr then .degraded else .unsync else .starting)
    let stopped := fun (dst : LaneId) (t : State) => t.ref.cold = true ∧ t.port.busyCold = true ∧
      t.ref.colds = (if r.colds < 0xFF then r.colds + 1 else 0xFF) ∧
      (∀ n : Fin 24, (s.lane dst).hasAxis n = true →
        let a := ((s.lane dst).axis n).newest
        let a' := ((t.lane dst).axis n).newest
        let free := a.obs.ostate = .braking ∨ a.obs.ostate = .relief ∨ a.prof.phase = .idle
        (∀ h : Fin 4, let z := (t.lane dst).hyp n h
          z.work = none ∧ z.build = none ∧ z.full = none ∧ z.done = none) ∧
        (free → a'.prof = a.prof ∧ a'.obs.ostate = a.obs.ostate) ∧
        (¬free → a'.prof.phase = .stopping ∧ a'.prof.p = mmOfPi ((s.lane dst).acfg n).hall.cpmm a.edge.pi ∧ a'.prof.a = 0 ∧
          a'.prof.v = tenth (max 0 (a.s * a.hall.v4)))) ∧
      ∀ d : Fin 12, ((s.lane dst).dcfg d).defd = true →
        let z := ((s.lane dst).dway d).newest.st
        ((t.lane dst).dway d).newest.st = if z = .locked ∨ z = .service ∨ z = .none then z else .stopped
    let cond : SwitchWhy → Bool := fun why => match why with
      | .heartbeat => r.isLost l
      | .frame => r.frameBad
      | .degraded => (s.lane l).ln.hlth.degr || (r.report l).degr
      | .laneReset => !(s.lane l).ln.on
      | .divergence => r.divSwitch
    let holds := fun why : SwitchWhy => r.token = true ∧ cond why = true
    let code : SwitchWhy → Nat := fun why => match why with
      | .heartbeat => 1
      | .frame => 2
      | .degraded => 3
      | .laneReset => 4
      | .divergence => 5
    let inSync := r.role m = .sync ∧ r.isLost m = false ∧ r.divtest = false ∧ (s.lane m).ln.on = true
    let weak := r.isLost m = false ∧ (s.lane m).ln.on = true ∧
      (r.role m = .unsync ∨ r.role m = .degraded ∨ (r.role m = .sync ∧ r.divtest = true))
    (∀ (why : SwitchWhy) (midTx : Bool),
      (∃ t, exec (.hotSwitchover why midTx) s = .next t ∧
        (¬(holds why ∧ inSync) → t = s) ∧
        (holds why → inSync → moved m (code why) false t ∧ t.port.busySwitch = true ∧
          (midTx = true → (t.lane m).ln.host.abort = true) ∧
          (why = .divergence → (t.lane l).ln.on = false ∧ (t.lane l).ln.role = .starting ∧ (t.lane l).keep.lcause = 4))) ∧
      (∃ t, exec (.coldTakeover why midTx) s = .next t ∧
        let due := holds why ∧ why ≠ .degraded ∧ why ≠ .divergence ∧ weak
        (¬due → t = s) ∧
        (due → moved m (code why) true t ∧ stopped m t ∧ t.ref.divtest = false ∧
          (midTx = true → (t.lane m).ln.host.abort = true)))) ∧
    (∃ t, exec .coldTakeoverComplete s = .next t ∧
      let due := r.cold = true ∧ r.token = true ∧ ((List.range 12).all fun d => !((s.lane l).dcfg d).defd ||
        [DState.locked, .service, .stopped].contains ((s.lane l).dway d).newest.st) = true
      (¬due → t = s) ∧
      (due → t.ref = { r with cold := false } ∧ t.port = { s.port with busyCold := false } ∧ t.lane m = s.lane m ∧
        onlyLanes s { t with ref := s.ref, port := s.port } ∧
        (((s.lane l).ln.ylSeen.any fun k => k.1 == 6) = false → ((s.lane l).ln.ylLive.any fun k => k.1 == 6) = false →
          ∀ e ∈ (t.lane l).ln.ylDue.getLast?, e.cause = 6 ∧ e.detail = BitVec.ofNat 32 (ticksSince s.tick r.busyFrom)))) ∧
    (∃ t, exec .park s = .next t ∧
      let nobody := r.isLost m = true ∨ r.role m = .starting ∨ (s.lane m).ln.on = false
      let due := ((holds .heartbeat ∨ holds .frame ∨ holds .laneReset) ∧ nobody) ∨
        (r.token = true ∧ r.gapDue = true ∧ ((List.range 4).any fun k => decide (4 ≤ (s.hw k).reps)) = true)
      (due → parks t) ∧ (¬due → t = s)) ∧
    (∀ dst : LaneId, ∃ t, exec (.parkExit dst) s = .next t ∧
      let due := r.parked = true ∧ (s.lane dst).ln.on = true ∧ r.isLost dst = false
      (¬due → t = s) ∧ (due → moved dst 9 true t ∧ stopped dst t)) ∧
    (∀ dst : LaneId, ∃ t, exec (.tokenAssign dst) s = .next t ∧
      let early := (r.beat .a).any (fun b => decide ((b - s.lines.freeAt).toNat ≤ 5000000)) = true
      let due := r.token = false ∧ r.parked = false ∧ s.lines.inReset = false ∧ (s.lane dst).ln.on = true ∧
        (r.beat dst).isSome = true ∧ (dst = .a ∧ early ∨ dst = .b ∧ ¬early ∧ 5000000 < (s.lines.now - s.lines.freeAt).toNat)
      (¬due → t = s) ∧
      (due → t.ref.token = true ∧ t.ref.owner = dst ∧ t.ref.role dst = .active ∧ (t.lane dst).ln.role = .active ∧
        t.ref.switches = r.switches ∧ t.ref.role dst.other = r.role dst.other ∧ (t.lane .a).keep = s.laneA.keep ∧
        (t.lane .b).keep = s.laneB.keep))

/-- DIVERGENCE_TEST, DIVERGENCE_OUTCOME, SYNC_LINK_LOSS, SYNC_LINK_RETRY, LANE_JOIN, JOIN_TIMEOUT: the test, the link and
the five steps. (11_lane_redundancy.md; R336, R337, R341) -/
def Obligations.DivergingLanesAreTestedAndLanesJoinStepByStep : Prop :=
  ∀ s : State,
    let r := s.ref
    let act := r.owner
    let std := act.other
    (∃ t, exec .divergenceTest s = .next t ∧
      let due := r.token = true ∧ r.divtest = false ∧ 3 ≤ r.mism
      (¬due → t = s) ∧
      (due → t.ref = { r with
          divtest := true
          divtests := if r.divtests < 0xFF then r.divtests + 1 else 0xFF
          dcode := 5
          dtick := s.tick % 2 ^ 24
          divFrom := s.lines.now
          divA := none
          divB := none
          mism := 0 } ∧
        onlyLanes s { t with ref := r } ∧
        ∀ l : LaneId, (t.lane l).ln.hlth.lasterr = laneUnit l ∧
          ((s.lane l).ln.hlth.queue.length < 64 → (t.lane l).ln.hlth.queue.contains (laneUnit l) = true ∨
            (t.lane l).ln.hlth.cur.any (fun c => c.2 == laneUnit l) = true))) ∧
    (∃ t, exec .divergenceOutcome s = .next t ∧
      let due := r.divtest = true ∧ r.token = true ∧
        ((r.divA.isSome = true ∧ r.divB.isSome = true) ∨ 25000000 ≤ (s.lines.now - r.divFrom).toNat)
      let ok := fun l : LaneId => (match l with | .a => r.divA | .b => r.divB) = some true
      let bad := fun l : LaneId => (t.lane l).ln.hlth.degr = true ∧ (t.lane l).ln.hlth.causes.contains 4 = true
      (¬due → t = s) ∧ (due → t.ref.divtest = false ∧ t.ref.owner = act ∧ t.ref.token = true) ∧
      (due → ¬ok act → ok std → t = { s with ref := { r with divtest := false, divSwitch := true } }) ∧
      (due → ok act → ¬ok std → bad std ∧
        (t.modLN act fun x => { x with host := (s.lane act).ln.host }).lane act = s.lane act ∧
        (t.lane act).ln.host = { (s.lane act).ln.host with attn := (t.lane act).ln.host.attn }) ∧
      (due → ¬ok act → ¬ok std → bad std ∧ bad act) ∧
      (due → ok act → ok std → (t.lane std).ln.role = .unsync ∧ t.ref.role std = .unsync ∧ (t.lane std).ln.red.jstate = 1 ∧
        t.lane act = s.lane act)) ∧
    ∀ l : LaneId,
      let x := s.lane l
      let g := x.ln.red
      let stands := r.token = true ∧ r.owner ≠ l ∧ x.ln.on = true
      (∀ (pairs : BitVec 4) (since : Nat), ∃ t, exec (.syncLinkLoss l pairs since) s = .next t ∧
        let due := stands ∧ g.linkDown = false ∧ ((2 ≤ g.unsealedRun ∧ r.isLost .a = false ∧ r.isLost .b = false) ∨
          (pairs ≠ 0xF ∧ 100000 ≤ since))
        let g' := (t.lane l).ln.red
        (¬due → t = s) ∧
        (due → g' = { g with
            linkDown := true
            linkTry := s.lines.now
            linkloss := g'.linkloss
            jstate := 0
            pairs := pairs
            inflight := none } ∧
          g'.linkloss = (if g.linkloss < 0xFF then g.linkloss + 1 else 0xFF) ∧
          (t.lane l).ln.role = (if x.ln.role = .degraded then .degraded else .unsync) ∧
          t.ref.role l = (if x.ln.role = .degraded then r.role l else .unsync) ∧ t.ref.role l.other = r.role l.other ∧
          t.ref.clean = (if l = .a then 0 else r.clean) ∧ t.lane l.other = s.lane l.other ∧
              (t.lane l).ln.axes = x.ln.axes ∧ (t.lane l).keep = x.keep)) ∧
      (∀ trained : BitVec 4, ∃ t, exec (.syncLinkRetry l trained) s = .next t ∧
        let due := stands ∧ g.linkDown = true ∧ 1000000 ≤ (s.lines.now - g.linkTry).toNat
        (¬due → t = s) ∧
        (due → t.modRed l (fun _ => g) = s ∧ (t.lane l).ln.red = (if trained = 0xF then { g with
              pairs := 0xF
              linkTry := s.lines.now
              linkDown := false
              unsealedRun := 0
              jstate := 1
              jticks := 0 }
            else { g with pairs := trained, linkTry := s.lines.now, jticks := 0 }))) ∧
      (∃ t, exec (.laneJoin l) s = .next t ∧
        let o := s.lane l.other
        let may := stands ∧ r.isLost l = false ∧ x.ln.role ≠ .degraded ∧ x.ln.role ≠ .sync ∧ g.linkDown = false
        let y := t.lane l
        let j := y.ln.red.jstate
        let crc := fun z : Lane => z.img.crc
        (¬may ∨ 5 ≤ g.jstate → t = s) ∧
        (may → g.jstate = 0 → j = 1 ∧ y.ln.red.jticks = 0 ∧ y.ln.red.clean = 0 ∧ t.modRed l (fun _ => g) = s) ∧
        (may → g.jstate = 1 → j = 2 ∧ y.ln.red.pairs = 0xF ∧
          y.ln.red.bulkleft = min 0xFFFF (((o.img.ctxs.map CtxRec.bsize).sum + 1023) / 1024) ∧ (o.running = true →
              y.running = true ∧ crc y = crc o) ∧
          (o.running = true → x.running = true → crc x = crc o → y.st = x.st ∧ y.ln.axes = x.ln.axes)) ∧
        (may → g.jstate = 2 → 0 < g.bulkleft → t = s) ∧
        (may → g.jstate = 2 → g.bulkleft = 0 → j = 3 ∧ y.ln.red.rpFresh = false ∧
          y.keep.red.check.axes = (o.ln.axes.map fun a => a.acc.getD a.cur) ∧
          y.keep.red.check.dways = (o.ln.dways.map fun d => d.acc.getD d.cur) ∧
              (t.modRed l fun _ => g).modKeep l (fun _ => x.keep) = s) ∧
        (may → g.jstate = 3 → g.rpFresh = false → t = s) ∧
        (may → g.jstate = 3 → g.rpFresh = true → j = 4 ∧ y.ln.red.clean = 0 ∧
            y.ln.dways.map Dway.cur = o.ln.dways.map Dway.cur ∧
          (∀ n : Fin 24, (y.axis n).cur.prof = (o.axis n).cur.prof ∧ (y.axis n).cur.edge = (o.axis n).cur.edge ∧
            (y.axis n).work = none ∧ (y.axis n).acc = none ∧ ∀ h : Fin 4, let z := y.hyp n h
              z.build = none ∧ z.full = none ∧ z.done = none)) ∧
        (may → g.jstate = 4 → g.clean < 16 → t = s) ∧
        (may → g.jstate = 4 → 16 ≤ g.clean → j = 5 ∧ y.ln.role = .sync ∧ t.ref.role l = .sync ∧ y.ln.ledg.mirgap = true ∧
          y.ln.axes = x.ln.axes) ∧
        (t.lane l.other).st = o.st ∧ (t.lane l.other).keep = o.keep ∧ (t.lane l.other).ln.axes = o.ln.axes ∧
        (t.lane l.other).ln.dways = o.ln.dways) ∧
      (∃ t, exec (.joinTimeout l) s = .next t ∧
        let due := 1 ≤ g.jstate ∧ g.jstate ≤ 4 ∧ 800 ≤ g.jticks
        (¬due → t = s) ∧
        (due → t.modRed l (fun _ => g) = s ∧ (t.lane l).ln.red = { g with jstate := 1, jticks := 0, clean := 0 }))

/-- REVPEND_SET, QUIET_HANDOVER, FORCED_HANDOVER, SWREQ: how lane A earns the token back, and how the host asks for a
handover. (11_lane_redundancy.md; R342, R343, R345, R346) -/
def Obligations.LaneAReturnsAtAQuietTick : Prop :=
  ∀ s : State,
    let r := s.ref
    let l := r.owner
    let m := l.other
    let inSync := r.role m = .sync ∧ r.isLost m = false ∧ r.divtest = false ∧ (s.lane m).ln.on = true
    let back := r.revpend = true ∧ l = .b
    let asked := r.token = true ∧ inSync ∧ r.cold = false ∧ (back ∨ r.swreq = true)
    let handed := fun (code : Nat) (t : State) =>
      t.ref.token = true ∧ t.ref.owner = m ∧ t.ref.dcode = code ∧ t.ref.gapDue = true ∧ t.ref.clean = 0 ∧
          t.ref.dtick = s.tick % 2 ^ 24 ∧
      t.ref.switched = true ∧ t.ref.switches = (if r.switches < 0xFF then r.switches + 1 else 0xFF) ∧
          t.ref.revpend = false ∧
      t.ref.swreq = false ∧ t.ref.cold = false ∧ t.ref.colds = r.colds ∧ t.ref.role m = .active ∧ t.ref.role l = .sync ∧
      (t.lane m).ln.role = .active ∧ (t.lane l).ln.role = .sync ∧ (t.lane l).ln.red.jstate = 5 ∧
      (t.lane m).ln.red.firstEp = true ∧ (t.lane m).ln.red.coldEp = false ∧
      ∀ k : LaneId, let y := t.lane k
        y.ln.writes = [] ∧ y.mr.target = 0 ∧
        (((s.lane k).ln.ledg.due.all fun e => match e with
          | .event _ _ _ _ => true
          | .cycle _ _ _ _ _ => false) = true → y.keep.mem = (s.lane k).keep.mem) ∧ y.ln.axes = (s.lane k).ln.axes ∧
        y.ln.dways = (s.lane k).ln.dways ∧ y.st = (s.lane k).st ∧ y.ln.host.attn.getLsbD 15 = true
    (∃ t, exec .revpendSet s = .next t ∧
      let due := r.token = true ∧ l = .b ∧ r.revpend = false ∧ r.lapass = true ∧ r.rolea = .sync ∧ 80000 ≤ r.clean ∧
        r.cold = false ∧ s.laneB.ln.red.stale = false
      (due → t = { s with ref := { r with revpend := true, revAt := s.lines.now } }) ∧ (¬due → t = s)) ∧
    (∀ k : LaneId, ∃ t, exec (.swreq k) s = .next t ∧
      let due := r.token = true ∧ inSync ∧ (s.lane k).ln.on = true
      (due → t = { s with ref := { r with swreq := true } }) ∧ (¬due → t = s)) ∧
    (∀ midTx : Bool, ∃ t, exec (.quietHandover midTx) s = .next t ∧
      let due := asked ∧ r.repa.quiet = true ∧ r.repb.quiet = true
      (¬due → t = s) ∧
      (due → back → handed 6 t) ∧ (due → ¬back → handed 8 t) ∧ (due → t.ref.skipFrame = r.skipFrame) ∧
      (due → t.port.busyQuiet = true ∧ t.port.busySwitch = s.port.busySwitch ∧
        (midTx = true → (t.lane m).ln.host.abort = true))) ∧
    (∀ midTx : Bool, ∃ t, exec (.forcedHandover midTx) s = .next t ∧
      let due := asked ∧ back ∧ 6000000000 ≤ (s.lines.now - r.revAt).toNat
      (¬due → t = s) ∧
      (due → handed 7 t ∧ t.ref.skipFrame = true ∧ t.port.busySwitch = true ∧ (midTx = true →
          (t.lane m).ln.host.abort = true)))

/-- DMA_START, DMA_RESUME and DMA_ABORT: the states they are allowed in, the judgement of a descriptor, and that no byte
moves. (12_memory_dma.md; R352, R354, R361 to R363, R367, R369, R370, R375) -/
def Obligations.ADescriptorIsJudgedBeforeAnyByteMoves : Prop :=
  ∀ (l : LaneId) (c : Fin 8) (s : State),
    let x := s.lane l
    let i := x.img
    let h := x.dmaCh c
    let quiet := fun t : State => (t.lane l).keep.mem = x.keep.mem ∧ t.lane l.other = s.lane l.other ∧
        (t.lane l).st = x.st ∧
      ∀ k : Fin 8, k ≠ c → (t.lane l).dmaCh k = x.dmaCh k
    let onlyCh := fun t : State => t.modDma l c (fun _ => h) = s
    let busy := h.st = 1 ∨ h.st = 2 ∨ h.st = 3 ∨ h.st = 5
    let go := if (List.range 8).any (fun k => (x.dmaCh k).st == 2) then 1 else 2
    (∀ own : Vector Word 5, i.chOwner c = 0 → exec (.dmaStart l c own) s = .next s) ∧
    (∀ own : Vector Word 5, i.chOwner c ≠ 0 → ∃ t, exec (.dmaStart l c own) s = .next t ∧ quiet t ∧
      let h' := (t.lane l).dmaCh c
      let regs := if i.chOwner c = 2 then h.regs else own
      let w := fun k : Nat => (vget regs 0 k).toNat
      let fill := bitOf (w 3) 2
      let chain := bitOf (w 3) 1
      let irq := bitOf (w 3) 0
      let len := fld (w 2) 0 24
      let dst := fld (w 1) 0 24
      let ddom := fld (w 1) 24 5
      let src := fld (w 0) 0 24
      let sdom := fld (w 0) 24 5
      let may := fun (d : Nat) (wr : Bool) => match i.chOwner c with
        | 1 => true
        | 2 => if wr then (i.dom d).hostwr else (i.dom d).host
        | _ => let own := ((i.ctx (i.chCtx c)).map CtxRec.dom).getD 0
          d == own || bitOf (i.dom own).reach d
      let code : Nat :=
        if (!fill && 0x20000000 ≤ w 0) || 0x20000000 ≤ w 1 || 0x01000000 ≤ w 2 || fld (w 3) 3 5 != 0 || 0x10000 ≤ w 3 ||
          0x01000000 ≤ w 4 then 4
        else if (!fill && !may sdom false) || !may ddom true then 3
        else if (!fill && decide ((i.dom sdom).npages * 4096 < src + len)) || (i.dom ddom).npages * 4096 < dst + len then 4
        else 0
      let d := x.ln.dma
      let d' := (t.lane l).ln.dma
      let raised := (t.lane l).ln.host.attn.getLsbD 13
      let rec' := vget (t.lane l).keep.flog {} x.mr.fhead.next
      (busy → h' = { h with rej := true } ∧ onlyCh t) ∧
      (¬busy → h'.words = regs ∧ h'.regs = regs ∧ h'.off = 0 ∧ h'.tag = fld (w 3) 8 8 ∧ h'.rej = h.rej ∧
        h'.precnt = h.precnt) ∧
      (¬busy → code = 0 → t.modLN l (fun y => { y with host := x.ln.host, dma := x.ln.dma }) = s ∧
        h'.fcode = 0 ∧ h'.flt = h.flt ∧
        (0 < len → h'.st = go ∧ h'.done = h.done ∧ h'.fetch = false) ∧
        (len = 0 → h'.done = true ∧ (irq = true → i.chOwner c = 2 → raised = true) ∧
          (chain = false → h'.st = 4) ∧ (chain = true → h'.st = go ∧ h'.fetch = true ∧ h'.curva = fld (w 4) 0 24))) ∧
      (¬busy → code ≠ 0 → h'.st = 5 ∧ h'.fcode = code ∧ h'.resumable = false ∧ h'.flt = true ∧ h'.pres = false ∧
        d'.faults = (if d.faults < 0xFFFF then d.faults + 1 else 0xFFFF) ∧ d'.lenerr = (d.lenerr || code == 4) ∧
        (irq = true → i.chOwner c = 2 → raised = true) ∧
        ((t.lane l).keep.fseq = x.keep.fseq + 1 ∨ ((t.lane l).keep.fseq = x.keep.fseq ∧
          d'.suppr = if d.suppr < 0xFFFF then d.suppr + 1 else 0xFFFF)) ∧
        ((t.lane l).keep.fseq = x.keep.fseq + 1 → x.mr.fhead.next < 64 → rec'.code = code ∧ rec'.origin = 0 ∧
            rec'.offset = 0 ∧
          rec'.resumable = false ∧ rec'.aux1 = 0 ∧ rec'.aux2.toNat = c.val + 256 * fld (w 3) 8 8 ∧
          (t.lane l).mr.mfnew = true))) ∧
    (∃ t, exec (.dmaResume l c) s = .next t ∧ onlyCh t ∧
      let h' := (t.lane l).dmaCh c
      let ok := h.st = 5 ∧ h.resumable = true
      (¬ok → h' = { h with rej := true }) ∧
      (ok → h'.st = go ∧ h'.off = h.off ∧ h'.words = h.words ∧ h'.curva = h.curva ∧ h'.fetch = h.fetch ∧ h'.rej = h.rej ∧
        h'.fcode = 0 ∧ h'.resumable = false)) ∧
    (∃ t, exec (.dmaAbort l c) s = .next t ∧ onlyCh t ∧ (t.lane l).dmaCh c = if busy then { h with st := 6 } else h)

/-- DMA_BURST: which channel is served, which bytes move, and the exact byte at which a fault stops the transfer.
(12_memory_dma.md; R348, R350, R361, R362, R364 to R366, R368 to R370) -/
def Obligations.ABurstMovesBytesOrStopsAtTheExactOne : Prop :=
  ∀ (l : LaneId) (ecc : List EccEvent) (s : State), ∃ t, exec (.dmaBurst l ecc) s = .next t ∧
    let x := s.lane l
    let i := x.img
    let ready := fun k : Nat => (x.dmaCh k).st = 1 ∨ (x.dmaCh k).st = 2 ∨ (x.dmaCh k).st = 3
    let best := fun c : Nat => decide (ready c) && (List.range 8).all fun k =>
      decide (¬ready k ∨ i.chPrio k < i.chPrio c ∨ (i.chPrio k = i.chPrio c ∧ c ≤ k))
    (((List.range 8).all fun k => decide ¬ready k) = true → t = s) ∧
    t.lane l.other = s.lane l.other ∧ (t.lane l).st = x.st ∧
    ∀ c : Fin 8, best c = true →
      let h := x.dmaCh c
      let h' := (t.lane l).dmaCh c
      let n := min (64 - (h.dstVa + h.off) % 64) (h.len - h.off)
      let again := h.st = 3
      let d := x.ln.dma
      let d' := (t.lane l).ln.dma
      let uncorr := fun pa : Nat => isSram pa && ecc.any fun e => match e with
        | .uncorrectable a => a / 8 == pa / 8
        | .corrected _ => false
      let dest := fun k : Nat => translate i h.ddom (h.dstVa + k) true
      let src := fun k : Nat => translate i h.sdom (h.srcVa + k) false
      let code := fun k : Nat =>
        let cd : Nat := match dest k with
          | .error e => e
          | .ok _ => 0
        if h.fill then cd else match src k with
          | .error e => e
          | .ok pa => if uncorr pa then 5 else cd
      let stop := (List.range n).find? fun k => code (h.off + k) != 0
      let held := stop.isSome = true ∧ (h.justRes = true ∨ again)
      let m := if held then 0 else stop.getD n
      let hits := fun (a k : Nat) => match dest (h.off + k) with
        | .ok pa => pa == a
        | .error _ => false
      let apart := (List.range m).all fun j => match src (h.off + j) with
        | .ok z => (List.range m).all fun k => !hits z k
        | .error _ => true
      (∀ k : Fin 8, k ≠ c → (t.lane l).dmaCh k = let z := x.dmaCh k
        if z.st = 2 then
          { z with st := 3, precnt := if z.precnt < 0xFFFF then z.precnt + 1 else 0xFFFF, lastPre := z.off } else z) ∧
      (h.fetch = false →
        (stop = none → h'.off = (if h.off + n = h.len ∧ h.chain = true then 0 else h.off + n) ∧ h'.words = h.words ∧
          h'.flt = h.flt ∧ d'.faults = d.faults ∧
          (h.off + n ≠ h.len → h'.st = 2 ∧ h'.done = h.done ∧ h'.fetch = false) ∧
          (h.off + n = h.len → h.chain = false → h'.st = 4 ∧ h'.done = true ∧
            (h.irq = true → i.chOwner c = 2 → (t.lane l).ln.host.attn.getLsbD 13 = true)) ∧
          (h.off + n = h.len → h.chain = true → h'.st = 2 ∧ h'.fetch = true ∧ h'.curva = h.next)) ∧
        (∀ k ∈ stop, h'.st = 5 ∧ h'.fcode = code (h.off + k) ∧ h'.off = (if held then h.off else h.off + k) ∧
            h'.flt = true ∧
          h'.words = h.words ∧ h'.resumable = decide (h'.fcode = 1 ∨ h'.fcode = 2 ∨ h'.fcode = 5 ∨ h'.fcode = 6) ∧
          h'.pres = (h.preRun || decide again) ∧
          d'.faults = (if d.faults < 0xFFFF then d.faults + 1 else 0xFFFF) ∧
          (h'.fcode = 5 → d'.eccue = true) ∧
          ((t.lane l).keep.fseq = x.keep.fseq + 1 → x.mr.fhead.next < 64 →
            let r := vget (t.lane l).keep.flog {} x.mr.fhead.next
            r.code = h'.fcode ∧ r.offset = h'.off ∧ r.pres = h'.pres ∧ r.aux1 = BitVec.ofNat 32 h.lastPre ∧ r.origin = 0)) ∧
        (∀ a : Nat, ((List.range m).all fun k => !hits a k) = true →
          Memory.get (t.lane l).keep.mem a = Memory.get x.keep.mem a) ∧
        (s.memWf → ∀ k : Fin 64, k < m → ∀ pa ∈ (dest (h.off + k)).toOption,
          (h.fill = true → Memory.get (t.lane l).keep.mem pa = BitVec.ofNat 8 (h.word 0 / 256 ^ ((h.off + k) % 4))) ∧
          (h.fill = false → apart = true → ∀ q ∈ (src (h.off + k)).toOption,
            Memory.get (t.lane l).keep.mem pa = physByte x.keep.mem q))) ∧
      (h.fetch = true → (t.lane l).keep.mem = x.keep.mem ∧
        let at' := translate i (i.chDom c) h.curva false
        (∀ e ∈ (match at' with | .error e => some e | .ok _ => none), h'.st = 5 ∧ h'.fcode = e ∧ h'.off = 0 ∧
            h'.curva = h.curva ∧
          h'.fetch = true ∧ h'.words = h.words) ∧
        ∀ pa ∈ at'.toOption, ecc = [] → h'.words = Vector.ofFn (fun k : Fin 5 => BitVec.ofNat 32
            (le32 ((List.range 32).map fun j => physByte x.keep.mem (pa + j)) (4 * k.val))) ∧ h'.off = 0)

/-- LOAD_COMMAND, NOCMD_TIMEOUT, CLR, PWM_PERIOD_BOUNDARY, CHIME_TONE_ADVANCE, OPEN_LOAD_ON, OPEN_LOAD_OFF, SHORTB:
commands and findings. (14_load_channels.md, 01_door_cycle_architecture.md; R28, R417, R419, R421, R422, R424, R426,
R427, R429, R431; times are counted in ticks, log entry 15) -/
def Obligations.GangsFollowTheirCommandsAndDiagnostics : Prop :=
  ∀ s : State,
    let q := s.pd
    let restarts := fun (c c' : LoadCh) (f : LoadCfg) (up : Bool) =>
      let may := c.onNow = false ∧ c.tlatch = false ∧ c.latched = false ∧ c.cmdOn = true ∧ (f.mode ≠ 1 ∨ c.cmdDuty ≠ 0)
      let spent := c.hold ≠ .none ∧ c.retleft = 0
      let ready := up = true ∧ (c.hold = .latchOff → c.left = some 0)
      (¬may → c' = c) ∧ (may → ¬spent → ¬ready → c' = c) ∧
      (may → spent → c'.latched = true ∧ c'.onNow = false ∧ c'.retleft = 0 ∧ c'.events = c.events ∧ c'.cmdOn = true) ∧
      (may → ¬spent → ready → c'.onNow = true ∧ c'.clamped = false ∧ c'.hold = .none ∧ c'.left = none ∧
        c'.dutyUse = c.cmdDuty ∧ c'.pwmfUse = f.pwmf ∧ c'.tone = (if f.mode = 2 then 1 else 0) ∧ c'.latched = false ∧
        c'.retleft = (if c.hold = .latchOff then c.retleft - 1 else c.retleft) ∧ c'.events = c.events ∧ c'.cmdOn = true)
    let off := fun (c c' : LoadCh) => c'.onNow = false ∧ c'.clamped = (c.clamped || c.onNow) ∧ c'.tone = 0 ∧
        c'.limit = false ∧
      c'.retleft = c.retleft ∧ c'.events = c.events ∧ c'.latched = c.latched ∧ c'.tlatch = c.tlatch
    let noLanes := fun t : State => (({ t with pd := q }).modLN .a fun y => { y with host := s.laneA.ln.host }).modLN .b
      (fun y => { y with host := s.laneB.ln.host }) = s
    let attn9 := fun t : State => s.laneA.ln.host.attn ||| 0x200 = t.laneA.ln.host.attn ∧
      s.laneB.ln.host.attn ||| 0x200 = t.laneB.ln.host.attn
    let enters := fun (t : State) (k : Nat) => t.pd.state k ≠ q.state k ∧ (t.pd.state k = 3 ∨ t.pd.state k = 4)
    (∀ l : LaneId, ∃ t, exec (.loadCommand l) s = .next t ∧
      let x := s.lane l
      let runs := x.running = true ∧ x.ln.on = true ∧
          (x.ln.sched.cLate.any fun c => (x.img.ctx c).any fun r => r.typ == 7) = false
      let takes := runs ∧ s.ref.token = true ∧ s.ref.owner = l
      let cmd := fun k : Nat => ((q.cf k).doors.isEmpty && (q.ch k).on) || (q.cf k).doors.any fun d =>
        let c := x.dcfg d
        let y := (x.dway d).cur
        (c.lchLamp == k && y.lampOn) || (c.lchChime == k && y.chimeOn) || (c.lchLock == k && y.lockOn)
      (¬runs → t = s) ∧
      (runs → (t.lane l).ln.loadCmds = some ((List.range 32).map fun k => (cmd k, (q.ch k).duty)) ∧
        (t.lane l).ln.axes = x.ln.axes ∧ (t.lane l).keep = x.keep) ∧
      (runs → ¬takes → t.pd = q ∧ onlyLane l s t) ∧
      (takes → t.pd.cmdage = 0 ∧ t.pd.out = false ∧ t.pd.nocmd = q.nocmd ∧ t.pd.cfg = q.cfg ∧ t.pd.grps = q.grps ∧
        ∀ k : Fin 32, let c := q.ch k
          let c' := t.pd.ch k
          let f := q.cf k
          let on' := cmd k
          let cmd' : LoadCh := { c with cmdOn := on', cmdDuty := c.duty }
          (f.leads = false → c' = c) ∧
          (f.leads = true → on' = false → off c c' ∧ c'.cmdOn = false ∧ c'.hold = .none ∧ c'.left = none) ∧
          (f.leads = true → on' = true → restarts cmd' c' f (q.grp k).up) ∧
          (enters t k → t.laneA.ln.host.attn.getLsbD 9 = true ∧ t.laneB.ln.host.attn.getLsbD 9 = true))) ∧
    (∃ t, exec .nocmdTimeout s = .next t ∧
      let due := 400 ≤ q.cmdage ∧ q.out = false
      (¬due → t = s) ∧
      (due → t.pd.nocmd = true ∧ t.pd.out = true ∧ attn9 t ∧ noLanes t ∧ t.pd.cfg = q.cfg ∧ t.pd.grps = q.grps ∧
        ∀ k : Fin 32, off (q.ch k) (t.pd.ch k) ∧ (t.pd.ch k).cmdOn = false ∧ (t.pd.ch k).left = (q.ch k).left)) ∧
    ∀ k : Fin 32,
      let c := q.ch k
      let f := q.cf k
      let onlyCh := fun t : State => { t with pd := t.pd.modCh k (fun _ => c) } = s
      let found := fun (t : State) (code : Nat) =>
        t.pd.cfg = q.cfg ∧ t.pd.grps = q.grps ∧ attn9 t ∧ (∀ j : Fin 32, j ≠ k → (t.pd.ch j).onNow = (q.ch j).onNow ∧
          (t.pd.ch j).retleft = (q.ch j).retleft) ∧
        ∀ l : LaneId, (t.lane l).ln.ledg.due = (s.lane l).ln.ledg.due ++ [.event code k.val s.tick (s.trainTime l)] ∧
          (t.lane l).ln.axes = (s.lane l).ln.axes ∧ (t.lane l).keep = (s.lane l).keep
      (∃ t, exec (.clr k) s = .next t ∧ (f.leads = false → t = s) ∧
        (f.leads = true → noLanes t ∧ (∀ j : Fin 32, j ≠ k → t.pd.ch j = q.ch j) ∧
          let fresh : LoadCh := { c with
            retleft := f.retry, latched := false, left := if c.hold = .latchOff then some 0 else none }
          restarts fresh (t.pd.ch k) f (q.grp k).up)) ∧
      (∃ t, exec (.pwmPeriodBoundary k) s = .next t ∧
        let due := f.leads = true ∧ f.mode = 1 ∧ c.onNow = true
        (¬due → t = s) ∧ (due → onlyCh t ∧ t.pd.ch k = { c with dutyUse := c.cmdDuty, pwmfUse := f.pwmf })) ∧
      (∃ t, exec (.chimeToneAdvance k) s = .next t ∧
        let z := vget q.chimes {} (k.val - 28)
        let lasts := 392 * (if c.tone = 1 then z.d1 else if c.tone = 2 then z.d2 else if c.tone = 3 then z.d3 else z.pause)
        let due := f.leads = true ∧ f.mode = 2 ∧ c.onNow = true ∧ lasts ≤ c.toneAge + 1
        let pause := z.pause
        (¬due → t = s) ∧
        (due → onlyCh t ∧ t.pd.ch k = { c with
          tone := if c.tone = 3 then (if pause = 0 then 1 else 4) else c.tone % 4 + 1, toneAge := 0 })) ∧
      (∀ i us : Nat, ∃ t, exec (.openLoadOn k i us) s = .next t ∧
        let senses := f.leads = true ∧ c.onNow = true
        let low := f.olen = true ∧ c.olon = false ∧ 4 * i < f.gang * 20 ∧ 10000 ≤ us ∧ (f.mode ≠ 1 ∨ 1024 ≤ 10 * c.dutyUse)
        let c' := t.pd.ch k
        (¬senses → t = s) ∧ (senses → c'.isum = min i 16383 ∧ c'.onNow = true ∧ c'.olon = (c.olon || decide low)) ∧
        (senses → low → found t 0x0501) ∧ (senses → ¬low → t.laneA = s.laneA ∧ t.laneB = s.laneB)) ∧
      (∀ mv us : Nat, ∃ t, exec (.openLoadOff k mv us) s = .next t ∧
        let due := f.leads = true ∧ f.offdg = true ∧ c.onNow = false ∧ 1200 ≤ c.offAge + 1 ∧ 4000 < mv ∧ 10000 ≤ us ∧
            c.oloff = false ∧ c.shortb = false
        (¬due → t = s) ∧ (due → t.pd.ch k = { c with oloff := true } ∧ found t 0x0502)) ∧
      (∀ mv us : Nat, ∃ t, exec (.shortb k mv us) s = .next t ∧
        let due := f.leads = true ∧ f.offdg = true ∧ c.onNow = false ∧ 800 ≤ c.offAge + 1 ∧ 4000 < mv ∧ 1000 ≤ us ∧
            c.shortb = false
        (¬due → t = s) ∧ (due → t.pd.ch k = { c with shortb := true } ∧ found t 0x0503))

/-- LOAD_OVERCURRENT, GROUP_OVERCURRENT, THERMAL_*, GROUP_UNDERVOLTAGE, GROUP_VOLTAGE_RECOVERY, RETRY_*: protection and
return. (14_load_channels.md; R413 to R418, R423, R425 to R429, R435; times are counted in ticks, log entry 15) -/
def Obligations.GangsLatchOffShutDownAndRestart : Prop :=
  ∀ s : State,
    let q := s.pd
    let restarts := fun (c c' : LoadCh) (f : LoadCfg) (up : Bool) =>
      let may := c.onNow = false ∧ c.tlatch = false ∧ c.latched = false ∧ c.cmdOn = true ∧ (f.mode ≠ 1 ∨ c.cmdDuty ≠ 0)
      let spent := c.hold ≠ .none ∧ c.retleft = 0
      let ready := up = true ∧ (c.hold = .latchOff → c.left = some 0)
      (¬may → c' = c) ∧ (may → ¬spent → ¬ready → c' = c) ∧
      (may → spent → c'.latched = true ∧ c'.onNow = false ∧ c'.retleft = 0 ∧ c'.events = c.events) ∧
      (may → ¬spent → ready → c'.onNow = true ∧ c'.hold = .none ∧ c'.left = none ∧ c'.latched = false ∧
        c'.retleft = (if c.hold = .latchOff then c.retleft - 1 else c.retleft) ∧ c'.events = c.events)
    let latchesOff := fun (c c' : LoadCh) (f : LoadCfg) (tl : Bool) => c'.onNow = false ∧ c'.oc = true ∧ c'.quiet = 0 ∧
      c'.clamped = (c.clamped || c.onNow) ∧ c'.events = (if c.events < 0xFF then c.events + 1 else 0xFF) ∧
      c'.retleft = c.retleft ∧ c'.tlatch = tl ∧ c'.hold = .latchOff ∧
      (c.retleft = 0 → tl = false → c'.latched = true) ∧
      ((c.retleft ≠ 0 ∨ tl = true) → c'.left = some (400 * f.rtint) ∧ c'.latched = c.latched)
    let noLanes := fun t : State => (({ t with pd := q }).modLN .a fun y => { y with host := s.laneA.ln.host }).modLN .b
      (fun y => { y with host := s.laneB.ln.host }) = s
    let tells := fun (t : State) (k : Nat) => t.pd.state k ≠ q.state k → t.pd.state k = 3 ∨ t.pd.state k = 4 →
      t.laneA.ln.host.attn.getLsbD 9 = true ∧ t.laneB.ln.host.attn.getLsbD 9 = true
    (∀ k : Fin 32,
      let m := (q.cf k).leader
      let f := q.cf m
      let c := q.ch m
      let steady := fun (t : State) (j : Nat) =>
        (t.pd.ch j).onNow = (q.ch j).onNow ∧ (t.pd.ch j).retleft = (q.ch j).retleft ∧
            (t.pd.ch j).latched = (q.ch j).latched ∧
          (t.pd.ch j).events = (q.ch j).events ∧ (t.pd.ch j).tlatch = (q.ch j).tlatch
      let rest := fun t : State => t.pd.cfg = q.cfg ∧ t.pd.grps = q.grps ∧ noLanes t ∧
        ∀ j : Fin 32, j.val ≠ m → steady t j
      (m < 32 → ∀ i us : Nat, ∃ t, exec (.loadOvercurrent k i us) s = .next t ∧
        let senses := f.leads = true ∧ c.onNow = true
        let exceeds := f.gang ≠ 8 ∧ f.gang * f.ilatch * 100 < 4 * i ∧ 50 ≤ us
        let hot := f.leads = true ∧ c.hold = .thermal ∧ c.onNow = false ∧ c.offAge ≤ 2
        let c' := t.pd.ch m
        (¬senses → ¬(hot ∧ exceeds) → t = s) ∧ (hot → exceeds → rest t ∧ tells t m ∧ latchesOff c c' f c.tlatch) ∧
            (senses → rest t ∧ tells t m) ∧
        (senses → f.gang = 8 → steady t m ∧ c'.isum = min i 16383 ∧ c'.limit = decide (10000 ≤ 4 * i)) ∧
        (senses → f.gang ≠ 8 → ¬exceeds → steady t m ∧ c'.isum = min i 16383 ∧ c'.limit = c.limit) ∧
        (senses → exceeds → latchesOff c c' f c.tlatch)) ∧
      (m < 32 → ∀ tj : Nat, ∃ t, exec (.thermalShutdown k tj) s = .next t ∧
        let shuts := 214 ≤ tj
        let c' := t.pd.ch m
        let limited := f.gang = 8 ∧ (c.limit = true ∨ ((c.limAge.map fun n => decide (n ≤ 400)).getD false) = true)
        (f.leads = false → t = s) ∧
        (f.leads = true → rest t ∧ tells t m ∧ (t.pd.ch k).tj = min tj 255) ∧
        (f.leads = true → ¬shuts → steady t m ∧ c'.tsd = c.tsd ∧ c'.hold = c.hold) ∧
        (f.leads = true → shuts → c'.tsd = true ∧ c'.tlatch = true ∧ c'.onNow = false) ∧
        (f.leads = true → shuts → c.onNow = true → limited → latchesOff c c' f true) ∧
        (f.leads = true → shuts → c.onNow = true → ¬limited → c'.hold = .thermal ∧ c'.left = none ∧ c'.events = c.events ∧
          c'.retleft = c.retleft ∧ c'.oc = c.oc ∧ c'.clamped = true) ∧
        (f.leads = true → shuts → c.onNow = false → c'.hold = c.hold ∧ c'.left = c.left ∧ c'.events = c.events)) ∧
      (m < 32 → ∀ tjs : List Nat, ∃ t, exec (.thermalRelease k tjs) s = .next t ∧
        let c' := t.pd.ch m
        let cool := ((List.range f.gang).all fun j => decide ((t.pd.ch (m + j)).tj < 189)) = true
        let mine : LoadCh := { c with tlatch := false, tj := c'.tj }
        (f.leads = false → t = s) ∧
        (f.leads = true → rest t ∧ tells t m ∧ ∀ j : Fin 32, j.val < f.gang → m + j < 32 →
          (t.pd.ch (m + j)).tj = min ((tjs[j.val]?).getD (q.ch (m + j)).tj) 255) ∧
        (f.leads = true → ¬(c.tlatch = true ∧ cool) → steady t m ∧ c'.hold = c.hold ∧ c'.left = c.left) ∧
        (f.leads = true → c.tlatch = true → cool → restarts mine c' f (q.grp m).up)) ∧
      (∃ t, exec (.retryIntervalExpiry k) s = .next t ∧
        let due := (q.cf k).leads = true ∧ (q.ch k).left = some 0 ∧ q.cmdage = 0
        (¬due → t = s) ∧
        (due → noLanes t ∧ tells t k ∧ restarts (q.ch k) (t.pd.ch k) (q.cf k) (q.grp k).up ∧ ∀ j : Fin 32, j ≠ k →
            t.pd.ch j = q.ch j)) ∧
      (∃ t, exec (.retryReload k) s = .next t ∧
        let due := (q.cf k).leads = true ∧ (q.ch k).quiet = 2400000
        (¬due → t = s) ∧ (due → t = s.modPd fun z => z.modCh k fun c => { c with
          retleft := (q.cf k).retry, quiet := 2400001 }))) ∧
    ∀ g : Fin 4,
      let mine := fun k : Nat => k / 8 = g.val
      (∀ (is : List Nat) (us : Nat), ∃ t, exec (.groupOvercurrent g is us) s = .next t ∧
        let cur := fun j : Nat => (is[j]?).getD 0
        let total := ((List.range 8).map cur).sum
        let amps := fun j : Nat => ((List.range (q.cf (8 * g.val + j)).gang).map fun i => cur (j + i)).sum
        let on := fun j : Nat => (q.cf (8 * g.val + j)).leads && (q.ch (8 * g.val + j)).onNow
        let big := (List.range 8).any fun j => (q.cf (8 * g.val + j)).gang == 8
        let most := fun j : Nat => on j && (List.range 8).all fun i => !on i || decide (amps i < amps j) ||
          (amps i == amps j && decide (j ≤ i))
        let acts := big = false ∧ 10000 < 4 * total ∧ 1000 ≤ us
        let sensed := fun c' c : LoadCh => { c' with isense := c.isense, isum := c.isum } = c
        (t.pd.grp (8 * g.val)).gsum = min (4 * total / 10) 4095 ∧ noLanes t ∧ t.pd.cfg = q.cfg ∧
        (∀ j : Fin 8, (t.pd.ch (8 * g.val + j.val)).onNow = true →
            (t.pd.ch (8 * g.val + j.val)).isense = min (cur j) 1023) ∧
        (¬(acts ∧ (List.range 8).any on = true) → (∀ k : Fin 32, sensed (t.pd.ch k) (q.ch k)) ∧
          (t.pd.grp (8 * g.val)).goc = (q.grp (8 * g.val)).goc) ∧
        (acts → ∀ j : Fin 8, most j.val = true → (t.pd.grp (8 * g.val)).goc = true ∧
          let k' := 8 * g.val + j.val
          latchesOff (q.ch k') (t.pd.ch k') (q.cf k') (q.ch k').tlatch ∧
          ∀ k : Fin 32, k.val ≠ k' → sensed (t.pd.ch k) (q.ch k))) ∧
      (∀ v : Nat, (∃ t, exec (.groupUndervoltage g v) s = .next t ∧
          let there := groupFused s.part g = false
          let g' := t.pd.grp (8 * g.val)
          (¬there → t = s) ∧ (there → noLanes t ∧ t.pd.cfg = q.cfg ∧ g'.vload = min v 1023) ∧
          (there → 160 ≤ v → t.pd.chs = q.chs ∧ g'.guv = (q.grp (8 * g.val)).guv) ∧
          (there → v < 160 → g'.guv = true ∧ g'.up = false ∧ ∀ k : Fin 32, let c := q.ch k
            let c' := t.pd.ch k
            (¬mine k → c' = c) ∧
            (mine k → c'.onNow = false ∧ c'.clamped = (c.clamped || c.onNow) ∧ c'.retleft = c.retleft ∧
                c'.events = c.events ∧
              c'.left = c.left ∧ c'.hold = c.hold ∧ c'.cmdOn = c.cmdOn))) ∧
        (∃ t, exec (.groupVoltageRecovery g v) s = .next t ∧
          let there := groupFused s.part g = false
          let g' := t.pd.grp (8 * g.val)
          (¬there → t = s) ∧ (there → noLanes t ∧ t.pd.cfg = q.cfg ∧ g'.vload = min v 1023) ∧
          (there → v ≤ 170 → t.pd.chs = q.chs ∧ g'.guv = (q.grp (8 * g.val)).guv) ∧
          (there → 170 < v → g'.guv = false ∧ g'.up = true ∧ ∀ k : Fin 32,
            (¬(mine k ∧ (q.cf k).leads = true) → t.pd.ch k = q.ch k) ∧
            (mine k → (q.cf k).leads = true → restarts (q.ch k) (t.pd.ch k) (q.cf k) true))))

/-- LEDGER_REC, TRACE_SAMPLE, LEDGER_SCAN, MIRROR_COPY, LEDGER_UPACK, LEDGER_ACK, LEDGER_SEND, LEDGER_DATAGRAM.
(15_cycle_ledger.md; R437 to R441, R444 to R452) -/
def Obligations.LedgerRecordsAreWrittenFoundAndAcknowledged : Prop :=
  ∀ (l : LaneId) (s : State),
    let x := s.lane l
    let g := x.ln.ledg
    let i := x.img
    let fmt := i.ledFormat
    let size := if fmt = 0 then 256 else 48
    let slots := if fmt = 0 then 49152 else 262144
    let code := if fmt = 0 then 0x4E else 0x4B
    let m := x.keep.mem
    let at' := fun seq : Nat => 0x01000000 + (seq - 1) % slots * size
    let right := fun r : List Byte => (crc32c (r.take (size - 4))).toNat = le32 r (size - 4)
    let axesStay := fun t : State => (t.lane l).ln.axes.map (fun a => a.cur.prof) = x.ln.axes.map (fun a => a.cur.prof) ∧
      t.lane l.other = s.lane l.other ∧ (t.lane l).st = x.st
    (∃ t, exec (.ledgerRec l) s = .next t ∧ axesStay t ∧
      let y := t.lane l
      let g' := y.ln.ledg
      let new := (g.due.filter fun e => e.tick != s.tick).length
      let own := s.ref.token = true ∧ s.ref.owner = l
      let holds := g.scan = true ∨ 3 ≤ x.ln.sched.step
      let n := if holds then 0 else if g.pend.isEmpty then new + (if g.dropped = 0 then 0 else 1)
        else min 8 (min 128 (g.pend.length + new))
      let seq := (g.nextseq + BitVec.ofNat 32 n - 1).toNat
      (¬own → t = s) ∧
      (own → g'.nextseq = g.nextseq + BitVec.ofNat 32 n ∧
          y.keep.seqhw = (if n = 0 then x.keep.seqhw else BitVec.ofNat 32 seq) ∧
        g'.due = g.due.filter (fun e => e.tick == s.tick) ∧
        (∀ a : Nat, a < 0x01000000 ∨ 0x02000000 ≤ a → Memory.get y.keep.mem a = Memory.get m a) ∧
        (n = 0 → y.keep.mem = m) ∧
        (holds → g'.pend.length = min 128 (g.pend.length + new) ∧ g'.dropped = g.dropped + (g.pend.length + new - 128)) ∧
        (¬holds → g.pend ≠ [] → g'.pend.length = min 128 (g.pend.length + new) - n) ∧
        (¬holds → g.pend = [] → g'.pend = [] ∧ g'.dropped = 0)) ∧
      (own → s.memWf → 0 < n → let r := Memory.read y.keep.mem (at' seq) size
        (byteAt r 0 = code ∧ le32 r 4 = seq ∧ right r))) ∧
    (∀ d : Fin 12, ∃ t, exec (.traceSample l d) s = .next t ∧
      let y := vget g.cycles none d
      let y' := vget (t.lane l).ln.ledg.cycles none d
      t.modLN l (fun z => { z with ledg := { z.ledg with cycles := vmod z.ledg.cycles d fun _ => y } }) = s ∧
      (y = none → t = s) ∧
      ∀ c ∈ y, let due := ticksSince s.tick c.tkstart % c.tdec = 0 ∧ c.lastSample ≠ some s.tick
        let axes := (x.dcfg d).axesUp
        let keep := c.samples.length + axes.length - 4092
        (¬due → t = s) ∧
        (due → y'.map Cycle.samples = some ((c.samples ++ axes.map fun n =>
              (s.tick, traceSample s.tick n (x.axis n).cur (x.acfg n) (x.axis n).cmd.hold)).drop keep) ∧
          y'.map Cycle.wrap = some (c.wrap || decide (0 < keep)) ∧ y'.map Cycle.lastSample = some (some s.tick) ∧
          y'.map Cycle.axs = some c.axs)) ∧
    (∃ t, exec (.ledgerScan l) s = .next t ∧ axesStay t ∧ (t.lane l).keep = x.keep ∧
      let g' := (t.lane l).ln.ledg
      let valid := validRecords fmt m
      let next := (valid.map fun r => le32 r 4).foldl max x.keep.seqhw.toNat + 1
      let marks := valid.filter fun r => byteAt r 1 == 3 && le16 r (if fmt = 0 then 40 else 16) == 0x0701
      (g.scan = false → t = s) ∧
      (g.scan = true → g'.scan = false ∧ g'.nextseq = BitVec.ofNat 32 next ∧ x.keep.losthw ≤ g'.lost ∧
        (∀ r ∈ valid, right r ∧ (le32 r 4 + 1 = next →
            g'.lost = max x.keep.losthw (if fmt = 0 then le32 r 8 else le16 r 34) ∨
          (valid.filter fun z => le32 z 4 + 1 == next).length ≠ 1)) ∧
        (valid = [] → g'.lost = x.keep.losthw) ∧
        (marks = [] → g'.upseq = BitVec.ofNat 32 (min next (max 1 (max (next - slots) x.keep.fmtbase.toNat)))) ∧
        g'.pend = g.pend ∧ g'.due = g.due)) ∧
    (∃ t, exec (.mirrorCopy l) s = .next t ∧
      let o := s.lane l.other
      let y := t.lane l
      let due := g.mirgap = true ∧ s.ref.token = true ∧ s.ref.owner = l.other
      (¬due → t = s) ∧
      (due → axesStay t ∧ y.ln.ledg.mirgap = false ∧ y.ln.ledg.nextseq = o.ln.ledg.nextseq ∧
          y.ln.ledg.upseq = o.ln.ledg.upseq ∧
        y.ln.ledg.lost = o.ln.ledg.lost ∧ y.ln.ledg.tnext = o.ln.ledg.tnext ∧ y.ln.ledg.tseq = o.ln.ledg.tseq ∧
        (s.memWf → ∀ a : Nat, Memory.get y.keep.mem a =
          if 0x01000000 ≤ a ∧ a < 0x02000000 then Memory.get o.keep.mem a else Memory.get m a))) ∧
    (∀ (upto : Word) (send : Bool), ∃ t, exec (if send then .ledgerAck l upto else .ledgerUpack l upto) s = .next t ∧
      axesStay t ∧ (t.lane l).keep = x.keep ∧
      let g' := (t.lane l).ln.ledg
      let n := upto.toNat
      let ok := g.upseq.toNat ≤ n + 1 ∧ n < g.nextseq.toNat
      (¬ok → t = s.modLN l fun z => { z with ledg := { z.ledg with lenerr := true } }) ∧
      (ok → g'.upseq = upto + 1 ∧ g'.lenerr = g.lenerr ∧ g'.nextseq = g.nextseq ∧ g'.due = g.due ++
        (if n + 1 = g.upseq.toNat then [] else [.event 0x0701 n s.tick (s.trainTime l)]))) ∧
    (∀ count : Nat, ∃ t, exec (.ledgerSend l count) s = .next t ∧
      let have' := g.nextseq.toNat - g.upseq.toNat
      let busy := g.sending ≠ 0 ∨ i.colIp = 0
      let over' := count ≠ 0xFFFF ∧ have' < count
      (busy → t = s) ∧ (¬busy → over' → t = s.modLN l fun z => { z with ledg := { z.ledg with lenerr := true } }) ∧
      (¬busy → ¬over' → t = s.modLN l fun z => { z with ledg := { z.ledg with
        sending := if count = 0xFFFF then have' else count
        sendSeq := g.upseq } })) ∧
    (∃ t, exec (.ledgerDatagram l) s = .next t ∧ (t.lane l).keep = x.keep ∧ (t.lane l).ln.ledg.upseq = g.upseq ∧
        axesStay t ∧
      let g' := (t.lane l).ln.ledg
      let e := i.colIf
      let works := i.colIp ≠ 0 ∧ s.netOn l e = true
      let n := min g.sending (if fmt = 0 then 5 else 29)
      let due := n ≠ 0 ∧ (g.sentAt.all fun k => decide (40 ≤ ticksSince s.tick k)) = true
      (¬works → t = s) ∧
      (works → g'.autoSeqs = [] ∧
        (¬due → g'.sending = g.sending ∧ g'.sentAt = g.sentAt ∧ (g.autoSeqs = [] → t = s)) ∧
        (due → g'.sending = g.sending - n ∧ g'.sendSeq = g.sendSeq + BitVec.ofNat 32 n ∧ g'.sentAt = some s.tick ∧
          (g.autoSeqs = [] → (t.lane l).ln.net.tx.length = x.ln.net.tx.length + 1) ∧
          ((x.macOf e (nextHop i e i.colIp)).isSome = true → ∀ f ∈ (t.lane l).ln.net.tx.getLast?,
            let p := f.2.drop (if i.vid e = 0 then 42 else 46)
            f.1 = e ∧ p.length = 20 + n * size ∧ byteAt p 0 = 0x4C ∧ byteAt p 1 = 0x47 ∧ byteAt p 2 = code ∧
                byteAt p 3 = n ∧
            le32 p 8 = g.sendSeq.toNat ∧ le32 p 12 = g.upseq.toNat ∧
            (crc32c (p.take (16 + n * size))).toNat = le32 p (16 + n * size) ∧
            ∀ k : Fin 29, k < n → slice p (16 + k * size) size = Memory.read m (at' (g.sendSeq.toNat + k)) size))))

/-- PATROL, SRAM_ROW_CHECK, BLADE_CHECK, RELAY_POINT_CHECK, RING_SEGMENT_CHECK: which check is taken, and what its verdict
does. (16_health_selftest.md; R457, R460 to R464, R466, R467) -/
def Obligations.PatrolChecksTakeJudgeAndRetireUnits : Prop :=
  ∀ (l : LaneId) (s : State),
    let x := s.lane l
    let h := x.ln.hlth
    let k := x.keep
    let under := fun typ : Nat => (h.cur.find? fun c => unitType c.2 == typ).map Prod.snd
    let recent := fun z : HEntry => ((z.stamps.take 7).filter fun t => decide (k.life < t + 86400) ||
        k.life == t + 86400).length
    let marks := fun u : Word => ((k.table.find? fun z => z.unit == u).map recent).getD 0
    let lasts := fun (t : State) (u : Word) (failed : Bool) =>
      let y := t.lane l
      let typ := unitType u
      let n := u.toNat
      let cause := fun w : Nat => y.ln.hlth.degr = true ∧ y.ln.hlth.causes.contains w = true
      tableFind y.keep.table u = none ∧ y.mr.lastnew = true ∧ y.ln.host.attn.getLsbD 4 = true ∧
      y.keep.retired = (if (typ = 1 ∨ typ = 2 ∨ typ = 4) ∧
          k.retired.length < 192 then k.retired ++ [(u, k.life)] else k.retired) ∧
      (typ = 1 →
        let b := vget k.banks {} (fld n 24 4)
        let b' := vget y.keep.banks {} (fld n 24 4)
        let row := fld n 0 10
        b' = b.retire row failed ∧ (b'.short = true → cause 3) ∧
        (failed = true → row < 512 → b.gone.contains row = false → b.holds row = some row →
          b'.gone = row :: b.gone ∧ (b.spares = [] → b'.short = true) ∧
          ∀ q ∈ b.spares.head?, b'.rowOf row = b.test ∧ b'.test = q ∧ b'.short = b.short)) ∧
      (typ = 2 → (vget y.keep.fenced 0 (fld n 3 3)).getLsbD (fld n 0 3) = true ∧ (y.bOverload = true → cause 2)) ∧
      (typ = 3 → y.ln.hlth.seglast = true ∧ y.ln.hlth.segs.contains u = true) ∧
      (typ = 4 → cause 5) ∧ (typ = 5 → cause 4)
    let transient := fun (t : State) (u : Word) =>
      let y := t.lane l
      (7 ≤ marks u → lasts t u false) ∧
      (marks u < 7 → k.life < 2 ^ 32 → y.keep.retired = k.retired ∧ y.keep.fenced = k.fenced ∧
        y.keep.banks = k.banks ∧ ∀ z ∈ tableFind y.keep.table u, z.stamps.head? = some k.life ∧
            z.count k.life = marks u + 1)
    let others := fun t : State => let o := (s.lane l.other).ln.host
      (t.modLN l.other fun x => { x with host := o }).lane l.other = s.lane l.other ∧
        (t.lane l.other).ln.host = { o with attn := (t.lane l.other).ln.host.attn }
    let ends := fun (t : State) (u tested : Word) (good : Bool) =>
      let y := t.lane l
      let mine := h.ordered.contains u
      let up := fun v : Nat => if v < 0xFFFF then v + 1 else 0xFFFF
      y.ln.hlth.cur = h.cur.filter (fun c => c.2 != u) ∧ others t ∧ y.ln.axes = x.ln.axes ∧ y.st = x.st ∧
      y.ln.hlth.passes = (if good then up h.passes else h.passes) ∧
          y.ln.hlth.fails = (if good then h.fails else up h.fails) ∧
      (good = false → lasts t tested true) ∧
      (good = true → mine = true → y.keep = k ∧ y.mr = x.mr) ∧ (good = true → mine = false → transient t u)
    (∀ pod : Fin 8, ∃ t, exec (.patrol l pod) s = .next t ∧
      let task := x.ln.sched.tasks.any fun q => q.home == pod.val && (x.img.ctx q.ctx).any (fun r => r.typ == 11) &&
        (List.range 64).any fun b => q.pos == .running (b / 8) (b % 8)
      let may := x.ln.on = true ∧ task = true ∧ (h.cur.any fun c => c.1 == pod.val) = false
      let ringHome := fun r : Nat => ((x.img.ctxs.find? fun c => c.typ == 6 && c.index == r).map CtxRec.home).getD 0
      let fits := fun u : Word =>
        (unitType u != 2 || fld u.toNat 3 3 == pod.val) && (unitType u != 3 || ringHome (fld u.toNat 4 2) == pod.val) &&
          !h.cur.any fun c => unitType c.2 == unitType u && (unitType u != 1 || fld c.2.toNat 24 4 == fld u.toNat 24 4)
      let y := t.lane l
      let first := h.queue.find? fits
      (¬may ∨ first = none → t = s) ∧
      (may → ∀ u ∈ first, unitType u = 1 → (vget k.banks {} (fld u.toNat 24 4)).spares = [] →
        y.ln.hlth.queue = h.queue.erase u ∧ y.ln.hlth.cur = h.cur ∧ t.lane l.other = s.lane l.other ∧
        (h.ordered.contains u = true → y.keep = k) ∧ (h.ordered.contains u = false → transient t u)) ∧
      (may → ∀ u ∈ first, ¬(unitType u = 1 ∧ (vget k.banks {} (fld u.toNat 24 4)).spares = []) →
        y.ln.hlth.queue = h.queue.erase u ∧ y.ln.hlth.cur = h.cur ++ [(pod.val, u)] ∧ y.keep = k ∧
        t.lane l.other = s.lane l.other ∧
        (unitType u = 1 → y.ln.hlth.tbusy.getLsbD (fld u.toNat 24 4) = true) ∧
        (unitType u = 2 → y.ln.sched.quar = some (u.toNat % 64)) ∧
        (unitType u = 3 → y.ln.hlth.loops = 0 ∧ y.ln.hlth.loopOut = false ∧ y.ln.hlth.loopHop = none ∧
          y.ln.hlth.loopAt = none) ∧
        (unitType u = 5 → y.ln.hlth.lchk = true))) ∧
    (∀ good bad : Bool, ∃ t, exec (.sramRowCheck l good bad) s = .next t ∧ (under 1 = none → t = s) ∧
      ∀ u ∈ under 1, ends t u u (good && !bad) ∧ (t.lane l).ln.hlth.tbusy.getLsbD (fld u.toNat 24 4) = false) ∧
    (∀ results : List Byte, ∃ t, exec (.bladeCheck l results) s = .next t ∧
      let waits := fun u : Word => x.ln.sched.tasks.any fun q =>
        q.pos == .running (fld u.toNat 3 3) (fld u.toNat 0 3) && !(x.img.ctx q.ctx).any fun r => r.typ == 11
      (under 2 = none → t = s) ∧ ∀ u ∈ under 2, (waits u = true → t = s) ∧
        (waits u = false → ends t u u (crc32c results == Config.selfCheckCrc) ∧ (t.lane l).ln.sched.quar = none)) ∧
    (∀ good : Bool, ∃ t, exec (.relayPointCheck l good) s = .next t ∧ (under 4 = none → t = s) ∧
      ∀ u ∈ under 4, ends t u u good) ∧
    (∀ err : LineErr, ∃ t, exec (.ringSegmentCheck l err) s = .next t ∧ (under 3 = none → t = s) ∧
      ∀ u ∈ under 3,
        let r := fld u.toNat 4 2
        let nb := (x.ringImg r).nb r
        let line := (s.hw r).line
        let f := applyErr line err
        let back := (s.hw r).typ = some .loopT
        let bad := (List.range nb).find? fun j => byteAt f (250 + j) != 1
        let hop := if h.loopHop.isSome then h.loopHop else if bad.isSome then bad
          else if loopOk r f && (hdrOf r f).isSome then none else some 6
        let g' := (t.lane l).ln.hlth
        let waits := h.loopAt.any fun a => decide (ticksSince s.tick a < 100)
        let free := (x.ring r).st.tracked && x.img.axisRecs.all fun a => a.ring != r || (let c := (x.axis a.axis).cur
          !([HomState.backOff, .approach, .settle].contains c.hom.st) && !([OState.exceeding, .preArmed, .confirmed,
              .braking,
            .relief].contains c.obs.ostate))
        let sends := h.loopOut = false ∧ waits = false ∧ free = true ∧ s.owns l = true
        (h.loopOut = true → ¬back → t = s) ∧
        (h.loopOut = true → back → h.loops + 1 < 4 →
            g' = { h with loops := h.loops + 1, loopOut := false, loopHop := hop }) ∧
        (h.loopOut = true → back → 4 ≤ h.loops + 1 → hop = none → ends t u u true) ∧
        (h.loopOut = true → back → 4 ≤ h.loops + 1 → ∀ j ∈ hop, ends t u (segUnit r j) false) ∧
        (h.loopOut = false → ¬sends → t = s) ∧
        (sends → g' = { h with loopOut := true, loopAt := some s.tick } ∧ ∀ z ∈ ((t.lane l).ring r).built,
          (hdrOf r z).map (fun e => (e.typ, e.nb)) = some (.loopT, nb) ∧ loopOk r z = true ∧ z.length = 250 + nb ∧
          z.drop 250 = List.replicate nb 0))

/-- LANE_CHECK, INPUT_CHECK, HEALTH_CHECK_REQUEST, LIFE_SECOND, DEGRADE_CLEAR: verdicts, the host's own checks, and the
end of degradation. (16_health_selftest.md; R464, R466 to R471) -/
def Obligations.LaneAndInputChecksRequestsAndTime : Prop :=
  ∀ s : State,
    (∀ (i : Fin 32) (frames : List TestFrame), ∃ t, exec (.inputCheck i frames) s = .next t ∧
      let c := s.sc
      let on := c.scrun = true ∧ c.chk.getLsbD i = true
      let src := c.source .safetyCore i
      let fs := (frames.filter TestFrame.high).take 4
      let bad := fs.any fun f => missingIn src f.runs || foreignIn src f.runs || !f.same
      let life := (s.lane s.ref.owner).keep.life
      let u := inputUnit i
      let old := ((s.keep.inputs.find? fun z => z.unit == u).map fun z =>
        ((z.stamps.take 7).filter fun t => decide (life < t + 86400) || life == t + 86400).length).getD 0
      let fails := bad = true ∨ (fs.length = 4 ∧ s.keep.inLast.getLsbD i = false ∧ 7 ≤ old)
      (¬on ∨ (bad = false ∧ fs.length < 4) → t = s) ∧
      (on → bad = true ∨ fs.length = 4 → t.sc.chk.getLsbD i = false ∧
        (∀ j : Fin 32, j ≠ i → t.sc.chk.getLsbD j = c.chk.getLsbD j ∧ t.keep.inLast.getLsbD j = s.keep.inLast.getLsbD j) ∧
        t.laneA.keep = s.laneA.keep ∧ t.laneB.keep = s.laneB.keep ∧ t.sc.outs = c.outs) ∧
      (on → fails → (∀ l : LaneId, (t.lane l).mr.lastnew = true ∧ (t.lane l).ln.host.attn.getLsbD 4 = true) ∧
        t.keep.inLast.getLsbD i = true ∧ tableFind t.keep.inputs u = none ∧
        ∀ f : Fin 16, (fnRec c.saf f).uses i = true → (vget t.sc.fns {} f).sc.st = .fault ∧
            (vget t.sc.fns {} f).sc.code = 7) ∧
      (on → ¬fails → bad = false → fs.length = 4 → t.keep.inLast.getLsbD i = false ∧ t.sc.fns = c.fns ∧
        (s.keep.inLast.getLsbD i = true → t.keep.inputs = s.keep.inputs) ∧
        (s.keep.inLast.getLsbD i = false → ∀ z ∈ tableFind t.keep.inputs u,
          z.stamps.head? = some life ∧ z.count life = old + 1))) ∧
    ∀ l : LaneId,
      let x := s.lane l
      let h := x.ln.hlth
      let others := fun t : State => let o := (s.lane l.other).ln.host
        (t.modLN l.other fun x => { x with host := o }).lane l.other = s.lane l.other ∧
          (t.lane l.other).ln.host = { o with attn := (t.lane l.other).ln.host.attn }
      (∀ (blades : List (Fin 64 × List Byte)) (golden : List Byte) (relays link : Bool), ∃ t,
        exec (.laneCheck l blades golden relays link) s = .next t ∧
        let u := (h.cur.find? fun c => unitType c.2 == 5).map Prod.snd
        let y := t.lane l
        let h' := y.ln.hlth
        let good := h'.lcpass
        let bad := (blades.filter fun b => crc32c b.2 != Config.selfCheckCrc).map Prod.fst
        let new := bad.any fun b => !x.fencedBlade (b.val / 8) (b.val % 8)
        (u = none → t = s) ∧
        ∀ v ∈ u,
          h'.cur = h.cur.filter (fun c => c.2 != v) ∧ h'.lchk = false ∧ others t ∧ y.ln.axes = x.ln.axes ∧
          good = (crc32c golden == Config.goldenCrc && relays && (!new || !y.bOverload)) ∧
          (∀ b ∈ bad, y.fencedBlade (b.val / 8) (b.val % 8) = true) ∧
          (new = false → y.keep.fenced = x.keep.fenced) ∧
          h'.passes = (if good then (if h.passes < 0xFFFF then h.passes + 1 else 0xFFFF) else h.passes) ∧
          h'.fails = (if good then h.fails else if h.fails < 0xFFFF then h.fails + 1 else 0xFFFF) ∧
          h'.calm = (if good then 0 else h.calm) ∧ h'.lcSince = (h.lcSince || good) ∧
          (good = false → h'.degr = true ∧ h'.causes.contains 4 = true) ∧
          (good = true → h.ordered.contains v = true → h'.causes.contains 4 = false ∧ h'.degr = !h'.causes.isEmpty) ∧
          (l = .a → t.ref.lapass = good ∧ t.ref.divA = some good) ∧ (l = .b → t.ref.divB = some good ∧
              t.ref.lapass = s.ref.lapass)) ∧
      (∀ u : Word, ∃ t, exec (.healthCheckRequest l u) s = .next t ∧
        let n := u.toNat
        let ok := (fld n 28 4 == 1 && fld n 10 14 == 0 && decide (n % 1024 ≤ 522)) ||
          (fld n 28 4 == 2 && decide (n % 2 ^ 28 < 64)) ||
              (fld n 28 4 == 3 && decide (n % 2 ^ 28 < 64) && decide (n % 16 ≤ 6)) ||
          (fld n 28 4 == 4 && decide (n % 2 ^ 28 < 64)) || u == laneUnit l
        let there := h.queue.contains u || h.cur.any fun c => c.2 == u
        let h' := (t.lane l).ln.hlth
        let only := t.modLN l (fun y => { y with hlth := h, host := x.ln.host }) = s
        (ok = false → (t.lane l).ln.host = { x.ln.host with fmt := true } ∧ h' = h ∧ only) ∧
        let untested := unitType u = 1 ∧ (vget x.keep.banks {} (fld n 24 4)).spares = []
        (ok = true → there = true ∨ untested → t = s) ∧
        (ok = true → there = false → ¬untested → 64 ≤ h.queue.length → only ∧ (t.lane l).ln.host = x.ln.host ∧
          h' = { h with qdrop := if h.qdrop < 0xFFFF then h.qdrop + 1 else 0xFFFF }) ∧
        (ok = true → there = false → ¬untested → h.queue.length < 64 → only ∧ (t.lane l).ln.host = x.ln.host ∧
          h'.queue = h.queue.takeWhile (fun v => typeRank (unitType v) ≤ typeRank (unitType u)) ++
            u :: h.queue.dropWhile (fun v => typeRank (unitType v) ≤ typeRank (unitType u)) ∧
          h'.ordered = u :: h.ordered ∧ h'.qdrop = h.qdrop)) ∧
      (∃ t, exec (.lifeSecond l) s = .next t ∧
        t = s.modKeep l fun k => { k with life := (x.keep.life + 1) % 2 ^ 32 }) ∧
      (∃ t, exec (.degradeClear l) s = .next t ∧
        let due := h.causes.contains 1 = true ∧ h.lcSince = true ∧ 80000 ≤ h.calm
        let y := t.lane l
        (¬due → t = s) ∧
        (due → y.ln.hlth.causes = h.causes.filter (fun c => c != 1) ∧ y.keep = x.keep ∧ y.ln.axes = x.ln.axes ∧
          y.ln.hlth.degr = !y.ln.hlth.causes.isEmpty ∧ t.lane l.other = s.lane l.other ∧
          y.ln.role = (if y.ln.hlth.causes = [] ∧ x.ln.role = .degraded then .unsync else x.ln.role)))

/-- POWER_ON_RESET, MODULE_RESET, SUPPLY_LOW, SUPPLY_GOOD, RESET_RELEASE, LANE_RESET, LRST, STEWARD_WATCHDOG, LANE_START,
HBUSY_RESET_END. (17_power_clocks_reset.md, 01_door_cycle_architecture.md, 16_health_selftest.md; R16, R385, R395,
R401, R458, R466, R473, R474, R478, R481 to R484; the fields of class - keep their content, log entry 8) -/
def Obligations.ResetsReturnTheFieldsOfTheirClass : Prop :=
  ∀ s : State,
    let up := fun v : Nat => if v < 0xFF then v + 1 else 0xFF
    let held := s.lines.inReset = true ∧ s.lines.po = true
    let wasReset := fun (t : State) (po : Bool) (cause : Nat) =>
      t.part = s.part ∧ t.pending = s.pending ∧ t.lines.inReset = true ∧ t.lines.po = po ∧ t.ref = {} ∧
      t.port = { busyReset := true, hmiso := none } ∧ t.pwr = { slewing := !po && s.pwr.slewing } ∧ t.hattn = false ∧
      (po = true → t.lines = { low := t.lines.low, plugLevel := s.lines.plugLevel, plugGood := s.lines.plugGood }) ∧
      (po = false → t.lines = { s.lines with
        inReset := true, po := false, mx := Vector.replicate 8 false, phyRst := Vector.replicate 2 true }) ∧
      (∀ l : LaneId, let x := s.lane l
        let y := t.lane l
        y.ln = {} ∧ y.st = {} ∧ y.mr = {} ∧ y.tbhi = (if po then 0 else x.tbhi) ∧
        y.keep = { x.keep with lcause := 1, lcount := up x.keep.lcount }) ∧
      t.keep = { s.keep with mcause := cause, mcount := up s.keep.mcount } ∧ t.sc = { chk := s.keep.inLast } ∧
      (∀ o : Fin 6, (vget t.sc.outs {} o).hon = false ∧ (vget t.sc.outs {} o).lon = false) ∧
      (∀ k : Fin 32, t.pd.ch k = { clamped := (s.pd.ch k).clamped || (s.pd.ch k).onNow }) ∧
      ∀ r : Fin 4, (t.hw r).line = [] ∧ (t.hw r).repNow = false ∧ (t.hw r).last = none ∧ (t.hw r).bricks = (s.hw r).bricks
    let laneGone := fun (t : State) (l : LaneId) (cause : Nat) =>
      let x := s.lane l
      let y := t.lane l
      let o := (s.lane l.other).ln.strm
      let aborts := s.owns l = true ∧ s.port.busyLoad = true ∧ ¬(o.st = .building ∧ o.built = false)
      y.ln = { offAt := s.lines.now } ∧ y.st = {} ∧ y.mr = x.mr ∧ y.tbhi = x.tbhi ∧
      (aborts → t.port.busyLoad = false ∧ (t.lane l.other).ln.strm.done = true ∧ (t.lane l.other).ln.strm.code = 0x10) ∧
      (¬aborts → t.port.busyLoad = s.port.busyLoad) ∧
      y.keep = { x.keep with lcause := cause, lcount := up x.keep.lcount } ∧ t.ref.role l = .starting ∧
      t.ref.token = s.ref.token ∧ t.ref.owner = s.ref.owner ∧ t.port.busyReset = true ∧ t.port.hmiso = s.port.hmiso ∧
      (t.lane l.other).keep = (s.lane l.other).keep ∧ (t.lane l.other).st = (s.lane l.other).st ∧
      (t.lane l.other).ln.axes = (s.lane l.other).ln.axes ∧ (t.lane l.other).ln.dways = (s.lane l.other).ln.dways ∧
      t.sc = s.sc ∧ t.pd = s.pd ∧ t.rings = s.rings ∧ t.keep = s.keep ∧
      t.lines = { s.lines with busyAt := s.lines.now } ∧ t.pwr = s.pwr ∧
      (l = .a → t.ref.lapass = false ∧ t.ref.revpend = false ∧ t.ref.clean = 0)
    (∀ n : Nat, ∃ t, exec (.powerOnReset n) s = .next t ∧ (n < 100 ∨ held → t = s) ∧
      (100 ≤ n → ¬held → wasReset t true 2 ∧ t.lines.low = s.lines.low)) ∧
    (∀ n : Nat, ∃ t, exec (.moduleReset n) s = .next t ∧ (n < 100 ∨ s.lines.inReset = true → t = s) ∧
      (100 ≤ n → s.lines.inReset = false → wasReset t false 3)) ∧
    (∀ (rail : Rail) (v : Byte), ∃ t, exec (.supplyLow rail v) s = .next t ∧
      let bad := (rail = .vmain ∧ v.toNat < 180) ∨ (rail ≠ .vmain ∧ v.toNat < 150)
      (¬bad → t = s) ∧
      (bad → t.lines.low.contains rail = true ∧ (∀ q : Rail, q ≠ rail → t.lines.low.contains q = s.lines.low.contains q)) ∧
      (bad → held → t = { s with lines := { s.lines with low := t.lines.low } }) ∧ (bad → ¬held → wasReset t true 1)) ∧
    (∀ (rail : Rail) (v : Byte), ∃ t, exec (.supplyGood rail v) s = .next t ∧ onlyLines s t ∧
      let good := (rail = .vmain ∧ 184 < v.toNat) ∨ (rail ≠ .vmain ∧ 153 < v.toNat)
      t.lines.low = (if good then s.lines.low.filter (fun q => q != rail) else s.lines.low) ∧
          t.lines.inReset = s.lines.inReset ∧ t.lines.now = s.lines.now ∧
      (rail = .vmain → t.lines.vmain = v.toNat ∧ t.lines.vio = s.lines.vio ∧ t.lines.vsafe = s.lines.vsafe) ∧
      (rail = .vio → t.lines.vio = v.toNat ∧ t.lines.vmain = s.lines.vmain ∧ t.lines.vsafe = s.lines.vsafe) ∧
      (rail = .vsafe → t.lines.vsafe = v.toNat ∧ t.lines.vmain = s.lines.vmain ∧ t.lines.vio = s.lines.vio)) ∧
    (∀ (rqLow : Bool) (ms : Nat), ∃ t, exec (.resetRelease rqLow ms) s = .next t ∧
      let due := s.lines.inReset = true ∧ s.lines.low = [] ∧ (s.lines.po = true → 10 ≤ ms)
      (¬due → t = s) ∧
      (due → t.lines = { s.lines with
          inReset := false
          po := false
          freeAt := s.lines.now
          busyAt := s.lines.now } ∧ t.sc.scrun = true ∧ t.sc.refrun = true ∧
        t.keep.scno = s.keep.scno + 1 ∧ t.ref = s.ref ∧ t.port = s.port ∧ t.pd = s.pd ∧ t.rings = s.rings ∧
        t.pwr = { s.pwr with rqfailc := s.pwr.rqfailc || rqLow } ∧
        ∀ l : LaneId, (t.lane l).st = (s.lane l).st ∧ (t.lane l).mr = (s.lane l).mr ∧
          (t.lane l).keep.mem = (s.lane l).keep.mem ∧ (t.lane l).ln.on = (s.lane l).ln.on ∧
          (rqLow = true → (t.lane l).ln.host.attn.getLsbD 16 = true) ∧
          (vget (t.lane l).keep.boxes {} 2).full = false ∧ (vget (t.lane l).keep.boxes {} 6).full = false)) ∧
    (∃ t, exec .hbusyResetEnd s = .next t ∧
      let waits := fun l : LaneId => (s.lane l).ln.on = false ∧ (s.lane l).keep.lcause ≠ 1
      let due := s.lines.inReset = false ∧ ¬waits .a ∧ ¬waits .b ∧ 200000 ≤ (s.lines.now - s.lines.busyAt).toNat
      t = if due then { s with port := { s.port with busyReset := false } } else s) ∧
    ∀ l : LaneId,
      let x := s.lane l
      (∀ why : LaneCause, ∃ t, exec (.laneReset l why) s = .next t ∧ (s.lines.inReset = true → t = s) ∧
        (s.lines.inReset = false → (why = .module → laneGone t l 1) ∧ (why = .watchdog → laneGone t l 2) ∧
          (why = .host → laneGone t l 3) ∧ (why = .referee → laneGone t l 4))) ∧
      (∀ ms : Nat, ∃ t, exec (.stewardWatchdog l ms) s = .next t ∧
        let due := s.lines.inReset = false ∧ x.ln.on = true ∧ 10 ≤ ms
        (¬due → t = s) ∧ (due → laneGone t l 2)) ∧
      (∀ mask : BitVec 2, ∃ t, exec (.lrst l mask) s = .next t ∧
        let due := s.lines.inReset = false ∧ x.ln.on = true
        let y := (t.lane l).ln
        (¬due ∨ mask = 0 → t = s) ∧ (due → mask = 1 → laneGone t .a 3) ∧ (due → mask = 2 → laneGone t .b 3) ∧
        (due → mask = 3 → y.pwr = { x.ln.pwr with ctlrej := true } ∧ y.host.attn = x.ln.host.attn ||| 0x10000 ∧
          t.modLN l (fun z => { z with pwr := x.ln.pwr, host := x.ln.host }) = s)) ∧
      (∃ t, exec (.laneStart l) s = .next t ∧
        let since := if x.keep.lcause = 1 then s.lines.freeAt else x.ln.offAt
        let due := s.lines.inReset = false ∧ x.ln.on = false ∧ 10000 ≤ (s.lines.now - since).toNat
        let others := fun t : State => let o := (s.lane l.other).ln.host
          (t.modLN l.other fun x => { x with host := o }).lane l.other = s.lane l.other ∧
            (t.lane l.other).ln.host = { o with attn := (t.lane l.other).ln.host.attn }
        let y := t.lane l
        (¬due → t = s) ∧
        (due → t.lines = (if x.keep.lcause = 1 then s.lines else { s.lines with busyAt := s.lines.now }) ∧
            y.ln.on = true ∧ y.ln.host.swrun = true ∧ y.keep.swno = x.keep.swno + 1 ∧ y.keep.mem = x.keep.mem ∧
          others t ∧ y.ln.hlth.lasterr = laneUnit l ∧ t.ref.token = s.ref.token ∧
          (x.ln.hlth.queue.length < 64 → y.ln.hlth.queue.contains (laneUnit l) = true ∨
            (y.ln.hlth.cur.any fun c => c.2 == laneUnit l) = true) ∧
          ((x.keep.retired.any fun u => unitType u.1 == 4) = true → y.ln.hlth.degr = true ∧
              y.ln.hlth.causes.contains 5 = true) ∧
          (((List.range 16).any fun b => (vget x.keep.banks {} b).short) = true →
            y.ln.hlth.degr = true ∧ y.ln.hlth.causes.contains 3 = true)))

/-- SERVICE_RESET*, RQSTUCK, RQ_INPUT_RELEASE, XREF_*, PPS, PHYINT, PHY_POLL, PHY_RESET_RELEASE: requests, holdover and
lands. (17_power_clocks_reset.md, 18_lands_electrical.md; R302, R476 to R480, R494, R496, R501) -/
def Obligations.ServiceRequestsTheCrystalAndMultiplexedLands : Prop :=
  ∀ s : State,
    let p := s.pwr
    let r := s.ref
    let o := s.lane r.owner
    let attn16 := fun (t : State) (q : PwrMR) => t.pwr = q ∧ { t with pwr := p } =
      (s.modLN .a fun y => { y with host := { y.host with attn := y.host.attn ||| 0x10000 } }).modLN .b
        fun y => { y with host := { y.host with attn := y.host.attn ||| 0x10000 } }
    let quiet := (match r.owner with
      | .a => r.repa.quiet
      | .b => r.repb.quiet)
    let soon := p.rqpend = true ∧ (r.token = false ∨ o.running = false ∨ o.ln.pwr.layover = true ∨ quiet = true)
    let drives := r.token = true ∧ o.running = true ∧ s.lines.inReset = false
    let reads := fun (t : State) (l : LaneId) (i : Nat) (link : Bool) (speed : Fin 4) =>
      let fixed := o.img.ethSpeed i
      onlyLN l s t ∧ (i < 2 → vget (t.lane l).ln.net.eths {} i = { vget o.ln.net.eths {} i with
        link := link
        spd := if link then (if fixed = 0 then speed.val else fixed) else 0
        polled := some s.tick
        pollDue := false })
    (∀ ms : Nat, ∃ t, exec (.serviceResetPress ms) s = .next t ∧
      let due := s.lines.inReset = false ∧ p.rqstuck = false ∧ p.rqfailc = false ∧ p.rqpend = false ∧ 50 ≤ ms ∧ ms ≤ 2000
      t = if due then { s with pwr := { p with rqpend := true, rqsince := s.lines.now } } else s) ∧
    (∃ t, exec .serviceReset s = .next t ∧ (¬soon → t = s) ∧
      (soon → t.lines.inReset = true ∧ t.lines.po = false ∧ t.lines.now = s.lines.now ∧ t.ref = {} ∧ t.keep.mcause = 4 ∧
        t.keep.mcount = (if s.keep.mcount < 0xFF then s.keep.mcount + 1 else 0xFF) ∧ t.pwr.rqpend = false ∧
        ∀ l : LaneId, (t.lane l).ln = {} ∧ (t.lane l).st = {} ∧ (t.lane l).mr = {} ∧
          (t.lane l).keep.mem = (s.lane l).keep.mem)) ∧
    (∃ t, exec .serviceResetDeny s = .next t ∧
      let due := p.rqpend = true ∧ ¬soon ∧ 6000000000 ≤ (s.lines.now - p.rqsince).toNat
      (¬due → t = s) ∧ (due → attn16 t { p with rqpend := false, rqdeny := true })) ∧
    (∀ ms : Nat, ∃ t, exec (.rqstuck ms) s = .next t ∧
      let due := 2000 < ms ∧ s.lines.inReset = false ∧ p.rqstuck = false ∧ p.rqfailc = false
      (¬due → t = s) ∧ (due → attn16 t { p with rqstuck := true })) ∧
    (∀ ms : Nat, ∃ t, exec (.rqInputRelease ms) s = .next t ∧
      t = if 100 ≤ ms then { s with pwr := { p with rqstuck := false, rqfailc := false } } else s) ∧
    (∀ ns ppm : Nat, ∃ t, exec (.xrefLoss ns ppm) s = .next t ∧
      let due := (1000 ≤ ns ∨ 1000 < ppm) ∧ (p.xloss = false ∨ p.slewing = true)
      (¬due → t = s) ∧ (due → t.lines = { s.lines with tblock := false } ∧
        attn16 { t with lines := s.lines } { p with xloss := true, xevt := true, slewing := false })) ∧
    (∀ ppm ms : Nat, ∃ t, exec (.xrefRegain ppm ms) s = .next t ∧
      t = if s.lines.tblock = false ∧ ppm ≤ 200 ∧ 100 ≤ ms then { s with pwr := { p with slewing := true } } else s) ∧
    (∃ t, exec .xrefSlewEnd s = .next t ∧ t = if p.slewing then
      { s with lines := { s.lines with tblock := true }, pwr := { p with slewing := false, xloss := false } } else s) ∧
    (∀ m : Fin 8,
      (∃ t, exec (.pps m) s = .next t ∧
        let frac := (s.lines.now + o.ln.net.tofs).toNat % 100000000
        let due := drives ∧ o.img.landFunc m = 1 ∧ (frac = 0 ∨ 100000000 < frac + 2500)
        (¬due → t = s) ∧
        (due → t = { s with lines := { s.lines with mx := vmod s.lines.mx m fun _ => true, ppsFrom := s.lines.now } } ∧
          vget t.lines.mx false m = true)) ∧
      (∀ (link : Bool) (speed : Fin 4), ∃ t, exec (.phyint m link speed) s = .next t ∧
        let i := o.img.landUnit m
        let due := drives ∧ o.img.landFunc m = 3
        let moves := s.port.busySwitch = true ∨ s.port.busyCold = true ∨ s.port.busyQuiet = true
        (¬due → t = s) ∧ (due → ¬moves → reads t r.owner i link speed) ∧
        (due → moves → onlyLanes s t ∧ ∀ (l : LaneId) (k : Fin 2), (vget (t.lane l).ln.net.eths {} k).pollDue = true ∧
          (vget (t.lane l).ln.net.eths {} k).link = (vget (s.lane l).ln.net.eths {} k).link ∧
          (t.lane l).keep = (s.lane l).keep ∧ (t.lane l).ln.axes = (s.lane l).ln.axes))) ∧
    (∀ (l : LaneId) (i : Fin 2) (link : Bool) (speed : Fin 4), ∃ t, exec (.phyPoll l i link speed) s = .next t ∧
      let has := (List.range 8).any fun m => o.img.landFunc m == 3 && o.img.landUnit m == i
      let e := vget o.ln.net.eths {} i
      let late := ∀ q ∈ e.polled, 400 ≤ ticksSince s.tick q
      let due := drives ∧ r.owner = l ∧ (e.pollDue = true ∨ (has = false ∧ late))
      (¬due → t = s) ∧ (due → reads t l i link speed)) ∧
    ∀ i : Fin 2, ∃ t, exec (.phyResetRelease i) s = .next t ∧
      let due := s.lines.inReset = false ∧ 1000000 ≤ (s.lines.now - s.lines.freeAt).toNat
      t = if due then { s with lines := { s.lines with phyRst := vmod s.lines.phyRst i fun _ => false } } else s

/-- LAYIN, POD_GATING, LAYOVER_WAKE, WAKE_PACKET: when both lanes go to layover, and how they wake.
(17_power_clocks_reset.md; R41, R485, R487, R488, R490, R491) -/
def Obligations.LayoverIsEnteredGatedAndLeft : Prop :=
  ∀ s : State,
    (∀ l : LaneId, ∃ t, exec (.layin l) s = .next t ∧ onlyLanes s t ∧ ∀ k : LaneId,
      let x := s.lane k
      let may := x.running && x.ln.rpt.rep.zspd && x.img.doorways.all (fun d => (x.dway d).cur.st == .locked) &&
        (List.range 24).all (fun n => !x.hasAxis n || ((x.axis n).cur.prof.phase == .idle && (x.axis n).cur.hall.still)) &&
        x.ln.strm.st != .liveStaging && x.ln.strm.st != .liveReady
      let named := (s.reached l).contains k
      (named = false ∨ x.ln.pwr.layover = true → t.lane k = x) ∧
      (named = true → x.ln.pwr.layover = false → may = true → t.lane k =
        { x with ln := { x.ln with pwr := { x.ln.pwr with layover := true, layFrom := s.tick, waking := none } } }) ∧
      (named = true → x.ln.pwr.layover = false → may = false →
        (t.lane k).ln.pwr = { x.ln.pwr with layrej := true } ∧ (t.lane k).ln.host.attn = x.ln.host.attn ||| 0x10000 ∧
        (t.lane k).keep = x.keep ∧ (t.lane k).ln.axes = x.ln.axes)) ∧
    (∀ l : LaneId, ∃ t, exec (.podGating l) s = .next t ∧
      let p := (s.lane l).ln.pwr
      let due := p.layover = true ∧ 2 ≤ ticksSince s.tick p.layFrom ∧ p.waking = none
      (¬due → t = s) ∧ (due → t = s.modLN l fun y => { y with sched := { y.sched with gated := 0xFF } })) ∧
    (∀ why : WakeWhy, ∃ t, exec (.layoverWake why) s = .next t ∧ ∀ l : LaneId,
      let x := s.lane l
      let y := t.lane l
      let p := x.ln.pwr
      let code : WakeWhy → Nat := fun w => match w with
        | .post => 1
        | .safetyInput => 2
        | .packet => 3
        | .layout => 4
      (p.layover = false → y = x) ∧
      (p.layover = true → y.ln.pwr.layover = false ∧ y.ln.pwr.wakewhy = code (p.waking.getD why) ∧ y.ln.pwr.waking = none ∧
        y.ln.pwr.wakes = (if p.wakes < 0xFFFF then p.wakes + 1 else 0xFFFF) ∧ y.ln.sched.gated = 0 ∧
            y.keep.mem = x.keep.mem ∧
        y.st = x.st ∧
        (∀ (n : Fin 24) (h : Fin 4), x.hasAxis n = true → (y.hyp n h).build = none ∧ (y.hyp n h).work = none ∧
            (y.hyp n h).full = none ∧
          (y.hyp n h).done = none) ∧
        ∀ d : Fin 12, (x.dcfg d).defd = true →
          let lost := (x.dcfg d).axesUp.any fun n => 3 ≤ (y.axis n).newest.keep.kres
          (lost = true → (y.dway d).newest.st = .stopped ∧ (y.dway d).newest.nopos = true) ∧
          (lost = false → (y.dway d).cur.st = (x.dway d).cur.st ∧ (y.dway d).cur.nopos = (x.dway d).cur.nopos))) ∧
    (∀ (l : LaneId) (i : Fin 2) (port : Nat) (d : List Byte), ∃ t, exec (.wakePacket l i port d) s = .next t ∧
      let x := s.lane l
      let m := x.mr
      let base := le32 d 4
      let due := s.owns l = true ∧ bitOf x.img.ifen i = true ∧ port = m.wakeport ∧ m.wakeport ≠ 0 ∧
        (if i = 0 then m.wakeif0 else m.wakeif1) = true ∧ x.ln.pwr.layover = true ∧ d.length = 8 ∧
        d.take 4 = [0x57, 0x4B, 0, 0] ∧ (base = x.img.base ∨ base = 0xFFFFFFFF)
      (¬due → t = s) ∧
      (due → onlyLanes s t ∧ ∀ k : LaneId, let z := s.lane k
        (z.ln.pwr.layover = false → t.lane k = z) ∧
        (z.ln.pwr.layover = true → t.lane k =
          { z with ln := { z.ln with pwr := { z.ln.pwr with waking := some (z.ln.pwr.waking.getD .packet) } } })))

/-- The CRC-32C of the streams and the CRC-16 of the host port are the divisions by their polynomials; HOST_STATUS sends
one. (R57, R380) -/
def Obligations.TheCheckValuesFollowTheirPolynomials : Prop :=
  let lowFirst := fun bs : List Byte => bs.flatMap fun b => (List.range 8).map b.getLsbD
  let highFirst := fun bs : List Byte => bs.flatMap fun b => (List.range 8).map b.getMsbD
  let divide32 := fun (c : BitVec 32) (b : Bool) => if c.msb != b then (c <<< 1) ^^^ 0x1EDC6F41#32 else c <<< 1
  let divide16 := fun (c : BitVec 16) (b : Bool) => if c.msb != b then (c <<< 1) ^^^ 0x1021#16 else c <<< 1
  let digits := (List.range 9).map fun k => BitVec.ofNat 8 (0x31 + k)
  (∀ bs : List Byte, crc32c bs = ((lowFirst bs).foldl divide32 0xFFFFFFFF#32).reverse ^^^ 0xFFFFFFFF#32) ∧
  (∀ bs : List Byte, crc16 bs = (highFirst bs).foldl divide16 0xFFFF#16) ∧
  crc32c digits = 0xE3069283#32 ∧ crc16 digits = 0x29B1#16 ∧
  ∀ (s : State) (mode3 : Bool), s.answers → s.hbusy = false → ∃ t a, exec (.hostStatus mode3 0x05) s = .next t ∧
    t.port.hmiso = some a ∧ a.length = 6 ∧
    a.drop 4 = [(crc16 (a.take 4) >>> 8).setWidth 8, (crc16 (a.take 4)).setWidth 8]

/-- After reset nothing waits or is closed, no lane holds the token, both lanes start, and the registers read their reset
values. (17_power_clocks_reset.md, 01_door_cycle_architecture.md, 11_lane_redundancy.md, 13_host_port_mailboxes.md,
04_hall_tracking.md, 06_obstacle_schuss.md, 08_glide_link.md, 02_fraluys_stream.md, 03_blades_contexts.md; R16, R45,
R324, R388, R482; the reset columns of the field tables; log entries 4 and 12 (the queue, the memory, the instant)) -/
def Obligations.ResetLeavesTheBlockAtRest : Prop :=
  let z := State.reset
  z.pending = [] ∧ z.memWf ∧ z.ref.token = false ∧ z.lines.inReset = true ∧ z.hbusy = true ∧ z.hattn = false ∧
  (∀ o : Fin 6, (vget z.sc.outs {} o).hon = false ∧ (vget z.sc.outs {} o).lon = false) ∧
  ∀ l : LaneId,
    z.regRead l 0x000C = 0x40 ∧ z.regRead l 0x1E000 = 0x24 ∧ z.regRead l 0x1010 = 0x1FFFF ∧
    z.regRead l 0x4018 = 10 ∧ z.regRead l 0x8004 = 0x20 ∧ z.regRead l 0x8008 = 0xFFFF0000 ∧ z.regRead l 0x1D004 = 1 ∧
    (∀ n : Fin 24, z.regRead l (0x10004 + 0x400 * n.val) = 0x40 ∧ z.regRead l (0x10250 + 0x400 * n.val) = 7 ∧
      ∀ h : Fin 4, z.regRead l (0x10280 + 0x400 * n.val + 0x10 * h.val) = 0x3FF00 ∧
        z.regRead l (0x10288 + 0x400 * n.val + 0x10 * h.val) = 0xFFFF0000) ∧
    (∀ r : Fin 4, z.regRead l (0x16010 + 4 * r.val) = 0x1C0)
end

