-- ==== Sys2Proof/Laws/Memory.lean ====
section
/-! SUPPORT. The memory keeps its canonical form under every operation, and a read after a write. -/

namespace Sys2Proof.Machine

/-- Every listed address of m is above x. -/
def Memory.above (x : Nat) : Memory → Prop
  | [] => True
  | (a, _) :: _ => x < a

theorem Memory.wf_cons (a : Nat) (v : Byte) (m : Memory) :
    Memory.wf ((a, v) :: m) = true ↔ v ≠ Memory.blank ∧ Memory.above a m ∧ Memory.wf m = true := by
  cases m with
  | nil => simp [Memory.wf, Memory.above]
  | cons b r => obtain ⟨b, w⟩ := b; simp [Memory.wf, Memory.above, and_assoc]

theorem Memory.above_mono {x y : Nat} {m : Memory} (h : x ≤ y) (hm : Memory.above y m) : Memory.above x m := by
  cases m with
  | nil => trivial
  | cons b r => obtain ⟨b, w⟩ := b; exact Nat.lt_of_le_of_lt h hm

theorem Memory.above_put {x y : Nat} {m : Memory} (v : Byte) (hy : y < x) (hm : Memory.above y m)
    (hw : Memory.wf m = true) : Memory.above y (m.put x v) := by
  cases m with
  | nil => simp only [Memory.put]; split <;> simp [Memory.above, hy]
  | cons b r =>
    obtain ⟨b, w⟩ := b
    have hr := (Memory.wf_cons b w r).1 hw
    simp only [Memory.above] at hm
    simp only [Memory.put]
    split
    · split <;> simp [Memory.above, hy, hm]
    · split
      · split
        · exact Memory.above_mono (Nat.le_of_lt hm) hr.2.1
        · exact hy
      · exact hm

/-- Writing one byte keeps the canonical form. -/
theorem Memory.put_wf (m : Memory) (x : Nat) (v : Byte) (hm : Memory.wf m = true) : Memory.wf (m.put x v) = true := by
  induction m with
  | nil => simp only [Memory.put]; split <;> simp_all [Memory.wf]
  | cons b r ih =>
    obtain ⟨b, w⟩ := b
    have hr := (Memory.wf_cons b w r).1 hm
    simp only [Memory.put]
    split
    · split
      · exact hm
      · exact (Memory.wf_cons _ _ _).2 ⟨‹_›, ‹_›, hm⟩
    · split
      · split
        · exact hr.2.2
        · subst x; exact (Memory.wf_cons _ _ _).2 ⟨‹_›, hr.2.1, hr.2.2⟩
      · exact (Memory.wf_cons _ _ _).2 ⟨hr.1, Memory.above_put v (by omega) hr.2.1 hr.2.2, ih hr.2.2⟩

/-- Writing bytes keeps the canonical form. -/
theorem Memory.write_wf (m : Memory) (x : Nat) (vs : List Byte) (hm : Memory.wf m = true) :
    Memory.wf (m.write x vs) = true := by
  induction vs generalizing m x with
  | nil => exact hm
  | cons v vs ih => exact ih _ _ (Memory.put_wf m x v hm)

theorem Memory.get_of_above {x y : Nat} {m : Memory} (h : Memory.above y m) (hx : x ≤ y) (hm : Memory.wf m = true) :
    m.get x = Memory.blank := by
  induction m generalizing y with
  | nil => rfl
  | cons b r ih =>
    obtain ⟨b, w⟩ := b
    simp only [Memory.above] at h
    have hr := (Memory.wf_cons b w r).1 hm
    simp only [Memory.get]
    split
    · omega
    · exact ih hr.2.1 (by omega) hr.2.2

/-- A read of the byte written gives the value written. -/
theorem Memory.get_put_same (m : Memory) (x : Nat) (v : Byte) (hm : Memory.wf m = true) : (m.put x v).get x = v := by
  induction m with
  | nil => simp only [Memory.put]; split <;> simp_all [Memory.get]
  | cons b r ih =>
    obtain ⟨b, w⟩ := b
    have hr := (Memory.wf_cons b w r).1 hm
    simp only [Memory.put]
    split
    · split
      · subst v; simp only [Memory.get]
        split
        · omega
        · exact Memory.get_of_above hr.2.1 (by omega) hr.2.2
      · simp [Memory.get]
    · split
      · split
        · subst v; subst x; exact Memory.get_of_above hr.2.1 (Nat.le_refl _) hr.2.2
        · simp [Memory.get]
      · simp only [Memory.get]
        split
        · omega
        · exact ih hr.2.2

/-- A write leaves every other byte alone. -/
theorem Memory.get_put_other (m : Memory) {x y : Nat} (v : Byte) (h : y ≠ x) : (m.put x v).get y = m.get y := by
  induction m with
  | nil => simp only [Memory.put]; split <;> simp [Memory.get, h.symm]
  | cons b r ih =>
    obtain ⟨b, w⟩ := b
    simp only [Memory.put]
    split
    · split
      · rfl
      · simp [Memory.get, h.symm]
    · split
      · split <;> (subst x; simp [Memory.get, h.symm])
      · simp only [Memory.get, ih]

/-- Writing bytes leaves every byte outside them alone. -/
theorem Memory.get_write_other (m : Memory) (x y : Nat) (vs : List Byte) (h : y < x ∨ x + vs.length ≤ y) :
    (m.write x vs).get y = m.get y := by
  induction vs generalizing m x with
  | nil => rfl
  | cons v vs ih =>
    simp only [List.length_cons] at h
    simp only [Memory.write]
    rw [ih _ _ (by omega), Memory.get_put_other _ _ (by omega)]

/-- Writing bytes and reading one of them back. -/
theorem Memory.get_write_same (m : Memory) (x i : Nat) (vs : List Byte) (hm : Memory.wf m = true) (h : i < vs.length) :
    (m.write x vs).get (x + i) = vs[i] := by
  induction vs generalizing m x i with
  | nil => simp at h
  | cons v vs ih =>
    simp only [Memory.write]
    cases i with
    | zero =>
      rw [Memory.get_write_other _ _ _ _ (by omega), Nat.add_zero, Memory.get_put_same _ _ _ hm]; rfl
    | succ i =>
      have := ih (m.put x v) (x + 1) i (Memory.put_wf _ _ _ hm) (by simpa using h)
      rw [show x + (i + 1) = x + 1 + i by omega, this]; rfl

/-- The canonical form said at once: addresses strictly rising, no listed byte blank. -/
theorem Memory.wf_iff (m : Memory) : Memory.wf m = true ↔ m.Pairwise (fun p q => p.1 < q.1) ∧ ∀ p ∈ m, p.2 ≠ Memory.blank := by
  induction m with
  | nil => simp [Memory.wf]
  | cons b r ih =>
    obtain ⟨a, v⟩ := b
    rw [Memory.wf_cons, ih, List.pairwise_cons, List.forall_mem_cons]
    constructor
    · rintro ⟨hv, ha, hp, hb⟩
      refine ⟨⟨?_, hp⟩, hv, hb⟩
      cases r with
      | nil => simp
      | cons c r =>
        intro q hq
        rcases List.mem_cons.1 hq with rfl | hq
        · exact ha
        · exact Nat.lt_trans ha ((List.pairwise_cons.1 hp).1 q hq)
    · rintro ⟨⟨ha, hp⟩, hv, hb⟩
      refine ⟨hv, ?_, hp, hb⟩
      cases r with
      | nil => trivial
      | cons c r => exact ha c List.mem_cons_self

/-- Copying another lane's record area keeps the canonical form. -/
theorem mirrorMem_wf (a b : Memory) (ha : Memory.wf a = true) (hb : Memory.wf b = true) :
    Memory.wf (mirrorMem a b) = true := by
  rw [Memory.wf_iff] at *
  have h1 : mramBase ≤ romBase := by decide
  refine ⟨?_, ?_⟩
  · refine List.pairwise_append.2 ⟨List.pairwise_append.2 ⟨ha.1.filter _, hb.1.filter _, ?_⟩, ha.1.filter _, ?_⟩
    · simp only [ledgerCells, List.mem_filter, decide_eq_true_eq, Bool.and_eq_true]
      intro p hp q hq; omega
    · simp only [ledgerCells, List.mem_append, List.mem_filter, decide_eq_true_eq, Bool.and_eq_true]
      intro p hp q hq; omega
  · simp only [mirrorMem, ledgerCells, List.mem_append, List.mem_filter]
    rintro p ((h | h) | h)
    · exact ha.2 p h.1
    · exact hb.2 p h.1
    · exact ha.2 p h.1

/-- A burst keeps the canonical form, wherever it stops. -/
theorem dmaBytes_wf (i : Image) (h : DmaCh) (ecc : List EccEvent) (n k : Nat) (m : Memory) (hm : Memory.wf m = true) :
    Memory.wf (dmaBytes i h ecc n k m).1 = true := by
  have byte : ∀ k m m', Memory.wf m = true → dmaByte i h ecc m k = .ok m' → Memory.wf m' = true := by
    intro k m m' hm e
    simp only [dmaByte] at e
    repeat' split at e
    all_goals first
      | cases e; done
      | (cases e; exact Memory.put_wf _ _ _ hm)
  induction n generalizing k m with
  | zero => exact hm
  | succ n ih =>
    simp only [dmaBytes]
    split
    · next e => exact ih _ _ (byte _ _ _ hm e)
    · exact hm

/-- A fold of steps that each keep the canonical form keeps it. -/
theorem Memory.foldl_wf {α : Type} (f : Memory → α → Memory) (hf : ∀ m a, Memory.wf m = true → Memory.wf (f m a) = true)
    (as : List α) (m : Memory) (hm : Memory.wf m = true) : Memory.wf (as.foldl f m) = true := by
  induction as generalizing m with
  | nil => exact hm
  | cons a as ih => exact ih _ (hf _ _ hm)

/-- Bytes left in a span keep the canonical form. -/
theorem Memory.overlay_wf (m : Memory) (base n : Nat) (f : Nat → Option Byte) (hm : Memory.wf m = true) :
    Memory.wf (m.overlay base n f) = true := by
  refine Memory.foldl_wf _ ?_ _ _ hm
  intro m i h
  cases f i with
  | none => exact h
  | some v => exact Memory.put_wf _ _ _ h

/-- A block written back, and a task's scratch, keep a lane's canonical forms. -/
theorem Lane.storeBlock_memWf (x : Lane) (l : LaneId) (t ctx : Nat) (h : x.memWf) : (x.storeBlock l t ctx).memWf := by
  unfold Lane.storeBlock
  split
  · exact ⟨Memory.overlay_wf _ _ _ _ h.1, h.2⟩
  · exact h

theorem Lane.useScratch_memWf (x : Lane) (l : LaneId) (t ctx p b : Nat) (h : x.memWf) : (x.useScratch l t ctx p b).memWf := by
  have k : ∀ m : Memory, Lane.memWf { x with keep := { x.keep with scratch := m } } ↔
      Memory.wf x.keep.mem = true ∧ Memory.wf m = true := fun _ => Iff.rfl
  unfold Lane.useScratch
  exact (k _).2 ⟨h.1, Memory.overlay_wf _ _ _ _ h.2⟩

/-- An epoch laid into a standby, and a bulk copy, keep its canonical forms. -/
theorem Lane.layDown_memWf (x : Lane) (e : Epoch) (h : x.memWf) : (x.layDown e).memWf := by
  refine ⟨Memory.foldl_wf _ (fun m _ hm => Memory.write_wf m _ _ hm) _ _ (Memory.foldl_wf _ ?_ _ _ h.1), h.2⟩
  intro m k hm
  cases hk : x.img.ctx k.1 with
  | none => simpa [hk] using hm
  | some r => simpa [hk] using Memory.write_wf _ _ _ hm

theorem Lane.bulkCopy_memWf (x o : Lane) (h : x.memWf) : (x.bulkCopy o).memWf :=
  ⟨Memory.foldl_wf _ (fun m _ hm => Memory.write_wf m _ _ hm) _ _ h.1, h.2⟩

/-- Reset memory lists nothing, so it is in canonical form. -/
theorem State.reset_memWf : State.reset.memWf := ⟨⟨rfl, rfl⟩, ⟨rfl, rfl⟩⟩

end Sys2Proof.Machine
end

