-- ==== Sys2Proof/Laws/State.lean ====
section
/-! SUPPORT. One lemma per field per update of the state, so that no later proof unfolds a record update. -/

namespace Sys2Proof.Machine

/-! ### Vectors -/

@[simp] theorem vget_vmod_same {α : Type} {n : Nat} (v : Vector α n) (d : α) (i : Nat) (f : α → α) (h : i < n) :
    vget (vmod v i f) d i = f (vget v d i) := by
  simp [vget, vmod, h]

@[simp] theorem vget_vmod_other {α : Type} {n : Nat} (v : Vector α n) (d : α) (i j : Nat) (f : α → α) (h : i ≠ j) :
    vget (vmod v i f) d j = vget v d j := by
  unfold vget vmod
  split
  · rw [Vector.getElem?_set_ne (h := h)]
  · rfl

@[simp] theorem vmod_vmod {α : Type} {n : Nat} (v : Vector α n) (i : Nat) (f g : α → α) :
    vmod (vmod v i f) i g = vmod v i fun x => g (f x) := by
  by_cases h : i < n <;> simp [vmod, h]

@[simp] theorem vmod_id {α : Type} {n : Nat} (v : Vector α n) (i : Nat) : vmod v i (fun x => x) = v := by
  by_cases h : i < n <;> simp [vmod, h]

@[simp] theorem vmod_restore {α : Type} {n : Nat} (v : Vector α n) (d : α) (i : Nat) :
    vmod v i (fun _ => vget v d i) = v := by
  by_cases h : i < n <;> simp [vmod, vget, h]

/-! ### Lanes -/

@[simp] theorem State.setLane_lane (s : State) (l : LaneId) (x : Lane) : (s.setLane l x).lane l = x := by cases l <;> rfl
@[simp] theorem State.setLane_lane_other (s : State) {l k : LaneId} (x : Lane) (h : k ≠ l) :
    (s.setLane l x).lane k = s.lane k := by cases l <;> cases k <;> first | rfl | exact absurd rfl h
@[simp] theorem State.setLane_self (s : State) (l : LaneId) : s.setLane l (s.lane l) = s := by cases l <;> rfl
@[simp] theorem State.setLane_setLane (s : State) (l : LaneId) (x y : Lane) :
    (s.setLane l x).setLane l y = s.setLane l y := by cases l <;> rfl
@[simp] theorem State.modLane_lane (s : State) (l : LaneId) (f : Lane → Lane) :
    (s.modLane l f).lane l = f (s.lane l) := by cases l <;> rfl
@[simp] theorem State.modLane_lane_other (s : State) {l k : LaneId} (f : Lane → Lane) (h : k ≠ l) :
    (s.modLane l f).lane k = s.lane k := by simp [State.modLane, h]
@[simp] theorem State.modLane_modLane (s : State) (l : LaneId) (f g : Lane → Lane) :
    (s.modLane l f).modLane l g = s.modLane l fun x => g (f x) := by cases l <;> rfl
@[simp] theorem State.modLane_id (s : State) (l : LaneId) : s.modLane l (fun x => x) = s := by cases l <;> rfl
@[simp] theorem State.modLanes_lane (s : State) (l : LaneId) (f : Lane → Lane) :
    (s.modLanes f).lane l = f (s.lane l) := by cases l <;> rfl

@[simp] theorem State.modLN_lane (s : State) (l : LaneId) (f : LaneLN → LaneLN) :
    (s.modLN l f).lane l = { s.lane l with ln := f (s.lane l).ln } := by cases l <;> rfl
@[simp] theorem State.modLN_lane_other (s : State) {l k : LaneId} (f : LaneLN → LaneLN) (h : k ≠ l) :
    (s.modLN l f).lane k = s.lane k := by simp [State.modLN, h]
@[simp] theorem State.modLN_modLN (s : State) (l : LaneId) (f g : LaneLN → LaneLN) :
    (s.modLN l f).modLN l g = s.modLN l fun x => g (f x) := by cases l <;> rfl
@[simp] theorem State.modMR_lane (s : State) (l : LaneId) (f : LaneMR → LaneMR) :
    (s.modMR l f).lane l = { s.lane l with mr := f (s.lane l).mr } := by cases l <;> rfl
@[simp] theorem State.modMR_lane_other (s : State) {l k : LaneId} (f : LaneMR → LaneMR) (h : k ≠ l) :
    (s.modMR l f).lane k = s.lane k := by simp [State.modMR, h]
@[simp] theorem State.modMR_modMR (s : State) (l : LaneId) (f g : LaneMR → LaneMR) :
    (s.modMR l f).modMR l g = s.modMR l fun x => g (f x) := by cases l <;> rfl
@[simp] theorem State.modST_lane (s : State) (l : LaneId) (f : LaneST → LaneST) :
    (s.modST l f).lane l = { s.lane l with st := f (s.lane l).st } := by cases l <;> rfl
@[simp] theorem State.modST_lane_other (s : State) {l k : LaneId} (f : LaneST → LaneST) (h : k ≠ l) :
    (s.modST l f).lane k = s.lane k := by simp [State.modST, h]
@[simp] theorem State.modST_modST (s : State) (l : LaneId) (f g : LaneST → LaneST) :
    (s.modST l f).modST l g = s.modST l fun x => g (f x) := by cases l <;> rfl
@[simp] theorem State.modKeep_lane (s : State) (l : LaneId) (f : LaneKeep → LaneKeep) :
    (s.modKeep l f).lane l = { s.lane l with keep := f (s.lane l).keep } := by cases l <;> rfl
@[simp] theorem State.modKeep_lane_other (s : State) {l k : LaneId} (f : LaneKeep → LaneKeep) (h : k ≠ l) :
    (s.modKeep l f).lane k = s.lane k := by simp [State.modKeep, h]
@[simp] theorem State.modKeep_modKeep (s : State) (l : LaneId) (f g : LaneKeep → LaneKeep) :
    (s.modKeep l f).modKeep l g = s.modKeep l fun x => g (f x) := by cases l <;> rfl

/-! ### The other fields of the state under an update of a lane -/

@[simp] theorem State.setLane_part (s : State) (l : LaneId) (x : Lane) : (s.setLane l x).part = s.part := by cases l <;> rfl
@[simp] theorem State.setLane_lines (s : State) (l : LaneId) (x : Lane) : (s.setLane l x).lines = s.lines := by cases l <;> rfl
@[simp] theorem State.setLane_port (s : State) (l : LaneId) (x : Lane) : (s.setLane l x).port = s.port := by cases l <;> rfl
@[simp] theorem State.setLane_ref (s : State) (l : LaneId) (x : Lane) : (s.setLane l x).ref = s.ref := by cases l <;> rfl
@[simp] theorem State.setLane_sc (s : State) (l : LaneId) (x : Lane) : (s.setLane l x).sc = s.sc := by cases l <;> rfl
@[simp] theorem State.setLane_pwr (s : State) (l : LaneId) (x : Lane) : (s.setLane l x).pwr = s.pwr := by cases l <;> rfl
@[simp] theorem State.setLane_pd (s : State) (l : LaneId) (x : Lane) : (s.setLane l x).pd = s.pd := by cases l <;> rfl
@[simp] theorem State.setLane_rings (s : State) (l : LaneId) (x : Lane) : (s.setLane l x).rings = s.rings := by cases l <;> rfl
@[simp] theorem State.setLane_keep (s : State) (l : LaneId) (x : Lane) : (s.setLane l x).keep = s.keep := by cases l <;> rfl
@[simp] theorem State.setLane_pending (s : State) (l : LaneId) (x : Lane) : (s.setLane l x).pending = s.pending := by cases l <;> rfl
@[simp] theorem State.modLane_part (s : State) (l : LaneId) (f : Lane → Lane) : (s.modLane l f).part = s.part := by cases l <;> rfl
@[simp] theorem State.modLane_lines (s : State) (l : LaneId) (f : Lane → Lane) : (s.modLane l f).lines = s.lines := by cases l <;> rfl
@[simp] theorem State.modLane_port (s : State) (l : LaneId) (f : Lane → Lane) : (s.modLane l f).port = s.port := by cases l <;> rfl
@[simp] theorem State.modLane_ref (s : State) (l : LaneId) (f : Lane → Lane) : (s.modLane l f).ref = s.ref := by cases l <;> rfl
@[simp] theorem State.modLane_sc (s : State) (l : LaneId) (f : Lane → Lane) : (s.modLane l f).sc = s.sc := by cases l <;> rfl
@[simp] theorem State.modLane_pwr (s : State) (l : LaneId) (f : Lane → Lane) : (s.modLane l f).pwr = s.pwr := by cases l <;> rfl
@[simp] theorem State.modLane_pd (s : State) (l : LaneId) (f : Lane → Lane) : (s.modLane l f).pd = s.pd := by cases l <;> rfl
@[simp] theorem State.modLane_rings (s : State) (l : LaneId) (f : Lane → Lane) : (s.modLane l f).rings = s.rings := by cases l <;> rfl
@[simp] theorem State.modLane_keep (s : State) (l : LaneId) (f : Lane → Lane) : (s.modLane l f).keep = s.keep := by cases l <;> rfl
@[simp] theorem State.modLane_pending (s : State) (l : LaneId) (f : Lane → Lane) : (s.modLane l f).pending = s.pending := by cases l <;> rfl
@[simp] theorem State.modLN_part (s : State) (l : LaneId) (f : LaneLN → LaneLN) : (s.modLN l f).part = s.part := by cases l <;> rfl
@[simp] theorem State.modLN_lines (s : State) (l : LaneId) (f : LaneLN → LaneLN) : (s.modLN l f).lines = s.lines := by cases l <;> rfl
@[simp] theorem State.modLN_port (s : State) (l : LaneId) (f : LaneLN → LaneLN) : (s.modLN l f).port = s.port := by cases l <;> rfl
@[simp] theorem State.modLN_ref (s : State) (l : LaneId) (f : LaneLN → LaneLN) : (s.modLN l f).ref = s.ref := by cases l <;> rfl
@[simp] theorem State.modLN_sc (s : State) (l : LaneId) (f : LaneLN → LaneLN) : (s.modLN l f).sc = s.sc := by cases l <;> rfl
@[simp] theorem State.modLN_pwr (s : State) (l : LaneId) (f : LaneLN → LaneLN) : (s.modLN l f).pwr = s.pwr := by cases l <;> rfl
@[simp] theorem State.modLN_pd (s : State) (l : LaneId) (f : LaneLN → LaneLN) : (s.modLN l f).pd = s.pd := by cases l <;> rfl
@[simp] theorem State.modLN_rings (s : State) (l : LaneId) (f : LaneLN → LaneLN) : (s.modLN l f).rings = s.rings := by cases l <;> rfl
@[simp] theorem State.modLN_keep (s : State) (l : LaneId) (f : LaneLN → LaneLN) : (s.modLN l f).keep = s.keep := by cases l <;> rfl
@[simp] theorem State.modLN_pending (s : State) (l : LaneId) (f : LaneLN → LaneLN) : (s.modLN l f).pending = s.pending := by cases l <;> rfl
@[simp] theorem State.modMR_part (s : State) (l : LaneId) (f : LaneMR → LaneMR) : (s.modMR l f).part = s.part := by cases l <;> rfl
@[simp] theorem State.modMR_lines (s : State) (l : LaneId) (f : LaneMR → LaneMR) : (s.modMR l f).lines = s.lines := by cases l <;> rfl
@[simp] theorem State.modMR_port (s : State) (l : LaneId) (f : LaneMR → LaneMR) : (s.modMR l f).port = s.port := by cases l <;> rfl
@[simp] theorem State.modMR_ref (s : State) (l : LaneId) (f : LaneMR → LaneMR) : (s.modMR l f).ref = s.ref := by cases l <;> rfl
@[simp] theorem State.modMR_sc (s : State) (l : LaneId) (f : LaneMR → LaneMR) : (s.modMR l f).sc = s.sc := by cases l <;> rfl
@[simp] theorem State.modMR_pwr (s : State) (l : LaneId) (f : LaneMR → LaneMR) : (s.modMR l f).pwr = s.pwr := by cases l <;> rfl
@[simp] theorem State.modMR_pd (s : State) (l : LaneId) (f : LaneMR → LaneMR) : (s.modMR l f).pd = s.pd := by cases l <;> rfl
@[simp] theorem State.modMR_rings (s : State) (l : LaneId) (f : LaneMR → LaneMR) : (s.modMR l f).rings = s.rings := by cases l <;> rfl
@[simp] theorem State.modMR_keep (s : State) (l : LaneId) (f : LaneMR → LaneMR) : (s.modMR l f).keep = s.keep := by cases l <;> rfl
@[simp] theorem State.modMR_pending (s : State) (l : LaneId) (f : LaneMR → LaneMR) : (s.modMR l f).pending = s.pending := by cases l <;> rfl
@[simp] theorem State.modST_part (s : State) (l : LaneId) (f : LaneST → LaneST) : (s.modST l f).part = s.part := by cases l <;> rfl
@[simp] theorem State.modST_lines (s : State) (l : LaneId) (f : LaneST → LaneST) : (s.modST l f).lines = s.lines := by cases l <;> rfl
@[simp] theorem State.modST_port (s : State) (l : LaneId) (f : LaneST → LaneST) : (s.modST l f).port = s.port := by cases l <;> rfl
@[simp] theorem State.modST_ref (s : State) (l : LaneId) (f : LaneST → LaneST) : (s.modST l f).ref = s.ref := by cases l <;> rfl
@[simp] theorem State.modST_sc (s : State) (l : LaneId) (f : LaneST → LaneST) : (s.modST l f).sc = s.sc := by cases l <;> rfl
@[simp] theorem State.modST_pwr (s : State) (l : LaneId) (f : LaneST → LaneST) : (s.modST l f).pwr = s.pwr := by cases l <;> rfl
@[simp] theorem State.modST_pd (s : State) (l : LaneId) (f : LaneST → LaneST) : (s.modST l f).pd = s.pd := by cases l <;> rfl
@[simp] theorem State.modST_rings (s : State) (l : LaneId) (f : LaneST → LaneST) : (s.modST l f).rings = s.rings := by cases l <;> rfl
@[simp] theorem State.modST_keep (s : State) (l : LaneId) (f : LaneST → LaneST) : (s.modST l f).keep = s.keep := by cases l <;> rfl
@[simp] theorem State.modST_pending (s : State) (l : LaneId) (f : LaneST → LaneST) : (s.modST l f).pending = s.pending := by cases l <;> rfl
@[simp] theorem State.modKeep_part (s : State) (l : LaneId) (f : LaneKeep → LaneKeep) : (s.modKeep l f).part = s.part := by cases l <;> rfl
@[simp] theorem State.modKeep_lines (s : State) (l : LaneId) (f : LaneKeep → LaneKeep) : (s.modKeep l f).lines = s.lines := by cases l <;> rfl
@[simp] theorem State.modKeep_port (s : State) (l : LaneId) (f : LaneKeep → LaneKeep) : (s.modKeep l f).port = s.port := by cases l <;> rfl
@[simp] theorem State.modKeep_ref (s : State) (l : LaneId) (f : LaneKeep → LaneKeep) : (s.modKeep l f).ref = s.ref := by cases l <;> rfl
@[simp] theorem State.modKeep_sc (s : State) (l : LaneId) (f : LaneKeep → LaneKeep) : (s.modKeep l f).sc = s.sc := by cases l <;> rfl
@[simp] theorem State.modKeep_pwr (s : State) (l : LaneId) (f : LaneKeep → LaneKeep) : (s.modKeep l f).pwr = s.pwr := by cases l <;> rfl
@[simp] theorem State.modKeep_pd (s : State) (l : LaneId) (f : LaneKeep → LaneKeep) : (s.modKeep l f).pd = s.pd := by cases l <;> rfl
@[simp] theorem State.modKeep_rings (s : State) (l : LaneId) (f : LaneKeep → LaneKeep) : (s.modKeep l f).rings = s.rings := by cases l <;> rfl
@[simp] theorem State.modKeep_keep (s : State) (l : LaneId) (f : LaneKeep → LaneKeep) : (s.modKeep l f).keep = s.keep := by cases l <;> rfl
@[simp] theorem State.modKeep_pending (s : State) (l : LaneId) (f : LaneKeep → LaneKeep) : (s.modKeep l f).pending = s.pending := by cases l <;> rfl
@[simp] theorem State.modAxis_part (s : State) (l : LaneId) (n : Nat) (f : Axis → Axis) : (s.modAxis l n f).part = s.part := by cases l <;> rfl
@[simp] theorem State.modAxis_lines (s : State) (l : LaneId) (n : Nat) (f : Axis → Axis) : (s.modAxis l n f).lines = s.lines := by cases l <;> rfl
@[simp] theorem State.modAxis_port (s : State) (l : LaneId) (n : Nat) (f : Axis → Axis) : (s.modAxis l n f).port = s.port := by cases l <;> rfl
@[simp] theorem State.modAxis_ref (s : State) (l : LaneId) (n : Nat) (f : Axis → Axis) : (s.modAxis l n f).ref = s.ref := by cases l <;> rfl
@[simp] theorem State.modAxis_sc (s : State) (l : LaneId) (n : Nat) (f : Axis → Axis) : (s.modAxis l n f).sc = s.sc := by cases l <;> rfl
@[simp] theorem State.modAxis_pwr (s : State) (l : LaneId) (n : Nat) (f : Axis → Axis) : (s.modAxis l n f).pwr = s.pwr := by cases l <;> rfl
@[simp] theorem State.modAxis_pd (s : State) (l : LaneId) (n : Nat) (f : Axis → Axis) : (s.modAxis l n f).pd = s.pd := by cases l <;> rfl
@[simp] theorem State.modAxis_rings (s : State) (l : LaneId) (n : Nat) (f : Axis → Axis) : (s.modAxis l n f).rings = s.rings := by cases l <;> rfl
@[simp] theorem State.modAxis_keep (s : State) (l : LaneId) (n : Nat) (f : Axis → Axis) : (s.modAxis l n f).keep = s.keep := by cases l <;> rfl
@[simp] theorem State.modAxis_pending (s : State) (l : LaneId) (n : Nat) (f : Axis → Axis) : (s.modAxis l n f).pending = s.pending := by cases l <;> rfl
@[simp] theorem State.modDway_part (s : State) (l : LaneId) (d : Nat) (f : Dway → Dway) : (s.modDway l d f).part = s.part := by cases l <;> rfl
@[simp] theorem State.modDway_lines (s : State) (l : LaneId) (d : Nat) (f : Dway → Dway) : (s.modDway l d f).lines = s.lines := by cases l <;> rfl
@[simp] theorem State.modDway_port (s : State) (l : LaneId) (d : Nat) (f : Dway → Dway) : (s.modDway l d f).port = s.port := by cases l <;> rfl
@[simp] theorem State.modDway_ref (s : State) (l : LaneId) (d : Nat) (f : Dway → Dway) : (s.modDway l d f).ref = s.ref := by cases l <;> rfl
@[simp] theorem State.modDway_sc (s : State) (l : LaneId) (d : Nat) (f : Dway → Dway) : (s.modDway l d f).sc = s.sc := by cases l <;> rfl
@[simp] theorem State.modDway_pwr (s : State) (l : LaneId) (d : Nat) (f : Dway → Dway) : (s.modDway l d f).pwr = s.pwr := by cases l <;> rfl
@[simp] theorem State.modDway_pd (s : State) (l : LaneId) (d : Nat) (f : Dway → Dway) : (s.modDway l d f).pd = s.pd := by cases l <;> rfl
@[simp] theorem State.modDway_rings (s : State) (l : LaneId) (d : Nat) (f : Dway → Dway) : (s.modDway l d f).rings = s.rings := by cases l <;> rfl
@[simp] theorem State.modDway_keep (s : State) (l : LaneId) (d : Nat) (f : Dway → Dway) : (s.modDway l d f).keep = s.keep := by cases l <;> rfl
@[simp] theorem State.modDway_pending (s : State) (l : LaneId) (d : Nat) (f : Dway → Dway) : (s.modDway l d f).pending = s.pending := by cases l <;> rfl
@[simp] theorem State.modRing_part (s : State) (l : LaneId) (r : Nat) (f : LaneRing → LaneRing) : (s.modRing l r f).part = s.part := by cases l <;> rfl
@[simp] theorem State.modRing_lines (s : State) (l : LaneId) (r : Nat) (f : LaneRing → LaneRing) : (s.modRing l r f).lines = s.lines := by cases l <;> rfl
@[simp] theorem State.modRing_port (s : State) (l : LaneId) (r : Nat) (f : LaneRing → LaneRing) : (s.modRing l r f).port = s.port := by cases l <;> rfl
@[simp] theorem State.modRing_ref (s : State) (l : LaneId) (r : Nat) (f : LaneRing → LaneRing) : (s.modRing l r f).ref = s.ref := by cases l <;> rfl
@[simp] theorem State.modRing_sc (s : State) (l : LaneId) (r : Nat) (f : LaneRing → LaneRing) : (s.modRing l r f).sc = s.sc := by cases l <;> rfl
@[simp] theorem State.modRing_pwr (s : State) (l : LaneId) (r : Nat) (f : LaneRing → LaneRing) : (s.modRing l r f).pwr = s.pwr := by cases l <;> rfl
@[simp] theorem State.modRing_pd (s : State) (l : LaneId) (r : Nat) (f : LaneRing → LaneRing) : (s.modRing l r f).pd = s.pd := by cases l <;> rfl
@[simp] theorem State.modRing_rings (s : State) (l : LaneId) (r : Nat) (f : LaneRing → LaneRing) : (s.modRing l r f).rings = s.rings := by cases l <;> rfl
@[simp] theorem State.modRing_keep (s : State) (l : LaneId) (r : Nat) (f : LaneRing → LaneRing) : (s.modRing l r f).keep = s.keep := by cases l <;> rfl
@[simp] theorem State.modRing_pending (s : State) (l : LaneId) (r : Nat) (f : LaneRing → LaneRing) : (s.modRing l r f).pending = s.pending := by cases l <;> rfl
@[simp] theorem State.modHyp_part (s : State) (l : LaneId) (n h : Nat) (f : Hyp → Hyp) : (s.modHyp l n h f).part = s.part := by cases l <;> rfl
@[simp] theorem State.modHyp_lines (s : State) (l : LaneId) (n h : Nat) (f : Hyp → Hyp) : (s.modHyp l n h f).lines = s.lines := by cases l <;> rfl
@[simp] theorem State.modHyp_port (s : State) (l : LaneId) (n h : Nat) (f : Hyp → Hyp) : (s.modHyp l n h f).port = s.port := by cases l <;> rfl
@[simp] theorem State.modHyp_ref (s : State) (l : LaneId) (n h : Nat) (f : Hyp → Hyp) : (s.modHyp l n h f).ref = s.ref := by cases l <;> rfl
@[simp] theorem State.modHyp_sc (s : State) (l : LaneId) (n h : Nat) (f : Hyp → Hyp) : (s.modHyp l n h f).sc = s.sc := by cases l <;> rfl
@[simp] theorem State.modHyp_pwr (s : State) (l : LaneId) (n h : Nat) (f : Hyp → Hyp) : (s.modHyp l n h f).pwr = s.pwr := by cases l <;> rfl
@[simp] theorem State.modHyp_pd (s : State) (l : LaneId) (n h : Nat) (f : Hyp → Hyp) : (s.modHyp l n h f).pd = s.pd := by cases l <;> rfl
@[simp] theorem State.modHyp_rings (s : State) (l : LaneId) (n h : Nat) (f : Hyp → Hyp) : (s.modHyp l n h f).rings = s.rings := by cases l <;> rfl
@[simp] theorem State.modHyp_keep (s : State) (l : LaneId) (n h : Nat) (f : Hyp → Hyp) : (s.modHyp l n h f).keep = s.keep := by cases l <;> rfl
@[simp] theorem State.modHyp_pending (s : State) (l : LaneId) (n h : Nat) (f : Hyp → Hyp) : (s.modHyp l n h f).pending = s.pending := by cases l <;> rfl
@[simp] theorem State.modLanes_part (s : State) (f : Lane → Lane) : (s.modLanes f).part = s.part := rfl
@[simp] theorem State.modLanes_lines (s : State) (f : Lane → Lane) : (s.modLanes f).lines = s.lines := rfl
@[simp] theorem State.modLanes_port (s : State) (f : Lane → Lane) : (s.modLanes f).port = s.port := rfl
@[simp] theorem State.modLanes_ref (s : State) (f : Lane → Lane) : (s.modLanes f).ref = s.ref := rfl
@[simp] theorem State.modLanes_sc (s : State) (f : Lane → Lane) : (s.modLanes f).sc = s.sc := rfl
@[simp] theorem State.modLanes_pwr (s : State) (f : Lane → Lane) : (s.modLanes f).pwr = s.pwr := rfl
@[simp] theorem State.modLanes_pd (s : State) (f : Lane → Lane) : (s.modLanes f).pd = s.pd := rfl
@[simp] theorem State.modLanes_rings (s : State) (f : Lane → Lane) : (s.modLanes f).rings = s.rings := rfl
@[simp] theorem State.modLanes_keep (s : State) (f : Lane → Lane) : (s.modLanes f).keep = s.keep := rfl
@[simp] theorem State.modLanes_pending (s : State) (f : Lane → Lane) : (s.modLanes f).pending = s.pending := rfl

/-! ### Updates of the module's own parts -/

@[simp] theorem State.modLines_part (s : State) (f : Lines → Lines) : (s.modLines f).part = s.part := rfl
@[simp] theorem State.modLines_lines (s : State) (f : Lines → Lines) : (s.modLines f).lines = f s.lines := rfl
@[simp] theorem State.modLines_port (s : State) (f : Lines → Lines) : (s.modLines f).port = s.port := rfl
@[simp] theorem State.modLines_laneA (s : State) (f : Lines → Lines) : (s.modLines f).laneA = s.laneA := rfl
@[simp] theorem State.modLines_laneB (s : State) (f : Lines → Lines) : (s.modLines f).laneB = s.laneB := rfl
@[simp] theorem State.modLines_ref (s : State) (f : Lines → Lines) : (s.modLines f).ref = s.ref := rfl
@[simp] theorem State.modLines_sc (s : State) (f : Lines → Lines) : (s.modLines f).sc = s.sc := rfl
@[simp] theorem State.modLines_pwr (s : State) (f : Lines → Lines) : (s.modLines f).pwr = s.pwr := rfl
@[simp] theorem State.modLines_pd (s : State) (f : Lines → Lines) : (s.modLines f).pd = s.pd := rfl
@[simp] theorem State.modLines_rings (s : State) (f : Lines → Lines) : (s.modLines f).rings = s.rings := rfl
@[simp] theorem State.modLines_keep (s : State) (f : Lines → Lines) : (s.modLines f).keep = s.keep := rfl
@[simp] theorem State.modLines_pending (s : State) (f : Lines → Lines) : (s.modLines f).pending = s.pending := rfl
@[simp] theorem State.modLines_lane (s : State) (f : Lines → Lines) (l : LaneId) : (s.modLines f).lane l = s.lane l := by cases l <;> rfl
@[simp] theorem State.modPort_part (s : State) (f : HostPort → HostPort) : (s.modPort f).part = s.part := rfl
@[simp] theorem State.modPort_lines (s : State) (f : HostPort → HostPort) : (s.modPort f).lines = s.lines := rfl
@[simp] theorem State.modPort_port (s : State) (f : HostPort → HostPort) : (s.modPort f).port = f s.port := rfl
@[simp] theorem State.modPort_laneA (s : State) (f : HostPort → HostPort) : (s.modPort f).laneA = s.laneA := rfl
@[simp] theorem State.modPort_laneB (s : State) (f : HostPort → HostPort) : (s.modPort f).laneB = s.laneB := rfl
@[simp] theorem State.modPort_ref (s : State) (f : HostPort → HostPort) : (s.modPort f).ref = s.ref := rfl
@[simp] theorem State.modPort_sc (s : State) (f : HostPort → HostPort) : (s.modPort f).sc = s.sc := rfl
@[simp] theorem State.modPort_pwr (s : State) (f : HostPort → HostPort) : (s.modPort f).pwr = s.pwr := rfl
@[simp] theorem State.modPort_pd (s : State) (f : HostPort → HostPort) : (s.modPort f).pd = s.pd := rfl
@[simp] theorem State.modPort_rings (s : State) (f : HostPort → HostPort) : (s.modPort f).rings = s.rings := rfl
@[simp] theorem State.modPort_keep (s : State) (f : HostPort → HostPort) : (s.modPort f).keep = s.keep := rfl
@[simp] theorem State.modPort_pending (s : State) (f : HostPort → HostPort) : (s.modPort f).pending = s.pending := rfl
@[simp] theorem State.modPort_lane (s : State) (f : HostPort → HostPort) (l : LaneId) : (s.modPort f).lane l = s.lane l := by cases l <;> rfl
@[simp] theorem State.modRef_part (s : State) (f : Referee → Referee) : (s.modRef f).part = s.part := rfl
@[simp] theorem State.modRef_lines (s : State) (f : Referee → Referee) : (s.modRef f).lines = s.lines := rfl
@[simp] theorem State.modRef_port (s : State) (f : Referee → Referee) : (s.modRef f).port = s.port := rfl
@[simp] theorem State.modRef_laneA (s : State) (f : Referee → Referee) : (s.modRef f).laneA = s.laneA := rfl
@[simp] theorem State.modRef_laneB (s : State) (f : Referee → Referee) : (s.modRef f).laneB = s.laneB := rfl
@[simp] theorem State.modRef_ref (s : State) (f : Referee → Referee) : (s.modRef f).ref = f s.ref := rfl
@[simp] theorem State.modRef_sc (s : State) (f : Referee → Referee) : (s.modRef f).sc = s.sc := rfl
@[simp] theorem State.modRef_pwr (s : State) (f : Referee → Referee) : (s.modRef f).pwr = s.pwr := rfl
@[simp] theorem State.modRef_pd (s : State) (f : Referee → Referee) : (s.modRef f).pd = s.pd := rfl
@[simp] theorem State.modRef_rings (s : State) (f : Referee → Referee) : (s.modRef f).rings = s.rings := rfl
@[simp] theorem State.modRef_keep (s : State) (f : Referee → Referee) : (s.modRef f).keep = s.keep := rfl
@[simp] theorem State.modRef_pending (s : State) (f : Referee → Referee) : (s.modRef f).pending = s.pending := rfl
@[simp] theorem State.modRef_lane (s : State) (f : Referee → Referee) (l : LaneId) : (s.modRef f).lane l = s.lane l := by cases l <;> rfl
@[simp] theorem State.modSc_part (s : State) (f : SafetyCore → SafetyCore) : (s.modSc f).part = s.part := rfl
@[simp] theorem State.modSc_lines (s : State) (f : SafetyCore → SafetyCore) : (s.modSc f).lines = s.lines := rfl
@[simp] theorem State.modSc_port (s : State) (f : SafetyCore → SafetyCore) : (s.modSc f).port = s.port := rfl
@[simp] theorem State.modSc_laneA (s : State) (f : SafetyCore → SafetyCore) : (s.modSc f).laneA = s.laneA := rfl
@[simp] theorem State.modSc_laneB (s : State) (f : SafetyCore → SafetyCore) : (s.modSc f).laneB = s.laneB := rfl
@[simp] theorem State.modSc_ref (s : State) (f : SafetyCore → SafetyCore) : (s.modSc f).ref = s.ref := rfl
@[simp] theorem State.modSc_sc (s : State) (f : SafetyCore → SafetyCore) : (s.modSc f).sc = f s.sc := rfl
@[simp] theorem State.modSc_pwr (s : State) (f : SafetyCore → SafetyCore) : (s.modSc f).pwr = s.pwr := rfl
@[simp] theorem State.modSc_pd (s : State) (f : SafetyCore → SafetyCore) : (s.modSc f).pd = s.pd := rfl
@[simp] theorem State.modSc_rings (s : State) (f : SafetyCore → SafetyCore) : (s.modSc f).rings = s.rings := rfl
@[simp] theorem State.modSc_keep (s : State) (f : SafetyCore → SafetyCore) : (s.modSc f).keep = s.keep := rfl
@[simp] theorem State.modSc_pending (s : State) (f : SafetyCore → SafetyCore) : (s.modSc f).pending = s.pending := rfl
@[simp] theorem State.modSc_lane (s : State) (f : SafetyCore → SafetyCore) (l : LaneId) : (s.modSc f).lane l = s.lane l := by cases l <;> rfl
@[simp] theorem State.modPd_part (s : State) (f : PowerDie → PowerDie) : (s.modPd f).part = s.part := rfl
@[simp] theorem State.modPd_lines (s : State) (f : PowerDie → PowerDie) : (s.modPd f).lines = s.lines := rfl
@[simp] theorem State.modPd_port (s : State) (f : PowerDie → PowerDie) : (s.modPd f).port = s.port := rfl
@[simp] theorem State.modPd_laneA (s : State) (f : PowerDie → PowerDie) : (s.modPd f).laneA = s.laneA := rfl
@[simp] theorem State.modPd_laneB (s : State) (f : PowerDie → PowerDie) : (s.modPd f).laneB = s.laneB := rfl
@[simp] theorem State.modPd_ref (s : State) (f : PowerDie → PowerDie) : (s.modPd f).ref = s.ref := rfl
@[simp] theorem State.modPd_sc (s : State) (f : PowerDie → PowerDie) : (s.modPd f).sc = s.sc := rfl
@[simp] theorem State.modPd_pwr (s : State) (f : PowerDie → PowerDie) : (s.modPd f).pwr = s.pwr := rfl
@[simp] theorem State.modPd_pd (s : State) (f : PowerDie → PowerDie) : (s.modPd f).pd = f s.pd := rfl
@[simp] theorem State.modPd_rings (s : State) (f : PowerDie → PowerDie) : (s.modPd f).rings = s.rings := rfl
@[simp] theorem State.modPd_keep (s : State) (f : PowerDie → PowerDie) : (s.modPd f).keep = s.keep := rfl
@[simp] theorem State.modPd_pending (s : State) (f : PowerDie → PowerDie) : (s.modPd f).pending = s.pending := rfl
@[simp] theorem State.modPd_lane (s : State) (f : PowerDie → PowerDie) (l : LaneId) : (s.modPd f).lane l = s.lane l := by cases l <;> rfl
@[simp] theorem State.modModKeep_part (s : State) (f : ModKeep → ModKeep) : (s.modModKeep f).part = s.part := rfl
@[simp] theorem State.modModKeep_lines (s : State) (f : ModKeep → ModKeep) : (s.modModKeep f).lines = s.lines := rfl
@[simp] theorem State.modModKeep_port (s : State) (f : ModKeep → ModKeep) : (s.modModKeep f).port = s.port := rfl
@[simp] theorem State.modModKeep_laneA (s : State) (f : ModKeep → ModKeep) : (s.modModKeep f).laneA = s.laneA := rfl
@[simp] theorem State.modModKeep_laneB (s : State) (f : ModKeep → ModKeep) : (s.modModKeep f).laneB = s.laneB := rfl
@[simp] theorem State.modModKeep_ref (s : State) (f : ModKeep → ModKeep) : (s.modModKeep f).ref = s.ref := rfl
@[simp] theorem State.modModKeep_sc (s : State) (f : ModKeep → ModKeep) : (s.modModKeep f).sc = s.sc := rfl
@[simp] theorem State.modModKeep_pwr (s : State) (f : ModKeep → ModKeep) : (s.modModKeep f).pwr = s.pwr := rfl
@[simp] theorem State.modModKeep_pd (s : State) (f : ModKeep → ModKeep) : (s.modModKeep f).pd = s.pd := rfl
@[simp] theorem State.modModKeep_rings (s : State) (f : ModKeep → ModKeep) : (s.modModKeep f).rings = s.rings := rfl
@[simp] theorem State.modModKeep_keep (s : State) (f : ModKeep → ModKeep) : (s.modModKeep f).keep = f s.keep := rfl
@[simp] theorem State.modModKeep_pending (s : State) (f : ModKeep → ModKeep) : (s.modModKeep f).pending = s.pending := rfl
@[simp] theorem State.modModKeep_lane (s : State) (f : ModKeep → ModKeep) (l : LaneId) : (s.modModKeep f).lane l = s.lane l := by cases l <;> rfl
@[simp] theorem State.modHw_part (s : State) (r : Nat) (f : RingHw → RingHw) : (s.modHw r f).part = s.part := rfl
@[simp] theorem State.modBrick_part (s : State) (r b : Nat) (f : Brick → Brick) : (s.modBrick r b f).part = s.part := rfl
@[simp] theorem State.modHw_lines (s : State) (r : Nat) (f : RingHw → RingHw) : (s.modHw r f).lines = s.lines := rfl
@[simp] theorem State.modBrick_lines (s : State) (r b : Nat) (f : Brick → Brick) : (s.modBrick r b f).lines = s.lines := rfl
@[simp] theorem State.modHw_port (s : State) (r : Nat) (f : RingHw → RingHw) : (s.modHw r f).port = s.port := rfl
@[simp] theorem State.modBrick_port (s : State) (r b : Nat) (f : Brick → Brick) : (s.modBrick r b f).port = s.port := rfl
@[simp] theorem State.modHw_laneA (s : State) (r : Nat) (f : RingHw → RingHw) : (s.modHw r f).laneA = s.laneA := rfl
@[simp] theorem State.modBrick_laneA (s : State) (r b : Nat) (f : Brick → Brick) : (s.modBrick r b f).laneA = s.laneA := rfl
@[simp] theorem State.modHw_laneB (s : State) (r : Nat) (f : RingHw → RingHw) : (s.modHw r f).laneB = s.laneB := rfl
@[simp] theorem State.modBrick_laneB (s : State) (r b : Nat) (f : Brick → Brick) : (s.modBrick r b f).laneB = s.laneB := rfl
@[simp] theorem State.modHw_ref (s : State) (r : Nat) (f : RingHw → RingHw) : (s.modHw r f).ref = s.ref := rfl
@[simp] theorem State.modBrick_ref (s : State) (r b : Nat) (f : Brick → Brick) : (s.modBrick r b f).ref = s.ref := rfl
@[simp] theorem State.modHw_sc (s : State) (r : Nat) (f : RingHw → RingHw) : (s.modHw r f).sc = s.sc := rfl
@[simp] theorem State.modBrick_sc (s : State) (r b : Nat) (f : Brick → Brick) : (s.modBrick r b f).sc = s.sc := rfl
@[simp] theorem State.modHw_pwr (s : State) (r : Nat) (f : RingHw → RingHw) : (s.modHw r f).pwr = s.pwr := rfl
@[simp] theorem State.modBrick_pwr (s : State) (r b : Nat) (f : Brick → Brick) : (s.modBrick r b f).pwr = s.pwr := rfl
@[simp] theorem State.modHw_pd (s : State) (r : Nat) (f : RingHw → RingHw) : (s.modHw r f).pd = s.pd := rfl
@[simp] theorem State.modBrick_pd (s : State) (r b : Nat) (f : Brick → Brick) : (s.modBrick r b f).pd = s.pd := rfl
@[simp] theorem State.modHw_keep (s : State) (r : Nat) (f : RingHw → RingHw) : (s.modHw r f).keep = s.keep := rfl
@[simp] theorem State.modBrick_keep (s : State) (r b : Nat) (f : Brick → Brick) : (s.modBrick r b f).keep = s.keep := rfl
@[simp] theorem State.modHw_pending (s : State) (r : Nat) (f : RingHw → RingHw) : (s.modHw r f).pending = s.pending := rfl
@[simp] theorem State.modBrick_pending (s : State) (r b : Nat) (f : Brick → Brick) : (s.modBrick r b f).pending = s.pending := rfl
@[simp] theorem State.modHw_lane (s : State) (r : Nat) (f : RingHw → RingHw) (l : LaneId) : (s.modHw r f).lane l = s.lane l := by
  cases l <;> rfl
@[simp] theorem State.modBrick_lane (s : State) (r b : Nat) (f : Brick → Brick) (l : LaneId) :
    (s.modBrick r b f).lane l = s.lane l := by cases l <;> rfl
@[simp] theorem State.modHw_hw (s : State) (r : Nat) (f : RingHw → RingHw) (h : r < 4) : (s.modHw r f).hw r = f (s.hw r) := by
  simp [State.hw, State.modHw, h]
@[simp] theorem State.modHw_hw_other (s : State) (r q : Nat) (f : RingHw → RingHw) (h : r ≠ q) : (s.modHw r f).hw q = s.hw q := by
  simp [State.hw, State.modHw, h]
@[simp] theorem State.modBrick_brick (s : State) (r b : Nat) (f : Brick → Brick) (hr : r < 4) (hb : b < 6) :
    (s.modBrick r b f).brick r b = f (s.brick r b) := by
  simp [State.brick, State.modBrick, hr, hb]

/-! ### Axes, doorways, rings and hypotheses of a lane -/

@[simp] theorem State.modAxis_axis (s : State) (l : LaneId) (n : Nat) (f : Axis → Axis) (h : n < 24) :
    ((s.modAxis l n f).lane l).axis n = f ((s.lane l).axis n) := by
  simp [State.modAxis, LaneLN.modAxis, Lane.axis, h]
@[simp] theorem State.modAxis_axis_other (s : State) (l : LaneId) (n m : Nat) (f : Axis → Axis) (h : n ≠ m) :
    ((s.modAxis l n f).lane l).axis m = (s.lane l).axis m := by
  simp [State.modAxis, LaneLN.modAxis, Lane.axis, h]
@[simp] theorem State.modDway_dway (s : State) (l : LaneId) (d : Nat) (f : Dway → Dway) (h : d < 12) :
    ((s.modDway l d f).lane l).dway d = f ((s.lane l).dway d) := by
  simp [State.modDway, LaneLN.modDway, Lane.dway, h]
@[simp] theorem State.modDway_dway_other (s : State) (l : LaneId) (d e : Nat) (f : Dway → Dway) (h : d ≠ e) :
    ((s.modDway l d f).lane l).dway e = (s.lane l).dway e := by
  simp [State.modDway, LaneLN.modDway, Lane.dway, h]
@[simp] theorem State.modRing_ring (s : State) (l : LaneId) (r : Nat) (f : LaneRing → LaneRing) (h : r < 4) :
    ((s.modRing l r f).lane l).ring r = f ((s.lane l).ring r) := by
  simp [State.modRing, LaneLN.modRing, Lane.ring, h]
@[simp] theorem State.modHyp_hyp (s : State) (l : LaneId) (n h : Nat) (f : Hyp → Hyp) (hn : n < 24) (hh : h < 4) :
    ((s.modHyp l n h f).lane l).hyp n h = f ((s.lane l).hyp n h) := by
  simp [State.modHyp, LaneLN.modHyp, Lane.hyp, hn, hh]
@[simp] theorem State.modAxis_acfg (s : State) (l : LaneId) (n m : Nat) (f : Axis → Axis) :
    ((s.modAxis l n f).lane l).acfg m = (s.lane l).acfg m := by cases l <;> rfl
@[simp] theorem State.modDway_dcfg (s : State) (l : LaneId) (d e : Nat) (f : Dway → Dway) :
    ((s.modDway l d f).lane l).dcfg e = (s.lane l).dcfg e := by cases l <;> rfl
@[simp] theorem Axis.both_cur (a : Axis) (f : AxisSt → AxisSt) : (a.both f).cur = f a.cur := rfl
@[simp] theorem Axis.both_work (a : Axis) (f : AxisSt → AxisSt) : (a.both f).work = a.work.map f := rfl
@[simp] theorem Axis.both_acc (a : Axis) (f : AxisSt → AxisSt) : (a.both f).acc = a.acc.map f := rfl
@[simp] theorem Axis.both_cmd (a : Axis) (f : AxisSt → AxisSt) : (a.both f).cmd = a.cmd := rfl
@[simp] theorem Dway.both_cur (d : Dway) (f : DwaySt → DwaySt) : (d.both f).cur = f d.cur := rfl
@[simp] theorem Dway.both_work (d : Dway) (f : DwaySt → DwaySt) : (d.both f).work = d.work.map f := rfl
@[simp] theorem Dway.both_acc (d : Dway) (f : DwaySt → DwaySt) : (d.both f).acc = d.acc.map f := rfl

end Sys2Proof.Machine
end

