-- ==== Sys2Proof/WellFormed.lean ====
section
/-! DEFINITION. Which commands can arrive: the bounds of the manual on what a command's operands measure or carry. -/

namespace Sys2Proof

/-- A brick's sample: three Hall bits, four inputs, currents and temperature in their fields (R239). -/
def BrickSample.wf (b : BrickSample) : Bool :=
  b.hall < 8 && b.edges.all (fun e => e.2 < 8) && b.din < 16 && b.vdc < 65536 &&
    decide (-32768 ≤ b.ia) && decide (b.ia < 32768) && decide (-32768 ≤ b.ib) && decide (b.ib < 32768) &&
    decide (-128 ≤ b.temp) && decide (b.temp < 128)

/-- Sample instants of a run, in order, in µs from the start of the test frame in which it began (R267). -/
def samplesWf (ts : List Nat) : Bool := ts.head?.all (· < 20000) && ts.Pairwise (· < ·)

/-- An access names one of the 32 domains and an aligned address of 24 bits. -/
def MemAccess.wf (a : MemAccess) : Bool := a.dom < 32 && a.va < 2 ^ 24 && a.va % 4 == 0

/-- The command can arrive. -/
def Instr.wf : Instr → Bool
  | .hostRead _ _ ta _ clocked _ => clocked ≤ 11 + 4 * ta.toNat
  | .hostStatus _ cmd => cmd != 0x02 && cmd != 0x0B
  | .taskResult _ _ lines accs => 1 ≤ lines && lines ≤ 8 && accs.all MemAccess.wf
  | .stewardCommand _ accs => accs.all MemAccess.wf
  | .mailboxPost _ _ _ own => own.length ≤ 16
  | .mergeCutoff _ m => m.slack ≤ 1800 && 1 ≤ m.capacity && m.fabricCycles ≤ 1023 && m.freq.all (fun f => decide (f ≤ 1023))
  | .brickLocalGate _ _ smp => smp.wf
  | .inputLowRecognised _ _ ts => samplesWf ts
  | .inputHighRecognised _ _ ts => samplesWf ts
  | .pulsePatternFault _ r1 r2 => (r1 ++ r2).all (fun r => r.1 < 20000)
  | .canFrameReceive _ _ fd ext ident data =>
    data.length ≤ (if fd then 64 else 8) && ident < (if ext then 2 ^ 29 else 2 ^ 11)
  | .ptpSync _ _ frame rx => 14 ≤ frame.length && rx < 2500
  | .loadOvercurrent _ i _ => i ≤ 1023
  | .openLoadOn _ i _ => i ≤ 8 * 1023
  | .groupOvercurrent _ is _ => is.length == 8 && is.all (fun i => i ≤ 1023)
  | .thermalShutdown _ tj => tj ≤ 255
  | .thermalRelease _ tjs => tjs.all fun t => t ≤ 255
  | .ethFrameReceive _ _ frame rx => 14 ≤ frame.length && rx < 2500
  | .ringBringup _ _ _ rtd => rtd ≤ 1023
  | .epochReceive _ _ _ at' => at' < 2500
  | .heartbeatLoss _ at' => at' < 2500
  | .inputCheck _ frames => frames.all fun f => f.runs.all fun r => r.1 < 20000
  | _ => true

end Sys2Proof
end

