-- ==== Sys2Proof/Tests/Slice0.lean ====
section
/-! SUPPORT. The model's own tests: ill-formed commands are refused, each command acts as its rule says on a small state
(every expected value worked out by hand from the rule named), and the hypotheses of every statement are met somewhere,
clause by clause and at the boundary of their ranges. -/

namespace Sys2Proof.Tests

set_option maxRecDepth 100000
set_option Elab.async false

open Sys2Proof Sys2Proof.Machine

/-! ### Small states -/

/-- The outcome is a next state with a property. -/
def ends (o : Host.Outcome State Fault Refusal) (p : State → Bool) : Bool :=
  match o with
  | .next t => p t
  | .fault _ => false
  | .refused _ => false

/-- One command after another, each from the state the last one left. -/
def runAll : List Instr → State → State
  | [], s => s
  | c :: cs, s => match exec c s with
    | .next t => runAll cs t
    | _ => s

/-- Both lanes out of reset, lane A with the token, lane B in sync, at the start gate of tick 2, with no stream. -/
def up : State :=
  { lines := { inReset := false, po := false, now := 5000, gate := 5000 }
    port := { busyReset := false }
    ref := { token := true, rolea := .active, roleb := .sync }
    laneA := { ln := { on := true, role := .active } }
    laneB := { ln := { on := true, role := .sync } } }

/-- A context record of CTXT (R105): context, type, home pod, flags and index. -/
def ctxRec (c typ home flags index : Nat) : List Byte :=
  [c, typ, home, flags, index].map (BitVec.ofNat 8) ++ zeros 19

/-- NET (R315): all interfaces enabled, interface 0 at 10.0.0.1, PTP slave of domain 5, connection 0 on interface 0 (port
5000) and CAN 0 (identifier 123h), the tunnel on interface 0 (port 6000) for 10.0.0.2. LEDG (R453): 48-byte records to a
collector at 10.0.0.9 by interface 0. -/
def netP : List Byte :=
  [0xF] ++ zeros 7 ++ ([2, 0, 0, 0, 0, 1, 0, 24] : List Byte) ++ toLE 4 0x0A000001 ++ zeros 7 ++ [64] ++ zeros 12 ++ zeros 64 ++
  [2, 5, 3] ++ zeros 29 ++ zeros 256 ++ [5, 0] ++ toLE 2 5000 ++ zeros 4 ++ toLE 4 0x123 ++ zeros 4 ++ zeros 1008 ++
  [1, 1] ++ toLE 2 6000 ++ toLE 4 0x0A000002 ++ zeros 12
def ledP : List Byte := [1, 100, 0, 0] ++ toLE 4 0x0A000009 ++ toLE 2 7000 ++ zeros 246

/-- An image of one axis (ring 0, slot 0), its AXBASE context 0, a NETIO context 1 that may migrate, the RING context 2 of
ring 0, an EPOCH context 3 and an AXBASE context 4 without axis; IDENT's base is 00345000h, pod 7 is fenced, and the host
may post to mailbox 0. -/
def img : Image :=
  { hdr := zeros 64
    secs := [
      { typ := 1, payload := toLE 4 0x345000 },
      { typ := 2, payload := toLE 4 1 ++ zeros 16 },
      { typ := 3, payload := zeros 7 ++ [0xFF] },
      { typ := 4, payload := toLE 4 5 ++ ctxRec 0 1 0 0 0 ++ ctxRec 1 9 0 1 0 ++ ctxRec 2 6 0 0 0 ++ ctxRec 3 8 0 0 0 ++
          ctxRec 4 1 0 0 1 },
      { typ := 6, payload := [0, 0x10] ++ zeros 14 },
      { typ := 9, payload := [1] ++ zeros 15 ++ [1] ++ zeros 15 ++ [1, 1] ++ zeros 14 },
      { typ := 13, payload := netP },
      { typ := 14, payload := ledP } ] }

/-- Both lanes run that image, with axis 0 defined. -/
def run : State :=
  let f := fun (x : LaneST) => { x with run := some img, axes := vmod x.axes 0 fun c => { c with defd := true } }
  (up.modST .a f).modST .b f

/-- The axis 0 of lane A changed, in `run`. -/
def ax (f : AxisSt → AxisSt) : State := run.modAxis .a 0 fun a => { a with cur := f a.cur }

/-- The configuration of axis 0 of lane A changed. -/
def cfg0 (s : State) (f : AxisCfg → AxisCfg) : State := s.modST .a fun x => { x with axes := vmod x.axes 0 f }

/-- Axis 0 of lane A as its registers stand. -/
def ax0 (s : State) : Axis := s.laneA.axis 0

/-! ### Which commands can arrive -/

theorem test_wf_read : (Instr.hostRead false 0 1 0 15 []).wf = true ∧ (Instr.hostRead false 0 1 0 16 []).wf = false := by
  decide
theorem test_wf_status : (Instr.hostStatus false 0x02).wf = false ∧ (Instr.hostStatus false 0x0B).wf = false ∧
    (Instr.hostStatus false 0x05).wf = true := by decide
theorem test_wf_result : (Instr.taskResult .a 0 0 []).wf = false ∧ (Instr.taskResult .a 0 9 []).wf = false ∧
    (Instr.taskResult .a 0 8 []).wf = true ∧
    (Instr.taskResult .a 0 8 [{ write := false, dom := 32, va := 0 }]).wf = false ∧
    (Instr.stewardCommand .a [{ write := true, dom := 31, va := 2 }]).wf = false ∧
    (Instr.mailboxPost .a 9 0 (List.replicate 17 0)).wf = false := by decide
theorem test_wf_cutoff : (Instr.mergeCutoff .a { slack := 1801, capacity := 1 }).wf = false ∧
    (Instr.mergeCutoff .a { capacity := 0 }).wf = false ∧
    (Instr.mergeCutoff .a { capacity := 1, fabricCycles := 1024 }).wf = false ∧
    (Instr.mergeCutoff .a { capacity := 1, freq := Vector.replicate 8 1024 }).wf = false ∧
    (Instr.mergeCutoff .a { slack := 1800, capacity := 1, fabricCycles := 1023, freq := Vector.replicate 8 1023 }).wf = true := by decide +kernel
theorem test_wf_gate : (Instr.brickLocalGate 0 0 { hall := 8 }).wf = false ∧
    (Instr.brickLocalGate 0 0 { edges := [(0, 8)] }).wf = false ∧ (Instr.brickLocalGate 0 0 { din := 16 }).wf = false ∧
    (Instr.brickLocalGate 0 0 { vdc := 65536 }).wf = false ∧ (Instr.brickLocalGate 0 0 { ia := 32768 }).wf = false ∧
    (Instr.brickLocalGate 0 0 { ib := -32769 }).wf = false ∧ (Instr.brickLocalGate 0 0 { temp := 128 }).wf = false ∧
    (Instr.brickLocalGate 0 0 {
      hall := 7, edges := [(9, 5)], din := 15, vdc := 65535, ia := -32768, ib := 32767, temp := -128 }).wf = true := by
  decide
theorem test_wf_samples : (Instr.inputLowRecognised .referee 0 [20000]).wf = false ∧
    (Instr.inputLowRecognised .referee 0 [5, 5]).wf = false ∧ (Instr.inputHighRecognised .referee 0 [7, 6]).wf = false ∧
    (Instr.inputHighRecognised .referee 0 [19999, 20049]).wf = true := by decide
theorem test_wf_pattern : (Instr.pulsePatternFault 0 [] [(20000, 1)]).wf = false ∧
    (Instr.pulsePatternFault 0 [(19999, 1)] []).wf = true := by decide
theorem test_wf_can : (Instr.canFrameReceive .a 0 false false 0 (zeros 9)).wf = false ∧
    (Instr.canFrameReceive .a 0 true false 0 (zeros 65)).wf = false ∧
    (Instr.canFrameReceive .a 0 false false 2048 []).wf = false ∧
    (Instr.canFrameReceive .a 0 false true (2 ^ 29) []).wf = false ∧
    (Instr.canFrameReceive .a 0 true true (2 ^ 29 - 1) (zeros 64)).wf = true := by decide
theorem test_wf_ptp : (Instr.ptpSync .a 0 (zeros 13) 0).wf = false ∧ (Instr.ptpSync .a 0 (zeros 14) 2500).wf = false ∧
    (Instr.ptpSync .a 0 (zeros 14) 2499).wf = true := by decide
theorem test_wf_currents : (Instr.loadOvercurrent 0 1024 1000).wf = false ∧ (Instr.openLoadOn 0 8185 0).wf = false ∧
    (Instr.groupOvercurrent 0 [1, 2] 1000).wf = false ∧ (Instr.thermalShutdown 0 256).wf = false ∧
    (Instr.thermalRelease 0 [256]).wf = false ∧ (Instr.loadOvercurrent 0 1023 1000).wf = true ∧
    (Instr.openLoadOn 0 8184 0).wf = true := by decide
theorem test_wf_eth : (Instr.ethFrameReceive .a 0 (zeros 13) 0).wf = false ∧
    (Instr.ethFrameReceive .a 0 (zeros 14) 2500).wf = false ∧ (Instr.ethFrameReceive .a 0 (zeros 14) 0).wf = true := by decide
theorem test_wf_epoch : (Instr.epochReceive .a 0 0 2500).wf = false ∧ (Instr.heartbeatLoss .a 2500).wf = false := by decide
theorem test_wf_ring : (Instr.ringBringup .a 0 true 1024).wf = false ∧ (Instr.ringBringup .a 0 true 1023).wf = true := by
  decide
theorem test_wf_input : (Instr.inputCheck 0 [{ high := true, runs := [(20000, 1)], same := true }]).wf = false ∧
    (Instr.inputCheck 0 [{ high := true, runs := [(19999, 1)], same := true }]).wf = true := by decide

/-! ### The block as a whole -/

/-- A step runs the front command on the queue's rest; an empty queue idles; no table word spells a command (log entry 1). -/
theorem test_step_front :
    ends (step { up with pending := [.hbusyResetEnd, .startGate] }) (fun t => t.pending == [.startGate]) = true ∧
    ends (step up) (fun t => t.pending == []) = true := by decide
theorem test_no_words : decodeTableWord 8 0x5A = none ∧ (up.withFetchWord 8 0x5A).pending = [] := by decide

/-! ### The statements' hypotheses are met: the block and the host port -/

theorem wit_AStepRunsTheFrontCommand :
    ({ up with pending := [.startGate, .park] } : State).pending = .startGate :: [.park] ∧ up.pending = [] := by decide

/-- A lane whose memory lists its first and its last byte. -/
def memState : State := up.modKeep .a fun k => { k with mem := [(0, 1), (0x7FFFFF, 255)] }
theorem wit_EveryStepKeepsTheMemoryFormAndTheQueue : State.reset.memWf ∧ memState.memWf := by decide

/-- The judgements of a WRITE of n bytes after the address (R381). -/
def badLen (addr n : Nat) : Bool := decide (n < 6 ∨ (n - 2) % 4 ≠ 0 ∨ 4 * 256 + 2 < n ∨ 0x1000000 < addr + (n - 2))
def goodRest (addr : Nat) (data : List Byte) : List Byte := data ++ toBE 2 (crc16 (0x02 :: toBE 3 addr ++ data)).toNat
def badCrc (addr : Nat) (rest : List Byte) : Bool :=
  let n := rest.length
  crc16 (0x02 :: toBE 3 addr ++ rest.take (n - 2)) != BitVec.ofNat 16 (ofBE (rest.drop (n - 2)))
/-- LANESEL 2 names lane B; its link is down; HBUSY is high. -/
def toB : State := up.modMR .a fun m => { m with target := 2 }
def toBDown : State := toB.modLN .a fun x => { x with red := { x.red with linkDown := true } }
def busy : State := { up with port := { up.port with busyWrite := true } }
theorem wit_AWriteIsJudgedOnceAndWhole :
    (up.answers ∧ up.hbusy = false ∧ up.txLane 0 = .a) ∧ (busy.answers ∧ busy.hbusy = true) ∧
    (toB.answers ∧ toB.txLane 0 = .b ∧ toB.reach .a = true) ∧ (toBDown.answers ∧ toBDown.txLane 0 = .b ∧ toBDown.reach .a = false) ∧
    (badLen 0 5 = true ∧ badLen 0 7 = true ∧ badLen 0 1030 = true ∧ badLen 0xFFFFFC 10 = true) ∧
    (badLen 0 6 = false ∧ badLen 0xFFFFFC 6 = false ∧ badLen 0 1026 = false) ∧
    badCrc 0x10 (goodRest 0x10 [1, 2, 3, 4]) = false ∧ badCrc 0x10 (goodRest 0x14 [1, 2, 3, 4]) = true := by decide

theorem wit_AReadAnswersAtOneInstant :
    (up.answers ∧ up.hbusy = false) ∧ (busy.answers ∧ busy.hbusy = true) ∧
    -- a READ of TBLO to its end, and one clocked a byte short
    (let as := (List.range 1).map fun k => 0x14 / 4 * 4 + 4 * k
     up.txLane 0x14 = .a ∧ up.laneA.aperFault false as = none ∧ as.contains 0x14 = true ∧ 7 + 4 * 1 ≤ 11 ∧ ¬7 + 4 * 1 ≤ 10) ∧
    -- a right and a wrong CRC, an address out of line, another lane
    (crc16 (0x0B :: toBE 3 0x14 ++ [0]) ≠ 0 ∧ 0x15 % 4 ≠ 0 ∧ toB.txLane 0x14 ≠ toB.ref.owner) ∧
    (7 ≤ 7 ∧ ¬7 ≤ 6) := by decide

/-- Result slot 0 of lane A with a request, and a slot j that requests. -/
def slotState (q : ResReq) : State := run.modLN .a fun x => { x with rreq := vmod x.rreq 0 fun _ => q }
theorem wit_ResultSlotsAreRequestedAndDelivered :
    -- each way a request is bad, and the largest good one
    ((0 : Nat) = 0 ∧ 16 < 17 ∧ 2 % 4 ≠ 0 ∧ 0x1000000 < 0xFFFFC4 + 4 * 16 ∧ ¬0x1000000 < 0xFFFFC0 + 4 * 16) ∧
    (vget (slotState { raddr := 0xFFFFC0, rlen := 16, pend := true }).laneA.ln.rreq {} 0).pend = true ∧
    (vget (slotState {}).laneA.ln.rreq {} 0).pend = false ∧
    -- a delivery from this lane, from the other over the link, and with the link down
    (run.laneA.aperFault false [0xFFFFC0] = none) ∧ (slotState { rtgt := true }).reach .a = true ∧
    ((slotState { rtgt := true }).modLN .a fun x => { x with red := { x.red with linkDown := true } }).reach .a = false := by decide

/-- A mailbox of lane A. -/
def boxState (m : Nat) (b : Mbox) : State := run.modKeep .a fun k => { k with boxes := vmod k.boxes m fun _ => b }
theorem wit_MailboxesDeliverAndAcknowledge :
    (run.laneA.ln.pwr.layover = false ∧ run.laneB.ln.pwr.layover = false) ∧
    (bitOf ((run.img .a).kinds 0) 4 = true ∧ bitOf ((run.img .a).kinds 2) 4 = false) ∧
    ((1 : Fin 16) ≠ 0 ∧ (1 : Fin 16) ≠ 2 ∧ 16 < (17 : Fin 32).val ∧ (16 : Fin 32).val ≤ 16) ∧
    -- an acknowledgement of a full mailbox's SEQ, of another, and of an empty one
    (let b : Mbox := { full := true, seq := 7 }
     b.full = true ∧ b.seq = 7 ∧ b.seq ≠ 8 ∧ ({} : Mbox).full = false) ∧
    -- the steward's codes
    ((vget (boxState 0 { full := true, len := 2, body := Vector.replicate 16 0x51 }).laneA.keep.boxes {} 0).startno =
      (boxState 0 {}).laneA.keep.hstart ∧ (0x51#32).toNat % 65536 = 0x51 ∧ (0x10052#32).toNat % 65536 = 0x52) ∧
    (vget (boxState 0 { full := true, startno := 1 }).laneA.keep.boxes {} 0).startno ≠ run.laneA.keep.hstart := by decide

theorem wit_AStartGateBeginsATick :
    State.reset.lines.inReset = true ∧ run.lines.inReset = false ∧ run.laneA.ln.on = true ∧ run.laneB.ln.on = true ∧
    ends (exec .startGate run) (fun t => t.laneA.ln.on && t.laneB.ln.on && t.laneA.running && !t.laneA.ln.pwr.layover) = true ∧
    run.laneA.ln.pwr.layover = false ∧
    (∃ r ∈ run.laneA.img.ctxs, clsOf r.typ = .b ∧ bitOf r.flags 1 = false ∧ r.ctx < 256) := by
  decide +kernel

/-- Tasks of lane A. -/
def tasks (ts : List Task) : State := run.modSched .a fun q => { q with tasks := ts }
def own0 : Task := { ctx := 0, cls := .b, home := 0 }
def net1 : Task := { ctx := 1, cls := .g, home := 1 }
def pat0 : Task := { ctx := 5, cls := .p, home := 0 }
/-- Blade 0 of pod 0 of lane A is in quarantine, and the PATROL task of its pod waits. -/
def quarA : State :=
  let f := fun (x : LaneST) => { x with run := some { img with secs := img.secs.map fun y =>
    if y.typ = 4 then { y with payload := toLE 4 6 ++ y.payload.drop 4 ++ ctxRec 5 11 0 0 0 } else y } }
  ((tasks [pat0]).modST .a f).modSched .a fun q => { q with quar := some 0 }
/-- Blade 0 of pod 0 of lane A stole the NETIO task in fabric cycle 5. -/
def stolenA : State :=
  (tasks [{ net1 with pos := .running 0 0, stolen := true }]).modSched .a fun q => { q with cyc := some 5, thefts := [(net1, 0, 0)] }
theorem wit_AFreeBladeTakesTheHighestClass :
    (tasks [{ own0 with pos := .running 0 0 }]).laneA.ln.sched.busy 0 0 = true ∧
    (run.laneA.bladeUp 7 0 = false ∧ run.laneA.quarTask 7 0 = none) ∧
    (run.laneA.ln.sched.busy 0 0 = false ∧ run.laneA.bladeUp 0 0 = true) ∧
    -- an own task waits; none waits and none may be stolen; one may be, with and without a page fault
    ((tasks [own0]).laneA.ln.sched.tasks.filter fun k => k.home == 0 && k.pos == .waiting) ≠ [] ∧
    (∃ k ∈ (tasks [net1]).laneA.ln.sched.tasks, k.home ≠ 0 ∧ k.home < 8 ∧
      ((tasks [net1]).laneA.ln.sched.tasks.filter fun u => u.home == k.home && u.cls == k.cls && u.pos == .waiting).getLast? = some k ∧
      ((tasks [net1]).laneA.img.ctx k.ctx).any (fun r => bitOf r.flags 0) = true ∧ ((0 : Nat), (0 : Nat)) ∉ k.noThief) ∧
    run.laneA.ln.sched.thefts = [] ∧
    -- a PATROL task for a Blade in quarantine
    (quarA.laneA.ln.sched.busy 0 0 = false ∧ quarA.laneA.quarTask 0 0 = some pat0) ∧
    -- a task that a thief took in this cycle, which its own pod would choose
    (let q := stolenA.laneA.ln.sched
     q.thefts = [(net1, 0, 0)] ∧ q.busy 1 0 = false ∧ stolenA.laneA.bladeUp 1 0 = true ∧ q.cyc = some 5 ∧ net1.home = 1 ∧
     (∃ u ∈ q.tasks, u.ctx = net1.ctx ∧ u.pos = .running 0 0) ∧ net1.pos = .waiting ∧
     (stolenA.laneA.beforeThefts 1 0 q.thefts).choice 1 0 = some (net1, false)) ∧
    (tasks []).laneA.ln.sched.tasks = [] := by decide

/-- Every Blade of lane A but the fenced ones runs a SCHUSS task, and the NETIO task waits. -/
def full : State := tasks ((List.range 56).map (fun k => { ctx := 1, cls := .s, home := 0, pos := .running (k / 8) (k % 8) }) ++
  [{ net1 with home := 0 }])
/-- Shedding may fall a step. -/
def calm : State := run.modSched .a fun q => { q with step := 1, nextStep := 1, calm := 400 }
theorem wit_TasksDeliverAndShedding :
    (8 < 9 ∧ 8 ≤ 8) ∧ full.laneA.noneFree = true ∧ full.laneA.victim .g [.s, .l, .p] ≠ none ∧
    (∃ k ∈ full.laneA.ln.sched.tasks, k.ctx = 1 ∧ k.cls = .g ∧ k.pos = .waiting) ∧ run.laneA.noneFree = false ∧
    -- an access outside every page of the AXBASE context's domain, by its running task
    ((run.accesses .a (.context 0) [{ dom := 0, va := 0x7FFFFC, write := true }]).2.isSome = true ∧
      (run.laneA.img.ctx 0).isSome = true ∧ own0.cls ≠ .s) ∧
    -- a class C task of the RING context is late, or has arrived
    ((tasks [{ ctx := 2, cls := .c, home := 0 }]).laneA.ln.sched.tasks.any fun k =>
      k.ctx == 2 && k.cls == .c && (Task.arrived? k).isNone) = true ∧
    ((tasks [{ ctx := 2, cls := .c, home := 0, pos := .arrived 0 0 }]).laneA.ln.sched.tasks.any fun k =>
      k.ctx == 2 && k.cls == .c && (Task.arrived? k).isNone) = false ∧
    ((run.laneA.img.ctx 2).any fun r => r.typ == 6 && r.index == 0) = true ∧
    (run.laneA.img.axisRecs.any fun a => a.ring == 0 && a.axis == 0) = true ∧
    (calm.owns .a = true ∧ calm.laneA.ln.sched.calm = 400 ∧ calm.laneA.ln.sched.nextStep = calm.laneA.ln.sched.step ∧
      calm.laneA.mr.shfloor < calm.laneA.ln.sched.step) := by decide

/-- The cut-off of a tick whose AXBASE task has arrived. -/
def merging : State :=
  ((tasks [{ own0 with pos := .arrived 0 0, fromTick := 2 }]).modSched .a fun q => { q with window := true }).modAxis .a 0 fun a =>
    { a with acc := some a.cur }
theorem wit_TheCutOffMergesAndCountsMisses :
    State.reset.lines.inReset = true ∧ run.laneA.ln.sched.window = false ∧
    (merging.lines.inReset = false ∧ merging.laneA.ln.sched.window = true ∧ merging.laneA.ln.on = true ∧
      merging.laneA.running = true ∧ merging.laneA.ln.pwr.layover = false ∧ merging.owns .a = true ∧ merging.linked .a = false) ∧
    (∃ r ∈ merging.laneA.img.ctxs, r.typ = 1 ∧ r.ctx < 256 ∧ r.index < 24 ∧ merging.laneA.hasAxis r.index = true ∧
      (∀ r' ∈ merging.laneA.img.ctxs, r'.ctx = r.ctx ∨ (r'.typ = 1 ∧ r'.index = r.index) → r' = r) ∧
      merging.laneA.resultHere merging.tick r = true ∧ run.laneA.resultHere run.tick r = false ∧
      (∃ k ∈ merging.laneA.ln.sched.tasks, k.ctx = r.ctx ∧ k.ripe merging.tick = true ∧ k.fromTick = merging.tick)) := by decide

/-- Check queue of lane A. -/
def queue (us : List Word) : State := run.modLN .a fun x => { x with hlth := { x.hlth with queue := us } }
/-- Island 0 missed the start gate of the tick before. -/
def missed : State := run.modLN .a fun x => { x with mod := { x.mod with gateMiss := vmod x.mod.gateMiss 0 fun _ => some 1 } }
theorem wit_MissedGatesAndTimeoutsAskForAPatrolCheck :
    (queue (List.replicate 63 (inputUnit 0))).laneA.ln.hlth.queue.length < 64 ∧
    (vget missed.laneA.ln.mod.gateMiss none 0 = some 1 ∧ missed.tick = 2 ∧
      ((vget missed.laneA.ln.mod.gateMiss none 0).any fun k => ticksSince missed.tick k == 1) = true) ∧
    vget run.laneA.ln.mod.gateMiss none 0 ≠ some run.tick ∧
    ((vget run.laneA.ln.mod.gateMiss none 0).any fun k => ticksSince run.tick k == 1) = false := by decide

/-! ### The statements' hypotheses are met: axes -/

/-- Axis 0 with a valid position, in a phase, moving up or down. -/
def valid (ph : Phase) (neg : Bool := false) : State :=
  ax fun a => { a with hall := { a.hall with posq := .valid }, prof := { a.prof with phase := ph, neg := neg, decUse := 500 } }
/-- Axis 0 in an obstacle state, or in a homing state. -/
def obst (o : OState) : State := ax fun a => { a with obs := { a.obs with ostate := o } }
def homing (h : HomState) : State := ax fun a => { a with hom := { a.hom with st := h } }

theorem wit_CommandsAreJudgedInOrder :
    (run.laneA.hasAxis 0 = true ∧ (run.laneA.slotOf 0).up = none) ∧ ((1 : Fin 16) ≠ 0) := by decide

def reaches (s : State) (target : Int) : Bool :=
  let q := (ax0 s).newest.prof
  F32.le (dstop q.scurve q.decUse q.jerkUse q.v q.a) (F32.mul (F32.sub (tenth target) q.p) (sgnF q.neg))
theorem wit_AcceptedCommandsMoveStopAndHome :
    (axRc (run.laneA.acfg 0) (ax0 (valid .idle)).newest false false 1 100 = 0) ∧
    (axRc (run.laneA.acfg 0) (ax0 (valid .cruise)).newest false false 1 100 = 0 ∧ reaches (valid .cruise) 100 = true) ∧
    (axRc (run.laneA.acfg 0) (ax0 (valid .cruise true)).newest false false 1 100 = 0 ∧ reaches (valid .cruise true) 100 = false) ∧
    -- a stop in a snowplough, in a homing run, in a motion and at rest
    ((ax0 (obst .braking)).newest.obs.ostate = .braking) ∧ ((ax0 (homing .approach)).newest.hom.runs = true) ∧
    ((ax0 (valid .stopping)).newest.hom.runs = false ∧ (ax0 (valid .stopping)).newest.prof.phase ≠ .idle) ∧
    -- a STOP while a QSTOP is under way
    (let q := (ax0 (ax fun a => { a with prof := { a.prof with phase := .stopping, qstop := true } })).newest.prof
     q.phase = .stopping ∧ q.qstop = true) ∧
    -- homing by the end position, from elsewhere, and from the stop
    (let s := cfg0 run fun c => { c with hom := { c.hom with hseq := 5 } }
     axRc (s.laneA.acfg 0) (ax0 s).newest false false 4 0 = 0 ∧ (vget (ax0 s).newest.lim {} 2).deb = false ∧
      (sectorOf 0 1).isSome = true) ∧
    (let s := cfg0 run fun c => { c with hom := { c.hom with hseq := 3 } }
     axRc (s.laneA.acfg 0) (ax0 s).newest false false 4 0 = 0 ∧ (vget (ax0 s).newest.lim {} 1).deb = false) := by decide +kernel

theorem wit_AccelerationWritesAndCompareSlots :
    ((ax0 (ax fun a => { a with prof := { a.prof with accDefer := true } })).newest.prof.accDefer = true) ∧
    ((ax0 (valid .stopping)).newest.prof.accDefer = false ∧ (ax0 (valid .stopping)).newest.prof.phase = .stopping) ∧
    ((ax0 (obst .relief)).newest.obs.ostate = .relief) ∧
    -- a deceleration whose way fits, one whose way does not, and a cruise
    (let q := (ax0 (valid .decel)).newest.prof
     F32.le (dstop q.scurve 50 100 q.v q.a) (F32.mul (F32.sub q.ptgt q.p) (sgnF q.neg)) = true) ∧
    (let q := { (ax0 (valid .decel)).newest.prof with p := tenth 10 }
     F32.le (dstop q.scurve 50 100 q.v q.a) (F32.mul (F32.sub q.ptgt q.p) (sgnF q.neg)) = false) ∧
    ((ax0 (valid .cruise)).newest.prof.phase ≠ .decel ∧ (ax0 (valid .cruise)).newest.prof.phase ≠ .stopping) ∧
    -- a word with a field in its range, and one with none
    (50 ≤ 500 ∧ 500 ≤ 10000 ∧ ¬(50 ≤ 49) ∧ ¬(10001 ≤ 10000) ∧ ¬(100 ≤ 99)) ∧
    -- ACT of the written word, ARM and NEG
    (12 / 4 % 4 = 3 ∧ 1 % 2 = 1 ∧ 1 / 4 % 4 ≠ 3 ∧ 2 / 2 % 2 = 1 ∧ ¬2 % 2 = 1) ∧
    ((vget (ax0 (ax fun a => { a with cmp := vmod a.cmp 0 fun z => { z with arm := true } })).newest.cmp {} 0).arm = true ∧
      (vget (ax0 run).newest.cmp {} 0).arm = false) := by decide

/-- An input that has changed for n frames. -/
def lim (n : Nat) : State :=
  ax fun a => { a with lim := vmod a.lim 0 fun z => { z with raw := true, sampled := true, run := n } }
theorem wit_LimitInputsHomingAndStall :
    (let z := vget (ax0 (lim 80)).newest.lim {} 0
     z.sampled = true ∧ z.raw ≠ z.deb ∧ 80 ≤ z.run) ∧ ¬80 ≤ (vget (ax0 (lim 79)).newest.lim {} 0).run ∧
    (run.laneA.acfg 0).hom.lsstop = 0 ∧
    (let a := (ax0 (ax fun a => { a with
        hom := { a.hom with st := .approach }, lim := vmod a.lim 0 fun z => { z with edges := List.replicate 9 0 } })).newest
     (vget a.lim {} 0).edges.head? = some a.frames ∧ 8 < (vget a.lim {} 0).edges.length ∧ a.hom.runs = true) ∧
    -- the back-off limit of 20 mm: with 100 counts per mm, 2000 counts are too few
    (let a := (ax0 (ax fun a => { a with
        hom := { a.hom with st := .backOff }, prof := { a.prof with phase := .accel, motion := .homeRun }, hall := { a.hall with track := 2001 } })).newest
     a.hom.st = .backOff ∧ a.prof.motion = .homeRun ∧ a.prof.phase ≠ .idle ∧
      20 * 10000 < (a.hall.track.toInt - a.hom.backFrom).natAbs * 100 ∧ ¬20 * 10000 < 2000 * 100) ∧
    (let a := (ax0 (ax fun a => { a with hom := { a.hom with st := .approach, ticks := 800001 } })).newest
     a.hom.st = .approach ∧ (run.laneA.acfg 0).hom.htmo * 40000 < a.hom.ticks ∧ ¬(run.laneA.acfg 0).hom.htmo * 40000 < 800000) ∧
    -- a stall in a homing run onto a stop, in another one, and in a motion that opens, closes or relieves
    (let a := (ax0 (ax fun a => { a with
        amp := { a.amp with stallRun := 800 }, hom := { a.hom with st := .approach, seq := 2 } })).newest
     ¬((run.laneA.acfg 0).stepper = true ∧ (run.laneA.acfg 0).hall.hmode = 2) ∧ 0 < (run.laneA.acfg 0).mot.nstall ∧
      (run.laneA.acfg 0).mot.nstall ≤ a.amp.stallRun ∧ a.amp.stallDone = false ∧ a.hom.runs = true ∧ a.hom.seq = 2) ∧
    ((ax0 (valid .cruise true)).newest.prof.neg ≠ (run.laneA.acfg 0).obs.clneg ∧
      (ax0 (valid .cruise)).newest.prof.neg = (run.laneA.acfg 0).obs.clneg) := by decide

theorem wit_HallFaultStandstillAndPower :
    (let a := (ax0 (ax fun a => { a with edge := { a.edge with invRun := 8 } })).newest
     (run.laneA.acfg 0).hall.hmode = 0 ∧ 0 < a.edge.invRun ∧ (run.laneA.acfg 0).hall.invmax ≤ a.edge.invRun ∧
      ¬(run.laneA.acfg 0).hall.invmax ≤ 7) ∧
    ((ax0 (homing .settle)).newest.hom.runs = true ∧ (ax0 run).newest.hom.runs = false) ∧
    ((ax0 (obst .relief)).newest.obs.ostate = .relief) ∧
    -- standstill: the last edge is older than 50 ms
    (let s : State := { run with lines := { run.lines with gate := 5002501 } }
     (some (0 : Time)).any (fun te => decide (te.toNat + 50 * 100000 < (s.lines.gate - 2500).toNat)) = true ∧
      ({ run with lines := { run.lines with gate := 5002500 } } : State).lines.gate - 2500 = 5000000) ∧
    (let s : State := { ax (fun a => { a with
        hall := { a.hall with still := false }, edge := { a.edge with tEdge := some 0, tickAt := some 5000001 } }) with
          lines := { run.lines with gate := 5002501 } }
     (ax0 s).newest.hall.still = false ∧ (ax0 s).newest.edge.tickAt = some (s.lines.gate - 2500)) ∧
    -- power: lost at rest with KEEP, lost without, and the sectors it returns in
    ((ax0 (ax fun a => { a with keep := { a.keep with unpowered := true, lost := some true } })).newest.keep.lost = some true) ∧
    ((ax0 run).newest.keep.unpowered = false ∧ (ax0 run).newest.keep.lost ≠ some true) ∧
    ((1 + 6 - 0) % 6 = 1 ∧ (0 + 6 - 1) % 6 = 5 ∧ (0 + 6 - 0) % 6 = 0 ∧ (3 + 6 - 0) % 6 = 3) := by decide

theorem wit_ObstaclesArePreArmedCommittedAndReversed :
    (let a := (ax0 (ax fun a => { a with obs := { a.obs with ostate := .exceeding, run := 4 } })).newest
     a.obs.ostate = .exceeding ∧ (run.laneA.acfg 0).obs.npre ≤ a.obs.run ∧ ¬(run.laneA.acfg 0).obs.npre ≤ 3) ∧
    (let a := (ax0 (ax fun a => { a with obs := { a.obs with ostate := .preArmed, clr := 40 } })).newest
     a.obs.ostate = .preArmed ∧ (run.laneA.acfg 0).obs.nclr ≤ a.obs.clr ∧ ¬(run.laneA.acfg 0).obs.nclr ≤ 39) ∧
    (let s := ax fun a => { a with obs := { a.obs with commitDue := some 0 } }
     (ax0 s).newest.obs.commitDue.isSome = true ∧ run.laneA.partnerDue 0 = false) ∧
    -- the other leaf of a pair of axes 0 and 1 commits
    (let s := (run.modST .a fun x => { x with dways := vmod x.dways 0 fun _ =>
        { defd := true, paired := true, leaf0 := some 0, leaf1 := some 1 } }).modAxis .a 1 fun a =>
          { a with cur := { a.cur with obs := { a.cur.obs with commitDue := some 0 } } }
     s.laneA.partnerDue 0 = true) ∧
    (let a := (ax0 (valid .cruise)).newest
     a.prof.phase ≠ .idle ∧ a.hom.runs = false ∧ a.obs.ostate ≠ .braking ∧ a.prof.neg = (run.laneA.acfg 0).obs.clneg) ∧
    (let a := (ax0 (obst .braking)).newest
     a.obs.ostate = .braking ∧ a.prof.phase = .idle ∧ a.obs.reld = 0) ∧
    ((ax0 (obst .relief)).newest.obs.ostate = .relief ∧ (ax0 (obst .relief)).newest.prof.phase = .idle) ∧
    ((ax0 (ax fun a => { a with obs := { a.obs with ostate := .braking, reld := 1 } })).newest.obs.reld ≠ 0) := by decide

/-- Hypothesis 0 of axis 0 with a pass of n stages that waits for the next. -/
def passing (n : Nat) : State := run.modHyp .a 0 0 fun y => { y with
  hq := true, stageDue := true, build := some { stages := List.replicate n {} }, done := some { anchor := 2 } }
theorem wit_SchussStagesAndTheirAge :
    (let y := (passing 15).laneA.hyp 0 0
     y.stageDue = true ∧ (y.build.any fun p => decide (p.stages.length < 16) && p.fault.isNone) = true) ∧
    (let y := (passing 16).laneA.hyp 0 0
     (y.build.any fun p => decide (p.stages.length < 16) && p.fault.isNone) = false) ∧
    (let s : State := { passing 0 with lines := { run.lines with gate := 66 * 2500 } }
     (((s.laneA.hyp 0 0).done.any fun p => decide (ticksSince s.tick p.anchor ≤ (s.laneA.acfg 0).snow.passmax)) = true) ∧
      ¬ticksSince 67 2 ≤ (s.laneA.acfg 0).snow.passmax) := by decide

/-- Axis 0 whose learning is due, with n samples in cell 63. -/
def learning (n : Nat) : State := ax fun a => { a with
  learn := { a.learn with apply := true, due := [{ cell := 63, closing := true, n := n, sum := 100 }] } }
theorem wit_TheDragMapIsLearntSeededAndWritten :
    (let a := (ax0 (learning 8)).cur
     a.learn.apply = true ∧ ∀ x ∈ a.learn.due, x.cell < 64 ∧ 8 ≤ x.n ∧
      (a.learn.due.filter fun z => z.cell == x.cell && z.closing == x.closing) = [x]) ∧
    (∀ x ∈ (ax0 (learning 7)).cur.learn.due, x.n < 8) ∧ (ax0 run).cur.learn.apply = false ∧
    (let s := obst .watching
     s.laneA.hasAxis 0 = true ∧ (ax0 s).cur.prof.phase = .idle ∧ (ax0 s).cur.obs.ostate = .watching) ∧
    (ax0 run).cur.obs.ostate = .notEval ∧ (ax0 (valid .cruise)).cur.prof.phase ≠ .idle ∧
    (0x01F401F4 % 65536 ≤ (run.laneA.acfg 0).snow.dragmax ∧ 0x01F401F4 / 65536 ≤ (run.laneA.acfg 0).snow.dragmax ∧
      ¬0x01F5 % 65536 ≤ (run.laneA.acfg 0).snow.dragmax) := by decide

theorem wit_AxBaseComputesOneBlock :
    run.laneA.hasAxis 0 = true ∧ run.laneA.hasAxis 1 = false ∧
    ((run.laneA.acfg 0).mot.kforce = 0 ∧ (run.laneA.acfg 0).hall.hmode = 0 ∧ (run.laneA.slotOf 0).up = none ∧
      (run.laneA.ring 0).due = false ∧ (ax0 run).cur.hom.runs = false ∧ (ax0 run).cmd.hostCmd = none ∧
      (ax0 run).cmd.seqCmd = none) ∧ (ax0 (valid .cruise)).newest.prof.phase ≠ .idle := by decide

/-! ### The statements' hypotheses are met: doorways and slalom -/

/-- Doorway 0 with a leaf of axis 0 and a step of axis 1, released, its sequencer in a state; axis 0 reads locked or not. -/
def cfgD : DwayCfg := { defd := true, leaf0 := some 0, lockto := 1, dwell := 1, autoopen := true, reopmax := 2 }
def open0 : Report := { zspd := true, rell := true }
def door (c : DwayCfg) (z : DwaySt) (r : Report := open0) (locked : Bool := false) : State :=
  let s := run.modST .a fun x => { x with dways := vmod x.dways 0 fun _ => c, car := { x.car with disto := 1 } }
  let s := s.modDway .a 0 fun d => { d with cur := z }
  let s := s.modLN .a fun x => { x with rpt := { x.rpt with rep := r } }
  s.modAxis .a 0 fun a => { a with cur := { a.cur with lim := vmod a.cur.lim 2 fun i => { i with deb := locked } } }
def at0 (st : DState) : DwaySt := { st := st, started := true }
def env (s : State) : DoorEnv := s.laneA.doorEnv 0 s.tick
/-- The tick number n ticks before tick 2. -/
def ago (n : Nat) : Nat := 2 ^ 32 + 2 - n

theorem wit_DoorwayCommandsAreJudgedByTheirTable :
    -- a rejected command, and an accepted one in each state that decides what it does
    dwayRc (env run) {} 1 = 4 ∧ dwayRc (env (door cfgD (at0 .openSt))) (at0 .openSt) 1 = 2 ∧
    ([DState.locked, .warning, .closing, .locking, .stepIn].all fun st => dwayRc (env (door cfgD (at0 st))) (at0 st) 1 == 0) = true ∧
    ([DState.openSt, .unlock, .stepOut, .opening].all fun st => dwayRc (env (door cfgD (at0 st))) (at0 st) 2 == 0) = true ∧
    dwayRc (env run) { at0 .obstr with decided := true } 2 = 4 ∧
    dwayRc (env (door cfgD (at0 .obstr))) { at0 .obstr with decided := true } 2 = 0 ∧
    dwayRc (env (door cfgD (at0 .stopped))) (at0 .stopped) 3 = 0 ∧ dwayRc (env (door cfgD (at0 .locked))) (at0 .locked) 4 = 0 ∧
    dwayRc (env (door cfgD (at0 .service))) (at0 .service) 5 = 0 ∧ dwayRc (env (door cfgD (at0 .locked))) (at0 .locked) 6 = 0 ∧
    -- the leaves read locked, or do not; the command that a DOOR task takes
    (env (door cfgD (at0 .unlock) open0 true)).leaves.all (·.din 2) = true ∧
    (env (door cfgD (at0 .unlock))).leaves.all (fun y => y.din 1 || y.din 2) = false ∧
    (env (door cfgD (at0 .locked))).egr = false ∧ (env run).c.defd = false ∧
    (0 : Nat) ∈ ((door cfgD (at0 .locked)).laneA.dcfg 0).axesUp := by decide

def free (s : State) : Bool :=
  let z := (s.laneA.dway 0).cur
  let v := env s
  v.c.defd && z.started && (!v.egr || z.egr) && !z.egrWait && z.after.isNone && (s.laneA.dway 0).cmd.isNone
def closes (s : State) : Bool :=
  let z := (s.laneA.dway 0).cur
  let v := env s
  !v.rel || (z.st == .openSt && v.c.dwell != 0 && decide (4000 * v.c.dwell ≤ ticksSince v.t z.times.since))
theorem wit_TheSequencerMovesThroughItsStates :
    ((run.laneA.dway 0).cmd = none ∧ (env run).c.defd = false) ∧
    -- the first run, and one that sees the egress
    (let s := door cfgD {}
     (env s).c.defd = true ∧ (s.laneA.dway 0).cur.started = false ∧ (env s).egr = false) ∧
    (let s := door cfgD (at0 .openSt) { open0 with egr := 1 }
     (env s).egr = true ∧ (s.laneA.dway 0).cur.egr = false ∧ (env s).axes.all (fun y => !y.a.snow) = true) ∧
    -- LOCKED: released with AUTOOPEN for the first time, and not released
    (let s := door cfgD (at0 .locked) open0 true
     free s = true ∧ ((env s).rel && !(at0 .locked).releff && (env s).c.autoopen) = true ∧ (env s).leaves.length = 1 ∧
      (env s).locked = true ∧ 0 < (env s).c.lockto) ∧
    (let s := door cfgD (at0 .locked) {} true
     free s = true ∧ (env s).rel = false) ∧
    -- OPEN: DWELL of 1 is 4000 ticks
    (let s := door cfgD { at0 .openSt with times := { since := ago 4000 } }
     free s = true ∧ closes s = true ∧ closes (door cfgD { at0 .openSt with times := { since := ago 3999 } }) = false) ∧
    -- UNLOCK: free, and still locked 399 ticks on
    (let s := door cfgD (at0 .unlock)
     free s = true ∧ closes s = false ∧ (env s).leaves.all (fun y => !y.din 2) = true) ∧
    (let s := door cfgD { at0 .unlock with times := { since := ago 399 } } open0 true
     free s = true ∧ (env s).leaves.any (·.din 2) = true ∧ ticksSince 2 (ago 399) < 400 * (env s).c.lockto) ∧
    -- STEPOUT, OPENING: the move has arrived, or runs
    (let z := { at0 .stepOut with moved := true }
     let s := door cfgD z
     free s = true ∧ closes s = false ∧ (env s).committed z = false ∧ (env s).arrived z = true) ∧
    (let z := { at0 .opening with moved := true }
     let s := door cfgD z
     free s = true ∧ (env s).committed z = false ∧ (env s).arrived z = false) ∧
    (let z := { at0 .opening with moved := true }
     let s := (door cfgD z).modAxis .a 0 fun a => { a with cur := { a.cur with prof := { a.cur.prof with arrived := true } } }
     (env s).arrived z = true ∧ (env s).committed z = false) ∧
    -- CLOSING: a commit, and the second move of its only leaf
    (let s := (door cfgD (at0 .closing) {}).modAxis .a 0 fun a =>
        { a with cur := { a.cur with obs := { a.cur.obs with ostate := .braking } } }
     free s = true ∧ (env s).committed (at0 .closing) = true) ∧
    (let s := door cfgD { at0 .closing with second := [0] } {}
     free s = true ∧ (env s).committed (at0 .closing) = false ∧ (env s).leaves.all (fun y => y.n == 0) = true) ∧
    -- LOCKING and STEPIN, with and without a step
    (let s := door { cfgD with stepax := some 1 } (at0 .locking) open0 true
     free s = true ∧ (env s).locked = true ∧ (env s).step.isSome = true) ∧
    (let s := door cfgD (at0 .locking) open0 true
     free s = true ∧ (env s).locked = true ∧ (env s).step.isSome = false) ∧
    (let z := { at0 .stepIn with moved := true }
     let s := door cfgD z
     free s = true ∧ (env s).committed z = false ∧ (env s).arrived z = true ∧ (env s).stowed = true) ∧
    -- OBSTR below REOPMAX and at it, REOPEN, STOPPED
    (let z := { at0 .obstr with flags := { reopn := 1 } }
     let s := door cfgD z
     free s = true ∧ z.decided = false ∧ (env s).rest z = true ∧ z.flags.reopn < (env s).c.reopmax ∧ z.lastClose = false ∧
      ¬2 < (env s).c.reopmax) ∧
    (let z := { at0 .reopen with moved := true, times := { w := some 1 } }
     let s := door cfgD z
     free s = true ∧ (env s).rest z = true ∧ z.times.w.isSome = true) ∧
    (free (door cfgD (at0 .stopped)) = true ∧ free (door cfgD { at0 .obstr with decided := true }) = true) := by decide

/-- Axis n of lane A changed, beside a doorway. -/
def withAx (n : Nat) (s : State) (f : AxisSt → AxisSt) : State := s.modAxis .a n fun a => { a with cur := f a.cur }
def inPhase (n : Nat) (ph : Phase) (s : State) : State := withAx n s fun a => { a with prof := { a.prof with phase := ph } }
theorem wit_TheSequencerActsOnAxesThatMove :
    -- OPEN in CLOSING, and CLOSE in STEPOUT or OPENING, with a leaf that moves, and one that takes up a command
    (let s := inPhase 0 .cruise (door cfgD (at0 .closing))
     (at0 .closing).after = none ∧ (s.laneA.dway 0).work = none ∧ (s.laneA.dway 0).acc = none ∧ dwayRc (env s) (at0 .closing) 1 = 0 ∧
      (env s).axes.all (fun y => y.a.prof.phase == .cruise && !y.a.snow) = true) ∧
    (let s := (door cfgD (at0 .opening)).modAxis .a 0 fun a => { a with cmd := { a.cmd with seqCmd := some { seq := 1, code := 1 } } }
     dwayRc (env s) (at0 .opening) 2 = 0 ∧ (env s).axes.all (fun y => y.due && !y.a.snow) = true) ∧
    -- the first run with every switch as LOCKED asks, and with one axis whose ring is in FAULT
    (let s := withAx 0 (door cfgD {} open0 true) fun a => { a with hall := { a.hall with posq := .valid } }
     (env s).leaves.all (fun y => y.din 2) = true ∧ (env s).axes.all (fun y => y.a.hall.posq == .valid && !y.dead) = true ∧
      (env (s.modRing .a 0 fun g => { g with st := .fault })).axes.all (fun y => !y.dead) = false) ∧
    -- STEPOUT with the move under way: a leaf unlocked, and the lock on
    (let z := { at0 .stepOut with moved := true }
     let s := inPhase 1 .cruise (door { cfgD with stepax := some 1 } z)
     free s = true ∧ closes s = false ∧ (env s).committed z = false ∧ (env s).arrived z = false ∧
      (env s).leaves.all (fun y => y.din 2) = false) ∧
    (let z := { at0 .stepOut with moved := true, lockOn := true }
     let s := inPhase 1 .cruise (door { cfgD with stepax := some 1 } z open0 true)
     free s = true ∧ z.lockOn = true ∧ (env s).arrived z = false) ∧
    -- OPENING before its request, the step still moving
    (let s := inPhase 1 .cruise (door { cfgD with stepax := some 1 } (at0 .opening))
     free s = true ∧ closes s = false ∧ (at0 .opening).moved = false ∧ (at0 .opening).stepskip = false ∧
      (env s).step.any (fun y => y.a.prof.phase != .idle) = true) ∧
    -- CLOSING, unpaired, two ticks after the grant: a leaf that decelerates at VSEAL, one just above it, and one that arrived
    (let z := { at0 .closing with times := { grant := some 0 } }
     let s := fun v => withAx 0 (door cfgD z) fun a => { a with prof := { a.prof with phase := .decel, v := v } }
     free (s (tenth 0)) = true ∧ (env (s (tenth 0))).c.paired = false ∧ 2 ≤ ticksSince 2 0 ∧ ¬2 ≤ ticksSince 2 1 ∧ 0 ∉ z.second ∧
      (run.laneA.acfg 0).obs.vseal = 500 ∧ (env (s (tenth 500))).leaves.all (fun y => decide (y.a.prof.vref.natAbs ≤ y.c.obs.vseal)) = true ∧
      (env (s (tenth 501))).leaves.all (fun y => decide (y.a.prof.vref.natAbs ≤ y.c.obs.vseal)) = false) ∧
    -- STEPIN at a commit, and OBSTR at REOPMAX
    (let z := { at0 .stepIn with moved := true }
     let s := withAx 1 (door { cfgD with stepax := some 1 } z {}) fun a => { a with obs := { a.obs with ostate := .braking } }
     free s = true ∧ (env s).committed z = true) ∧
    (let z := { at0 .obstr with flags := { reopn := 2 } }
     free (door cfgD z) = true ∧ (env (door cfgD z)).c.reopmax ≤ z.flags.reopn ∧ (env (door cfgD z)).rest z = true) ∧
    -- a cycle that ends later than CLTGT, and one in time
    (let s := door { cfgD with cltgt := 1 } (at0 .locking)
     4000 * (env s).c.cltgt < ticksSince 2 (ago 4001) ∧ ¬4000 * (env s).c.cltgt < ticksSince 2 (ago 4000)) := by decide +kernel

theorem wit_DoorwayTimersActWhenTheyRunOut :
    (let z := { at0 .warning with times := { w0 := ago 0, warnLen := 1 } }
     z.st = .warning ∧ z.times.warnLen ≤ ticksSince 2 z.times.w0 + 1 ∧ ¬2 ≤ ticksSince 2 z.times.w0 + 1 ∧ z.waitg = false) ∧
    ({ at0 .warning with waitg := true }.waitg = true) ∧
    (let s := door cfgD { at0 .openSt with times := { since := ago 4000 } }
     (s.laneA.dcfg 0).dwell ≠ 0 ∧ 4000 * (s.laneA.dcfg 0).dwell ≤ ticksSince s.tick (ago 4000) ∧
      ¬4000 * (s.laneA.dcfg 0).dwell ≤ ticksSince s.tick (ago 3999)) ∧
    (let s := door cfgD { at0 .unlock with times := { since := ago 400 } } open0 true
     400 * (s.laneA.dcfg 0).lockto ≤ ticksSince s.tick (ago 400) ∧ (env s).leaves.any (·.din 2) = true) ∧
    (let s := door { cfgD with lockrty := 1 } { at0 .locking with times := { since := ago 400 } }
     (s.laneA.dway 0).newest.times.pulse = none ∧ (env s).leaves.all (·.din 2) = false ∧
      (s.laneA.dway 0).newest.flags.lockn < (s.laneA.dcfg 0).lockrty ∧ ¬400 ≤ ticksSince s.tick (ago 399)) ∧
    ((some (ago 20000)).any (fun p => decide (20000 ≤ ticksSince 2 p)) = true ∧
      (some (ago 19999)).any (fun p => decide (20000 ≤ ticksSince 2 p)) = false) ∧
    (let s := door { cfgD with stepax := some 1 } { at0 .stepIn with times := { stepDone := some (ago 400) } }
     (env s).step.any (fun y => !y.din 2) = true ∧
      (s.laneA.dway 0).newest.times.stepDone.any (fun p => decide (400 * (s.laneA.dcfg 0).lockto ≤ ticksSince s.tick p)) = true) ∧
    (let s := door cfgD { at0 .openSt with dis := 400 }
     0 < (s.laneA.dway 0).newest.dis ∧ 400 * s.laneA.st.car.disto ≤ (s.laneA.dway 0).newest.dis ∧
      ¬400 * s.laneA.st.car.disto ≤ 399 ∧ (s.laneA.dway 0).work = none) := by decide

/-- Doorway 0 waits for a grant of 5 A under a cap; the one brick takes the quiescent amount of 1. -/
def waiting (cap : Nat) (last : Option Nat := none) : State :=
  let s := door { cfgD with istart := 5 } { at0 .opening with waitg := true }
  let s := s.modST .a fun x => { x with car := { x.car with cap := cap, spacing := 10, iqui := 1 } }
  s.modLN .a fun x => { x with slalom := { x.slalom with lastGrantTick := last } }
theorem wit_SlalomGrantsWithinTheCap :
    up.laneA.running = false ∧ (waiting 5).laneA.running = true ∧
    -- over the cap, and at it; one request; spaced and not
    ((waiting 0).laneA.st.car.cap < (((waiting 0).laneA.slalomEnv 2).bricks.map (isup (waiting 0).laneA.st.car)).sum ∧
      ¬(waiting 1).laneA.st.car.cap < (((waiting 1).laneA.slalomEnv 2).bricks.map (isup (waiting 1).laneA.st.car)).sum) ∧
    (((waiting 5).laneA.slalomEnv 2).doors.filter fun d => d.st.waitg).length = 1 ∧
    (10 ≤ ticksSince 2 (ago 10) ∧ ¬10 ≤ ticksSince 2 (ago 9)) ∧ 0 < (waiting 5).laneA.st.car.spacing ∧
    ((waiting 0).laneA.ln.slalom.capAxis = none) ∧
    -- the axis' own brick makes way for its ISTART: 5 fit under 5, not under 4
    ends (exec (.slalom .a) (waiting 5 (some (ago 10)))) (fun t => t.laneA.ln.slalomWork.any (·.granted == [(0, 1)])) = true ∧
    ends (exec (.slalom .a) (waiting 4)) (fun t => t.laneA.ln.slalomWork.any (·.granted == [])) = true ∧
    ends (exec (.slalom .a) (waiting 5 (some (ago 9)))) (fun t => t.laneA.ln.slalomWork.any (·.granted == [])) = true := by decide

/-! ### The statements' hypotheses are met: the glide rings -/

theorem wit_RingFramesReadBackAsTheyWereBuilt :
    let b : Brick := { seqe := 255, bflt := 15, dnerr := 255, smp := {
      hall := 7, din := 15, vdc := 65535, edges := [(1, 1), (2, 3), (3, 2)] } }
    b.seqe < 256 ∧ b.bflt < 16 ∧ b.dnerr < 256 ∧ b.smp.hall < 8 ∧ b.smp.din < 16 ∧ b.smp.vdc < 65536 ∧
      2 < b.smp.edges.length := by decide

/-- Brick 0 of ring 0 changed; a frame, or a BEACON, on ring 0's line. -/
def brk (f : Brick → Brick) : State := run.modBrick 0 0 f
def slot0 (b : Brick) : Brick := { b with cfg := { b.cfg with slot := some 0 } }
def online (f : List Byte) : State := (brk slot0).modHw 0 fun h => { h with line := f }
def onbcn (f : List Byte) : State := (brk slot0).modHw 0 fun h => { h with bcn := f }
def hdr (t : FType) (nb : Nat) (svc : Bool := false) : List Byte := ({ typ := t, nb := nb, svc := svc } : FHdr).bytes 0
def cyc (seq : Nat) : List Byte := frameBytes 0 { nb := 1 } [({ seq := seq, mode := 1 } : DownRec).bytes 0 0] []
def isHdr (f : List Byte) (t : FType) (nb : Nat) : Bool := (hdrOf 0 f).any fun h => h.typ == t && h.nb == nb

theorem wit_ABrickAppliesItsRecordOrCountsAMiss :
    (let x := (brk slot0).brick 0 0
     (x.cfg.slot.isSome && !x.got && !x.judged) = true) ∧ (run.brick 0 0).cfg.slot = none ∧
    (let x := (brk fun b => { slot0 b with judged := true }).brick 0 0
     x.got = false ∧ x.judged = true) ∧
    (let x := (brk fun b => { slot0 b with missRun := 1, cfg := { (slot0 b).cfg with configured := true, safeMode := 2 } }).brick 0 0
     2 ≤ x.missRun + 1 ∧ x.cfg.configured = true ∧ 2 ≤ x.cfg.safeMode ∧ 8 ≤ 7 + 1) ∧
    (let x := (brk fun b => { slot0 b with got := true }).brick 0 0
     x.cfg.slot.isSome = true ∧ x.got = true ∧ x.taken = none ∧ x.safe = false) ∧
    (let d : DownRec := { mode := 3, clrsafe := true, hold := true }
     let x := (brk fun b => { slot0 b with got := true, safe := true, taken := some d }).brick 0 0
     x.safe = true ∧ x.taken = some d ∧ d.clrsafe = true ∧ (d.mode = 0 ∨ d.mode = 3) ∧ d.hold = true) := by decide

theorem wit_ABrickTakesItsRecordAndFillsItsUpSlot :
    (run.hw 0).line = [] ∧ (run.hw 0).bcn = [] ∧ (brk slot0).hw 0 ≠ (online [1]).hw 0 ∧ hdrOf 0 [1] = none ∧
    -- a frame with this slot and without; a right record, and one with the number of the last
    isHdr (cyc 5) .cyclic 1 = true ∧ isHdr (hdr .cyclic 0) .cyclic 0 = true ∧
    (crcOk 0 (.down 0) (slice (cyc 5) 8 16) = true ∧ byteAt (slice (cyc 5) 8 16) 0 = 5 ∧
      crcOk 0 (.down 1) (slice (cyc 5) 8 16) = false) ∧
    -- a BEACON of the brick before, and of this one; another frame
    ((0 : Nat) < 1 ∧ isHdr (hdr .beacon 0) .beacon 0 = true ∧ isHdr (hdr .beacon 1) .beacon 1 = true ∧
      isHdr (hdr .config 1) .config 1 = true) ∧
    -- a service window for slot 0
    (let f := hdr .cyclic 0 true ++ svcWindow 0 { mask := 1, off := 8128, data := zeros 64 }
     let w := slice f 8 70
     (hdrOf 0 f).any (·.svc) = true ∧ crcOk 0 .window w = true ∧ byteAt w 0 = 1 ∧ bitOf (byteAt w 1) 0 = true ∧
      le16 w 2 % 64 = 0 ∧ le16 w 2 = 8128) ∧
    (isHdr (hdr .loopT 1) .loopT 1 = true) ∧
    (let x := (brk fun b => { slot0 b with hdrMiss := 2 }).brick 0 0
     2 ≤ x.hdrMiss ∧ x.heard = false ∧ x.cfg.slot = some 0) := by decide

theorem wit_BringUpFramesGiveABrickSlotAndTables :
    isHdr (hdr .enum 5) .enum 5 = true ∧ isHdr (hdr .enum 6) .enum 6 = true ∧
    ([FType.desc, .config, .push, .arm].all fun t => isHdr (hdr t 1) t 1) = true ∧ isHdr (hdr .desc 0) .desc 1 = false ∧
    (online (hdr .desc 1)).brick 0 0 = slot0 {} ∧
    (upAt { typ := .desc, nb := 1 } 0 + 24 ≤ (hdr .desc 1 ++ zeros 40).length ∧
      ¬upAt { typ := .desc, nb := 1 } 0 + 24 ≤ (hdr .desc 1 ++ zeros 39).length) ∧
    -- a block of table bytes for slot 0, a record with a right check, and the largest values of a descriptor
    (let f := pushFrame 0 { typ := .push, nb := 1 } { mask := 1, off := 7936, data := zeros 256 }
     let w := slice f 8 262
     crcOk 0 .window w = true ∧ bitOf (byteAt w 0) 0 = true ∧ le16 w 2 % 256 = 0 ∧ le16 w 2 = 7936) ∧
    (let a := withCrc 0 (.down 0) (zeros 14)
     crcOk 0 (.down 0) a = true ∧ crcOk 0 (.down 0) (zeros 16) = false) ∧
    (65535 < 65536 ∧ 255 < 256) := by decide

/-- Ring 0 of lane A in a state. -/
def ring0 (f : LaneRing → LaneRing) : State := run.modRing .a 0 f
theorem wit_RingFramesCarryWhatTheAxesAsk :
    (let g := (ring0 fun g => { g with st := .running }).laneA.ring 0
     g.st = .running ∧ ((g.built.bind (hdrOf 0)).any fun h => h.typ != .cyclic) = false) ∧ (run.laneA.ring 0).st = .off ∧
    (run.img .a).nb 0 = 1 ∧ ((run.img .a).axisAt 0 0).isSome = true ∧ (run.img .a).axisAt 0 1 = none ∧
    (({ mask := 1, off := 0, data := zeros 64 } : TableBlk).data.length = 64) ∧
    -- a broken ring; an axis whose command is not ready, one that may run, one whose brick is safe
    ((ring0 fun g => { g with st := .broken }).laneA.ring 0).st = .broken ∧
    (vget (run.laneA.ring 0).slots {} 0).cmdReady = false ∧ bitOf 1 0 = true ∧
    (let z := vget ((ring0 fun g => g.modSlot 0 fun z => { z with cmdReady := true, stat := 1, sfhold := true }).laneA.ring 0).slots {} 0
     z.cmdReady = true ∧ bitOf z.stat 0 = true ∧ z.sfhold = true) ∧
    ((run.modHw 0 fun h => { h with reps := 8 }).hw 0).reps = 8 ∧ (run.hw 0).reps < 8 ∧
    -- a gate that repeated, one that sent none; a ring that builds its DESC frame; a ring brought up ahead
    ((run.modHw 0 fun h => { h with reps := 8, repNow := true }).hw 0).repNow = true ∧ (run.hw 0).repNow = false ∧
    (((ring0 fun g => { g with st := .rejoining, built := some (hdr .desc 1) }).laneA.ring 0).built.bind (hdrOf 0)).any (fun h =>
      h.typ != .cyclic) = true ∧
    ((ring0 fun g => { g with st := .running, ahead := true }).laneA.ring 0).ahead = true := by decide

/-- A frame of one slot comes back to ring 0, which runs. -/
def coming (f : List Byte) : State :=
  (ring0 fun g => { g with st := .running, got := false }).modHw 0 fun h => { h with line := f }
def upFrame : List Byte := hdr .cyclic 1 ++ zeros 16 ++ ({} : Brick).upBytes 0 0
theorem wit_UpFramesBringRecordsOrLoseThem :
    (let s := coming upFrame
     (s.hw 0).line ≠ [] ∧ (s.laneA.ring 0).got = false ∧ (s.hw 0).bcn = [] ∧ (s.laneA.ring 0).st = .running) ∧
    ((run.hw 0).line = [] ∧ ((ring0 fun g => { g with got := true }).laneA.ring 0).got = true) ∧
    (hdrOf 0 [1] = none ∧ isHdr upFrame .cyclic 1 = true ∧ (run.img .a).slotUsed 0 0 = true ∧ (run.img .a).slotUsed 0 1 = false) ∧
    -- a good record, and one whose check is wrong
    (let b := slice upFrame 24 24
     crcOk 0 (.up 0) b = true ∧ byteAt b 1 < 128 ∧ ¬128 < 128 ∧ crcOk 0 (.up 0) (zeros 24) = false) ∧
    -- a record of this gate that came already, a BEACON, and two ticks without data
    (let s := (coming [1]).modRing .a 0 fun g => g.modSlot 0 fun z => { z with inb := some { latch := run.lines.gate } }
     (vget (s.laneA.ring 0).slots {} 0).inb.map UpRec.latch = some s.lines.gate) ∧
    ((onbcn (hdr .beacon 3)).hw 0).bcn ≠ [] ∧ isHdr (hdr .beacon 3) .beacon 3 = true ∧
    (let s := ring0 fun g => g.modSlot 0 fun z => { z with missRun := 2 }
     s.laneA.hasAxis 0 = true ∧ (s.laneA.slotOf 0).missRun = 2) ∧
    (let a := (ax0 (ax fun a => { a with hall := { a.hall with posq := .valid, still := false } })).cur
     a.hall.still = false ∧ a.hall.posq = .valid) := by decide

theorem wit_RingsBreakRejoinAndComeUp :
    (let g := (ring0 fun g => { g with st := .running, noRetRun := 1, got := false }).laneA.ring 0
     g.st = .running ∧ 2 ≤ g.noRetRun + (if g.got then 0 else 1) ∧ ¬2 ≤ g.noRetRun + 0) ∧
    (let g := (ring0 fun g => { g with st := .broken, goodRun := 4 }).laneA.ring 0
     g.st = .broken ∧ 4 ≤ g.goodRun ∧ ¬4 ≤ 3) ∧
    -- the DESC frame of a rejoining ring, with the serial number and without
    (let s := (ring0 fun g => { g with st := .rejoining }).modHw 0 fun h => { h with line := hdr .desc 1 ++ zeros 40 }
     (s.laneA.ring 0).st = .rejoining ∧ ((hdrOf 0 (s.hw 0).line).any fun h => h.typ == .desc) = true ∧
      ((List.range ((s.img .a).nb 0)).all fun k => (descAt 0 k (s.hw 0).line).any fun b => bitOf (byteAt b 11) 2) = false) ∧
    (let f := hdr .desc 1 ++ zeros 16 ++ withCrc 0 (.up 0) (zeros 11 ++ [4] ++ zeros 10)
     ((List.range 1).all fun k => (descAt 0 k f).any fun b => BitVec.ofNat 32 (le32 b 12) == 0 && bitOf (byteAt b 11) 2) = true) ∧
    -- a DESC frame that still waits, one that has gone out, and one that never did
    (let g := (ring0 fun g => { g with st := .rejoining, built := some (hdr .desc 1) }).laneA.ring 0
     ((g.built.bind (hdrOf 0)).any fun h => h.typ != .cyclic) = true) ∧
    (let s := (ring0 fun g => { g with st := .rejoining, built := some (hdr .cyclic 1) }).modHw 0 fun h => { h with typ := some .desc }
     (s.hw 0).typ = some .desc ∧ (((s.laneA.ring 0).built.bind (hdrOf 0)).any fun h => h.typ != .cyclic) = false ∧
      (run.hw 0).typ ≠ some .desc) ∧
    -- the steps of a bring-up at their boundaries
    ((ring0 fun g => { g with st := .bringUp, bu := { step := 1, ticks := 3 } }).laneA.ring 0).bu.ticks = 3 ∧
    (let f := hdr .enum 1
     ((hdrOf 0 f).bind fun h => if h.typ = .enum then some h.nb else none).getD 0 = (run.img .a).nb 0) ∧
    (800 < 801 ∧ 800 ≤ 800 ∧ 2 ≤ [(0, [(0 : Word)]), (0, [])].length) ∧
    (let f := hdr .desc 1 ++ zeros 16 ++ ({} : Brick).descBytes 0 0 0
     ((List.range 1).any fun k => (descAt 0 k f).all (refusesDesc (run.img .a) 0 k)) = false ∧
     ((List.range 1).any fun k => (descAt 0 k []).all (refusesDesc (run.img .a) 0 k)) = true ∧
     ((List.range 1).all fun k => (descAt 0 k f).any fun b => byteAt b 20 == 0) = true) ∧
    -- RESCAN of an enabled ring at rest, and of one that moves
    ((run.img .a).ringen 0 = true ∧ (run.laneA.acfg 0).ring = 0 ∧ (ax0 run).cur.prof.phase = .idle ∧
      (ax0 run).cur.hall.still = true ∧ ((door cfgD (at0 .stopped)).laneA.dway 0).cur.st = .stopped ∧
      (run.img .a).ringen 1 = false ∧ (1#4).getLsbD 0 = true) := by decide

/-! ### The statements' hypotheses are met: the safety path -/

/-- A function record of SAFETY (R289): function, TYPE, channels, sources, reset mode, target, doorways, DISC, SYNCT,
RSTMASK. -/
def fnBytes (f typ c1 c2 t1 t2 rst tgt dm disc syn rm : Nat) : List Byte :=
  [f, typ, c1, c2, t1, t2, rst, tgt].map (BitVec.ofNat 8) ++ toLE 2 dm ++ toLE 2 disc ++ toLE 2 syn ++ toLE 2 rm
/-- SAFETY: function 0 EGRESS on inputs 0 and 1, 1 TWOHAND on 2 and 3, 2 RESET on 4 for function 0, 3 ZSPEED on 5 and 6, 4
LOOP on 7 and 8; output 0 with ROLE 1, EDMIN 9, of function 0; connection 0 consumed, 1 produced (R288 to R290, R314). -/
def saf : List Byte :=
  toLE 2 5 ++ [0xFF, 0] ++ toLE 2 100 ++ zeros 2 ++ toLE 4 2 ++ zeros 4 ++
  fnBytes 0 1 0 1 1 2 0 0 1 100 0 0 ++ fnBytes 1 3 2 3 1 2 0 0 0 0 500 0 ++ fnBytes 2 7 4 0xFF 3 0 0 0 0 0 0 1 ++
  fnBytes 3 6 5 6 1 2 0 0 0 100 0 0 ++ fnBytes 4 2 7 8 1 2 0 0 1 100 0 0 ++ zeros (11 * 16) ++
  ([0, 1, 9, 5] : List Byte) ++ toLE 2 1 ++ zeros 10 ++ zeros 80 ++
  ([0, 0, 1, 16] : List Byte) ++ toLE 4 0x12345600 ++ toLE 2 20 ++ toLE 2 60 ++ toLE 2 0 ++ [4, 2] ++ zeros 16 ++
  ([1, 1, 2, 16] : List Byte) ++ toLE 4 0x12345600 ++ toLE 2 20 ++ toLE 2 0 ++ toLE 2 0 ++ [0, 0] ++ [0x10] ++ zeros 15
/-- REFEREE: the same functions and output (R291). -/
def refb (typ c1 c2 t1 t2 rst disc : Nat) : List Byte := [typ, c1, c2, t1, t2, rst].map (BitVec.ofNat 8) ++ toLE 2 disc
def refP : List Byte := zeros 8 ++ refb 1 0 1 1 2 0 100 ++ refb 3 2 3 1 2 0 0 ++ refb 7 4 0xFF 3 0 0 0 ++ refb 6 5 6 1 2 0 100 ++
  refb 2 7 8 1 2 0 100 ++ zeros (11 * 8) ++ ([0, 1] : List Byte) ++ toLE 2 1 ++ zeros 4 ++ zeros 40
def fnRun : SafeFn := { sc := { st := .run }, rf := { st := .run } }
def fnNone : SafeFn := { sc := { st := .unused }, rf := { st := .unused } }
def fns0 : Vector SafeFn 16 := #v[fnRun, fnRun, fnRun, fnRun, fnRun, fnNone, fnNone, fnNone, fnNone, fnNone, fnNone, fnNone,
  fnNone, fnNone, fnNone, fnNone]
/-- The safety core and the referee evaluate these functions, all of them in RUN, with their inputs high. -/
def safe (f : SafetyCore → SafetyCore := id) : State := run.modSc fun c => f { c with
  scrun := true, refrun := true, sealSec := some (saf, refP), fns := fns0, slev := 0x1FF, rlev := 0x1FF, chkv := 0x10000, refChkv := 0x10000 }
/-- Function f, or output 0, changed. -/
def fn (f : Nat) (g : SafeFn → SafeFn) : State := safe fun c => { c with fns := vmod c.fns f g }
def outp (g : SafeOut → SafeOut) : State := safe fun c => { c with outs := vmod c.outs 0 g }

theorem wit_InputsAreRecognisedBySamplesOutsideTheirWindow :
    -- the fifth sample of the safety core and the eighth of the referee; the window of source 1 ends at 400 µs
    ((safe).sc.source .safetyCore 0 = 1 ∧ (safe).sc.source .referee 1 = 2) ∧
    (let mask := fun src x : Nat => src != 0 && decide ((src - 1) * 5000 ≤ x % 20000) && decide (x % 20000 < (src - 1) * 5000 + 400)
     let steps := fun (src per : Nat) (ts : List Nat) =>
       let r := ts.filter fun x => !mask src x
       (r.length, (r.zip (r.drop 1)).all fun p => decide (p.1 < p.2) && (p.2 - p.1) % per == 0 &&
         (List.range ((p.2 - p.1) / per)).all fun k => k == 0 || mask src (p.1 + per * k))
     -- five samples of 100 µs, one of them masked, five unmasked, five that a window cuts, and five with a gap
     steps 1 100 [399, 499, 599, 699, 799] = (4, true) ∧ steps 1 100 [400, 500, 600, 700, 800] = (5, true) ∧
     steps 1 100 [19900, 20000, 20100, 20200, 20300, 20400, 20500, 20600, 20700] = (5, true) ∧
     steps 1 100 [400, 500, 600, 700, 900] = (5, false) ∧ steps 1 50 ((List.range 8).map (400 + 50 * ·)) = (8, true)) ∧
    ((safe).sc.slev.getLsbD 0 ≠ false ∧ (safe).sc.rlev.getLsbD 0 ≠ false ∧ (safe).sc.scrun = true ∧ (safe).sc.refrun = true) ∧
    ((fnRec (safe).sc.saf 1).typ = 3 ∧ (refFnRec (safe).sc.refRec 0).typ ≠ 3 ∧
      (refFnRec (safe).sc.refRec 0).demands ((refFnRec (safe).sc.refRec 0).levels 0x1FE) = true) ∧
    run.sc.refrun = false ∧ (safe fun c => { c with frameOn := true }).sc.frameOn = true ∧ (safe).sc.frameOn = false ∧
    -- low runs of another source's window (source 2, at 5000 µs) and none in the own one
    (((safe).sc.scrun = true ∧ (safe).sc.source .safetyCore 0 ≠ 0 ∧ (safe).sc.slev.getLsbD 0 = true)) ∧
    (let foreign := fun rs : List (Nat × Nat) => rs.any fun r => decide (1 ≤ r.2 ∧ r.2 ≤ 4) &&
        [1, 2, 3, 4].any fun o => o != 1 && decide ((o - 1) * 5000 ≤ r.1 ∧ r.1 ≤ (o - 1) * 5000 + 400)
     foreign [(5400, 4)] = true ∧ foreign [(5401, 4)] = false ∧ foreign [(5000, 5)] = false) ∧
    ((fnRec (safe).sc.saf 0).uses 0 = true ∧ (vget (safe).sc.fns {} 0).sc.st ≠ .fault) := by decide

theorem wit_AScanEvaluatesEveryFunctionAndReports :
    run.sc.scrun = false ∧ (safe).sc.scrun = true ∧
    (let r := fnRec (safe).sc.saf 0
     r.ev = false ∧ (vget (safe).sc.fns {} 0).sc.st = .run ∧ r.demands (r.levels 0x1FF) = false ∧
      r.disagrees (r.levels 0x1FF) = false ∧ 199 + 1 ≤ r.disc + 100 ∧ ¬200 + 1 ≤ r.disc + 100 ∧ r.demands (r.levels 0x1FE) = true) ∧
    ((fnRec (safe).sc.saf 5).typ = 0 ∧ (vget (safe).sc.fns {} 5).sc.st = .unused) ∧
    (bitOf (outRec (safe).sc.saf 0).fmask 0 = true ∧ (outRec (safe).sc.saf 0).role ≠ 0) ∧
    (let s := run.modLN .a fun x => { x with rpt := { x.rpt with missed := 4 } }
     4 ≤ s.laneA.ln.rpt.missed) ∧ run.laneA.ln.rpt.missed < 4 := by decide

/-- The scan closes both switches of output 0, whose function is permitted and whose EDM input is high (R278, R280). -/
theorem wit_AScanClosesASwitch :
    ends (exec (.safetyScan {}) (safe fun c => { c with slev := 0x3FF })) (fun t => (vget t.sc.outs {} 0).hon && (vget t.sc.outs {} 0).lon) = true := by
  decide +kernel

theorem wit_AFaultedOutputStaysOpen :
    (∀ o : Fin 6, (vget (safe fun c => { c with sclost := true }).sc.outs {} o).lon = false) ∧
    (let s := outp fun z => { z with ocode := 5 }
     (vget s.sc.outs {} 0).ocode ≠ 0 ∧ (vget s.sc.outs {} 0).hon = false ∧ (vget s.sc.outs {} 0).lon = false) ∧
    ends (step { State.reset with pending := [.powerOnReset 0] }) (fun _ => true) = true := by decide

/-- The safety core of a state with function f changed, its time, and the levels it reads. -/
def fnAt (f : Nat) (time : Nat) (lev : Word) (g : SafeFn → SafeFn) : State := (fn f g).modSc fun c => { c with time := time, slev := lev }
theorem wit_SafetyFunctionsFaultResetAndOperate :
    -- DISC is 100 ms: neither technology, both, and one alone
    (let s := fn 0 fun x => { x with sc := { x.sc with discMs := 101 }, rf := { x.rf with discMs := 100 } }
     let x := vget s.sc.fns {} 0
     x.sc.st ≠ .unused ∧ x.sc.st ≠ .fault ∧ (fnRec s.sc.saf 0).disc < x.sc.discMs ∧ ¬(refFnRec s.sc.refRec 0).disc < x.rf.discMs) ∧
    (let s := fn 0 fun x => { x with rf := { x.rf with discMs := 101 } }
     let x := vget s.sc.fns {} 0
     x.rf.st ≠ .unused ∧ x.rf.st ≠ .fault ∧ (refFnRec s.sc.refRec 0).disc < x.rf.discMs ∧ ¬(fnRec s.sc.saf 0).disc < x.sc.discMs) ∧
    -- two hands 500 ms apart while armed, with ZSPEED; one hand; a hand held for 30001 ms
    (let s := fnAt 1 500 0x1FF fun x => { x with armed := true, rise1 := some 0 }
     let r := fnRec s.sc.saf 1
     r.typ = 3 ∧ r.levels s.sc.slev = (true, true) ∧ (500 : Nat) - 0 ≤ r.synct ∧ ¬(501 : Nat) - 0 ≤ r.synct ∧
      s.sc.zspd = true ∧ (vget s.sc.fns {} 1).sc.st = .run ∧ r.target = 0) ∧
    (let s := fnAt 1 500 0x1F7 fun x => { x with rise1 := some 0 }
     (fnRec s.sc.saf 1).levels s.sc.slev = (true, false)) ∧
    (let s := fnAt 1 30001 0x1FF fun x => { x with rise1 := some 0 }
     ([(vget s.sc.fns {} 1).rise1].any fun o => o.any fun t => decide (30000 < s.sc.time - t)) = true ∧ ¬30000 < 30000 - 0 ∧
      (vget s.sc.fns {} 1).sc.st ≠ .fault ∧ (vget s.sc.fns {} 1).sc.st ≠ .unused) ∧
    (fnRec saf 0).typ ≠ 3 ∧ (fnRec saf 0).typ ≠ 7 ∧
    -- RESET: a fall 100 ms and 3000 ms after the rise, earlier and later
    (let s := fnAt 2 100 0x1EF fun x => { x with press := some 0 }
     (fnRec s.sc.saf 2).typ = 7 ∧ (vget s.sc.fns {} 2).sc.st = .run ∧ s.sc.slev.getLsbD (fnRec s.sc.saf 2).ch1 = false ∧
      ((vget s.sc.fns {} 2).press.any fun p => decide (100 ≤ s.sc.time - p ∧ s.sc.time - p ≤ 3000)) = true) ∧
    (bitOf (fnRec saf 2).rstmask 0 = true ∧ bitOf (fnRec saf 2).rstmask 2 = false ∧ 3000 ≤ 3000 ∧ ¬100 ≤ 99 ∧ ¬3001 ≤ 3000) ∧
    -- a function of its mask that waits, one in FAULT whose cause has gone, one whose demand is still there
    (let s := fn 0 fun x => { x with sc := { st := .rstwait }, rf := { st := .rstwait } }
     let x := vget s.sc.fns {} 0
     x.sc.st = .rstwait ∧ x.rf.st = .rstwait ∧ (fnRec s.sc.saf 0).demands ((fnRec s.sc.saf 0).levels s.sc.slev) = false ∧
      (refFnRec s.sc.refRec 0).demands ((refFnRec s.sc.refRec 0).levels s.sc.rlev) = false) ∧
    (let s := fn 0 fun x => { x with sc := { st := .fault, code := 6 } }
     (vget s.sc.fns {} 0).sc.causeGone ((fnRec s.sc.saf 0).levels s.sc.slev) true = true) ∧
    ((fnRec saf 0).demands ((fnRec saf 0).levels 0x1FE) = true) ∧
    -- the permits have differed for 201 ms
    (let s := fn 0 fun x => { x with disagMs := 201 }
     (fnRec s.sc.saf 0).typ ≠ 0 ∧ (fnRec s.sc.saf 0).disc + 100 < (vget s.sc.fns {} 0).disagMs ∧
      ¬(fnRec s.sc.saf 0).disc + 100 < 200) := by decide

/-- Each of the five does something in such a state. -/
theorem wit_SafetyFunctionsAct :
    ends (exec (.discrepancyFault 0) (fn 0 fun x => { x with rf := { x.rf with discMs := 101 } }))
      (fun t => (vget t.sc.fns {} 0).rf.st == .fault && (vget t.sc.fns {} 0).sc.st == .run) = true ∧
    ends (exec (.twohandOperation 1) (fnAt 1 500 0x1FF fun x => { x with armed := true, rise1 := some 0 }))
      (fun t => t.sc.rell && !t.sc.relr) = true ∧
    ends (exec (.twohandOperation 1) (fnAt 1 501 0x1FF fun x => { x with armed := true, rise1 := some 0 }))
      (fun t => !t.sc.rell) = true ∧
    ends (exec (.twohandHeldFault 1) (fnAt 1 30001 0x1FF fun x => { x with rise1 := some 0 }))
      (fun t => (vget t.sc.fns {} 1).sc.st == .fault && (vget t.sc.fns {} 1).sc.code == 5) = true ∧
    ends (exec (.permitDisagreeFault 0) (fn 0 fun x => { x with disagMs := 201 }))
      (fun t => (vget t.sc.fns {} 0).rf.code == 6 && (vget t.sc.fns {} 0).sc.code == 6) = true := by decide

theorem wit_SafetyOutputsFaultAndTest :
    (let z := vget (outp fun z => { z with hon := true, lon := true }).sc.outs {} 0
     z.hon = true ∧ z.lon = true ∧ z.ocode = 0 ∧ z.testing = none ∧ z.edmLeft = none) ∧
    -- the two slots of output 0 in its 25 frames, once each
    ((25 % 25 = 2 * 0 ∧ 37 % 25 = 12 + 2 * 0 ∧ ¬(26 % 25 = 2 * 0)) ∧
      (outp fun z => { z with slot := some 25 }).sc.frame ≠ 25 ∧ (safe).sc.refrun = true) ∧
    ((vget (outp fun z => { z with hon := true, lon := true, edmLeft := some 3 }).sc.outs {} 0).edmLeft ≠ none) ∧
    -- VSOUT at 15.8 V, 16 V, 17 V and 17.2 V, in units of 0.2 V
    (79 < 80 ∧ ¬80 < 80 ∧ 85 ≤ 85 ∧ ¬86 ≤ 85 ∧ (safe fun c => { c with vslow := true }).sc.vslow = true) ∧
    (let s := safe fun c => { c with slev := 0x200, outs := vmod c.outs 0 fun z => { z with hon := true, lon := true, edmLeft := some 0 } }
     (vget s.sc.outs {} 0).edmLeft = some 0 ∧ (outRec s.sc.saf 0).edmin ≠ 0xFF ∧
      s.sc.slev.getLsbD (outRec s.sc.saf 0).edmin = (vget s.sc.outs {} 0).on) ∧
    (700 < 701 ∧ 700 ≤ 700 ∧ (outRec (safe).sc.saf 0).role ≠ 0 ∧ (outRec (safe).sc.saf 1).role = 0) ∧
    ((vget (outp fun z => { z with ocode := 7 }).sc.outs {} 0).ocode = 7) ∧
    ((safe).sc.reflost = false ∧ (safe).sc.sclost = false ∧ (safe).sc.refrun = true) ∧
    (let c := (safe fun c => { c with slotMs := 1000 }).sc
     1000 ≤ c.slotMs ∧ c.scrun = true ∧ c.reflost = false ∧ ¬1000 ≤ 999) := by decide

/-- A seal record in force, of the check value 0001_0000h. -/
def sealed0 : SealRec :=
  let r : SealRec := { chkv := 0x10000, fold := 1, count := 1 }
  { r with crc := r.check }
theorem wit_SafetyCommandsAreJudgedAndAnswered :
    (let s : State := { safe with lines := { run.lines with plugLevel := 1, plugGood := true } }
     srcHost (.mb2 .a) = true ∧ s.sc.scrun = true ∧ s.sc.sealSec.isSome = true ∧ s.sealed = false ∧ s.sc.chkv = s.sc.refChkv ∧
      foldOf s.sc.chkv = 1 ∧ foldOf s.sc.chkv ≠ 0 ∧ foldOf s.sc.chkv ≠ 0xFFFF ∧ s.lines.plugGood = true ∧ s.lines.plugLevel = foldOf s.sc.chkv ∧
      s.keep.sealRec.count < 0xFFFF) ∧
    (srcHost (.mb6 .a) = false ∧ run.sc.sealSec = none ∧ run.sc.scrun = false) ∧
    (let s : State := { safe with keep := { run.keep with sealRec := sealed0 } }
     s.sealed = true ∧ s.sc.allLoops = true ∧ s.sc.zspd = true) ∧
    (safeSources.all fun q => !((safe).safeMsg q).full) = true ∧
    -- the plug: three equal samples that are new, with a stream running and without
    ((1 : BitVec 16) = 1 ∧ (1 : BitVec 16) ≠ run.keep.plug ∧ run.keep.plug = 0) ∧
    (run.laneA.running = true ∧ (up.laneA.running || up.laneB.running) = false) ∧
    (let s := fn 0 fun x => { x with sc := { st := .rstwait } }
     (1#32).getLsbD 0 = true ∧ (vget s.sc.fns {} 0).sc.st = .rstwait) := by decide

/-! ### The statements' hypotheses are met: streams and the network -/

/-- A stream header (R55). -/
def hd (ep tot nsec flags : Nat) : List Byte :=
  let h : List Byte := [0x46, 0x52, 0x4C, 0x59] ++ toLE 2 ep ++ toLE 2 64 ++ toLE 4 tot ++ toLE 2 nsec ++ toLE 2 flags ++ zeros 44
  h ++ toLE 4 (crc32c h).toNat
def headOk (bs : List Byte) : Bool :=
  bs.take 4 == [0x46, 0x52, 0x4C, 0x59] && le16 bs 6 == 64 && (crc32c (bs.take 60)).toNat == le32 bs 60
/-- A live image whose one section is LEDG. -/
def ledP0 : List Byte := [1, 100] ++ zeros 254
def liveBytes : List Byte :=
  let h : List Byte := toLE 2 0x0E ++ [0, 0] ++ toLE 4 256 ++ zeros 4
  hd 1 336 1 1 ++ h ++ toLE 4 (crc32c (h ++ ledP0)).toNat ++ ledP0
/-- A store slot with these bytes in a module that loads by itself; lane A loads, with an image in shadow. -/
def stored (bs : List Byte) : State := { up with keep := { slot1 := { bytes := bs, valid := true, seq := 1 } } }
def strm (z : StrmLN) : State := run.modLN .a fun x => { x with strm := z }

/-- Whether an image that passes every check exists turns on MOTION's free layout (log entry 6): no test can show one whole
full image. Every error of a full load is met, and so is a live image that passes. -/
theorem wit_AFullLoadIsCheckedAndBuiltInShadow :
    headOk [1] = false ∧ headOk (hd 3 80 1 0) = true ∧ le16 (hd 3 80 1 0) 4 = 3 ∧
    (headOk (hd 2 76 1 2) = true ∧ le32 (hd 2 76 1 2) 8 = 76 ∧ le16 (hd 2 76 1 2) 4 = 2) ∧
    (match checkImage .sk2460 none (hd 1 80 1 0 ++ zeros 16) with
      | .error e => e.code == 4
      | .ok _ => false) = true ∧
    -- a reading of the plug that is valid and new; a referee whose bytes differ
    (({ up with lines := { up.lines with plugGood := true, plugLevel := 1 } } : State).keep.plug ≠ 1) ∧
    -- busy, not the owner, a stream at rest and one that may not be replaced
    (run.port.busyLoad = false ∧ run.owns .a = true ∧ run.owns .b = false) ∧ up.laneA.running = false ∧
    (run.laneA.running = true ∧ run.laneA.ln.rpt.rep.zspd = false) ∧
    (let s := run.modLN .a fun x => { x with rpt := { x.rpt with rep := { zspd := true } } }
     s.laneA.ln.rpt.rep.zspd = true ∧ (s.laneA.img.doorways.all fun d => (s.laneA.dway d).cur.st == .locked) = true) ∧
    -- the store: only slot 1 valid, with the flag to load by itself
    (let s := stored (hd 1 80 1 2)
     s.ref.owner = .a ∧ s.ref.token = true ∧ s.laneA.ln.on = true ∧ s.laneA.ln.strm.st = .empty ∧ s.port.busyLoad = false ∧
      s.keep.slot0.valid = false ∧ bitOf (le16 s.keep.slot1.bytes 14) 1 = true) ∧
    -- another seal, another plug, another ledger format with records not yet uploaded
    (sealed0.present = true ∧ sealed0.chkv ≠ (({} : Image).chkv) ∧ foldOf ({} : Image).chkv ≠ 1) ∧
    (img.ledFormat ≠ ({} : Image).ledFormat ∧ ((2 : Word) ≠ 1)) := by decide

/-- A live image that passes every check exists (R88). -/
theorem wit_ALiveImagePasses :
    (checkImage .sk2460 (some {}) liveBytes).toOption.map (fun r => r.2.ledFormat) = some 1 := by decide +kernel

theorem wit_AStreamTakesEffectAndIsStored :
    (let s := strm { st := .building, built := true, shadow := some img }
     s.owns .a = true ∧ s.laneA.ln.strm.st = .building ∧ s.laneA.ln.strm.built = true ∧
      ((List.range 4).all fun r => (s.laneA.ring r).svc.isEmpty) = true ∧ s.laneA.ln.strm.shadow = some img) ∧
    (let s := strm { st := .building }
     s.owns .a = true ∧ s.laneA.ln.strm.built = false ∧ s.laneA.running = true ∧
      ((List.range 4).all fun r => (s.laneA.ring r).st != .bringUp) = true) ∧
    (((List.range 4).all fun r => ((ring0 fun g => { g with st := .bringUp }).laneA.ring r).st != .bringUp) = false) ∧
    ((ring0 fun g => { g with ahead := true, st := .bringUp }).laneA.ring 0).ahead = true ∧
    run.laneA.ln.strm.st ≠ .building ∧ ({ secs := [{ typ := 10 }] } : Image).carries 10 = true ∧
    -- a new check value, none held, and the same one
    (run.sc.sealSec = none ∧ (safe).sc.sealSec.isSome = true ∧ img.chkv ≠ (safe).sc.chkv ∧
      (safe fun c => { c with chkv := img.chkv }).sc.chkv = img.chkv) ∧
    (let s := strm { st := .running, storeDue := true }
     s.laneA.ln.strm.storeDue = true) ∧
    ((stored []).keep.slot0.valid = false ∧
      (let k : ModKeep := { slot0 := { valid := true, seq := 2 }, slot1 := { valid := true, seq := 1 } }
       ¬(k.slot0.valid = false ∨ (k.slot1.valid = true ∧ k.slot0.seq < k.slot1.seq)))) := by decide

theorem wit_ALiveRestreamCommitsWholeOrNotAtAll :
    (run.port.busyLoad = false ∧ run.owns .a = true) ∧ (strm { st := .liveReady }).laneA.ln.strm.st = .liveReady ∧
    (up.laneA.st.run = none ∧ run.laneA.st.run = some img) ∧ (strm { st := .liveStaging }).laneA.ln.strm.st = .liveStaging ∧
    -- a live image ready in a train at rest, released for 80 ticks, with no lane in sync that still stages
    (let s := (strm { st := .liveReady, shadow := some img }).modLN .a fun x =>
        { x with rpt := { x.rpt with rep := { zspd := true }, same := 80 } }
     s.ref.token = true ∧ s.laneA.ln.rpt.rep.zspd = true ∧ 80 ≤ s.laneA.ln.rpt.same ∧ ¬80 ≤ 79 ∧
      (s.laneA.img.doorways.all fun d => (s.laneA.dway d).cur.st == .locked) = true ∧
      ((List.range 24).all fun n => !s.laneA.hasAxis n ||
        ((s.laneA.axis n).cur.prof.phase == .idle && (s.laneA.axis n).cur.hall.still)) = true ∧
      s.laneB.ln.strm.st ≠ .liveStaging ∧ s.laneA.ln.strm.shadow = some img) ∧
    -- a standby that is not in sync and holds its part, one in sync that still stages
    (let s := ((strm { st := .liveReady }).modLN .b fun x => { x with role := .unsync, strm := { st := .liveStaging, shadow := some img } })
     s.laneB.ln.strm.st = .liveStaging ∧ s.laneB.ln.role ≠ .sync ∧ s.laneB.ln.strm.shadow = some img) ∧
    ((run.modLN .b fun x => { x with strm := { st := .liveStaging } }).laneB.ln.role = .sync) ∧
    -- ten seconds after LIVE
    (let s : State := { strm { st := .liveReady } with lines := { run.lines with now := 1000000000 } }
     s.laneA.mr.liveto * 100000000 ≤ (s.lines.now - s.laneA.ln.strm.liveFrom).toNat ∧
      ¬s.laneA.mr.liveto * 100000000 ≤ 999999999) ∧
    (run.laneA.img.ledFormat = 1 ∧ ({} : Image).ledFormat = 0) := by decide

/-- Connection 0 in a state, and a frame for it. -/
def conn (f : Conn → Conn) : State := safe fun c => { c with conns := vmod c.conns 0 f }
def cid0 : Word := (connRec saf 0).cid
def sf (seq : Nat) (start : Bool := false) (cid : Word := cid0) : List Byte := safeFrame cid seq 0 true start false (zeros 16)
def verd (st : ConnState) (origin : Bool) (f : List Byte) : Verdict :=
  verdict (connRec saf 0) { st := st, origin := origin, seq := 10 } false 0 f
theorem wit_SafeFramesAreProducedCheckedAndWatched :
    (let s := safe fun c => { c with conns := vmod c.conns 1 fun x => { x with st := .producing, started := true, wdMs := 20 } }
     (s.sc.conn 1).st = .producing ∧ (connRec s.sc.saf 1).period ≤ (s.sc.conn 1).wdMs ∧ ¬(connRec s.sc.saf 1).period ≤ 19 ∧
      (connRec s.sc.saf 1).permf = 0x10 ∧ 16 ≤ (connRec s.sc.saf 1).plen ∧ (connRec s.sc.saf 1).plen < 256) ∧
    -- the seven checks: every one fails somewhere, and frames pass in VALID and in WAIT
    (verd .valid true (sf 11) = .pass ∧ verd .valid true (sf 14) = .pass ∧ verd .wait false (sf 11) = .pass ∧
      verd .wait true (sf 11) = .pass ∧ verd .valid true (zeros 36) = .length ∧
      verd .valid true ((sf 11).take 35 ++ [0]) = .crc ∧ verd .valid true (sf 11 false 7) = .foreign ∧
      verd .valid true (sf 11 true) = .restart ∧ verd .valid true (sf 10) = .dup ∧ verd .valid true (sf 15) = .jump ∧
      verd .wait true (sf 15) = .jump) ∧
    (verdict { connRec saf 0 with agemax := 1 } { st := .valid } false 0 (sf 1) = .time ∧
      verdict { connRec saf 0 with agemax := 1 } { st := .valid } true 0
        (safeFrame cid0 1 2001 true false true (zeros 16)) = .age ∧
      verdict { connRec saf 0 with agemax := 1 } { st := .valid } true 0
        (safeFrame cid0 1 2000 true false true (zeros 16)) = .pass) ∧
    -- the ninth bad check in a second; reintegration; the watchdog of 60 ms
    (8 < (0 :: (List.replicate 8 0).filter fun t => decide ((0 : Nat) < t + 1000)).length ∧ 1 + 1 = (connRec saf 0).reint ∧
      (connRec saf 0).manual = false) ∧
    (let s := conn fun x => { x with st := .ackwait, wdMs := 60 }
     (s.sc.conn 0).st = .ackwait ∧ (connRec s.sc.saf 0).wdto ≤ (s.sc.conn 0).wdMs ∧ ¬(connRec s.sc.saf 0).wdto ≤ 59) ∧
    ((conn fun x => { x with st := .invalid }).sc.conn 0).st = .invalid := by
  decide +kernel

/-- A frame to interface 0, and an IPv4 packet to 10.0.0.1 in it, of a protocol. -/
def eth (typ : Nat) (p : List Byte) : List Byte := [2, 0, 0, 0, 0, 1, 2, 0, 0, 0, 0, 9] ++ toBE 2 typ ++ p
def ipv4 (proto : Nat) (body : List Byte) : List Byte :=
  let h := fun csum => ([0x45, 0] : List Byte) ++ toBE 2 (20 + body.length) ++ zeros 4 ++ [64] ++ toBE 1 proto ++ toBE 2 csum ++
    toBE 4 0x0A000002 ++ toBE 4 0x0A000001
  h (inetSum (h 0)) ++ body
def ipOk (p : List Byte) : Bool := decide (20 ≤ p.length ∧ byteAt p 0 = 0x45 ∧ 20 ≤ ofBE (slice p 2 2) ∧
  ofBE (slice p 2 2) ≤ p.length ∧ ofBE (slice p 6 2) % 16384 = 0 ∧ ones16 (p.take 20) = 65535 ∧
  ipForUs img (ofBE (slice p 16 4)) = true ∧ byteAt p 9 ≠ 6)
def echoBody : List Byte := [8, 0] ++ toBE 2 (inetSum ([8, 0, 0, 0] ++ zeros 4)) ++ zeros 4
def udp (port : Nat) (d : List Byte) : List Byte := toBE 2 port ++ toBE 2 port ++ toBE 2 (8 + d.length) ++ zeros 2 ++ d
def arp (op : Nat) : List Byte := [0, 1, 8, 0, 6, 4] ++ toBE 2 op ++ [2, 0, 0, 0, 0, 9] ++ toBE 4 0x0A000002 ++ zeros 6 ++ toBE 4 0x0A000001
def tunnelReq : List Byte :=
  let b : List Byte := [0x54, 0x55, 0, 1] ++ zeros 8
  b ++ toLE 4 (crc32c b).toNat
theorem wit_InterfacesAnswerDeliverOrDiscard :
    (run.owns .a = true ∧ bitOf (run.img .a).ifen 0 = true ∧ run.owns .b = false) ∧
    run.laneA.ln.net.eths.toList.all (fun y => y.rxdisc ≤ 0xFF) = true ∧
    ((zeros 13).length < 14 ∧ untag img 0 (eth 0x8100 (zeros 4)) = none ∧ untag img 0 (eth 0x88CC []) = some (0x88CC, [])) ∧
    (untag img 0 (eth 0x0806 (arp 1))).any (fun u => u.1 == 0x0806 && ofBE (slice u.2 6 2) == 1) = true ∧
    (28 ≤ (arp 2).length ∧ slice (arp 2) 0 6 = [0, 1, 8, 0, 6, 4] ∧ ofBE (slice (arp 2) 24 4) = img.ipaddr 0 ∧
      ofBE (slice (arp 2) 6 2) = 2 ∧ ((List.range 16).any fun j => img.sarpIp j == 0x0A000002) = false) ∧
    (ipOk (ipv4 1 echoBody) = true ∧ ipOk (ipv4 6 []) = false ∧ ipOk (ipv4 89 []) = true) ∧
    (let b := slice (ipv4 1 echoBody) 20 8
     byteAt b 0 = 8 ∧ byteAt b 1 = 0 ∧ 8 ≤ b.length ∧ b.length ≤ 1480 ∧ ones16 b = 65535) ∧
    (¬(zeros 1481).length ≤ 1480 ∧ 1518 < (zeros 1519).length ∧ ¬1518 < (zeros 1518).length) ∧
    -- a datagram for connection 0, one for another port, one whose length is wrong
    (let p := ipv4 17 (udp 5000 [1])
     ipOk p = true ∧ ofBE (slice (slice p 20 9) 4 2) = 9 ∧ img.trPort 0 = 5000 ∧ img.trIp 0 = 0 ∧
      (connRec (safe).sc.saf 0).produce = false) ∧
    (img.tunEn = true ∧ bitOf img.tunIfs 0 = true ∧ img.tunPort = 6000 ∧ ofBE (slice (udp 5000 []) 4 2) = 8 ∧ ¬8 ≤ ofBE (slice (zeros 8) 4 2)) ∧
    (((List.range 4).any fun k => img.tunSrc k == (0x0A000002#32).toNat && (0x0A000002#32) != 0) = true ∧
      tunnelReq.length = 12 + 4 * byteAt tunnelReq 3 ∧ slice tunnelReq 0 2 = [0x54, 0x55] ∧
      le32 tunnelReq (tunnelReq.length - 4) = (crc32c (tunnelReq.take (tunnelReq.length - 4))).toNat) := by decide +kernel

/-- A PTP message to interface 0: its type, its flags, the port it comes from, its number, seconds and a body. -/
def ptp (typ flags seq : Nat) (body : List Byte := []) : List Byte :=
  toBE 1 typ ++ [2] ++ toBE 2 (44 + body.length) ++ [5, 0] ++ toBE 2 flags ++ zeros 8 ++ zeros 4 ++ List.replicate 10 9 ++ toBE 2 seq ++
    zeros 2 ++ toBE 6 0 ++ toBE 4 50000 ++ body
/-- Lane A with a PTP state. -/
def ptpAt (q : PtpSt) : State := run.modNet .a fun n => { n with ptp := q }
def mineP (f p : List Byte) : Bool := decide (run.owns .a = true ∧ bitOf img.ifen 0 = true ∧ f.length ≤ 1518 ∧ 14 ≤ f.length ∧
  img.ptpMode = 2 ∧ bitOf img.ptpIfs 0 = true ∧ untag img 0 f = some (0x88F7, p) ∧ 44 ≤ p.length ∧ byteAt p 1 % 16 = 2 ∧
  byteAt p 4 = img.ptpDomain)
theorem wit_TrainTimeTakesPtpMessages :
    -- a one-step Sync, a two-step one, its Follow_Up, and the answer to a Delay_Req; a message of another domain
    (let p := ptp 0 0 7
     mineP (eth 0x88F7 p) p = true ∧ isPtpSync img 0 (eth 0x88F7 p) = true ∧ byteAt p 0 % 16 = 0 ∧ bitOf (byteAt p 6) 1 = false) ∧
    (let p := ptp 0 0x200 7
     mineP (eth 0x88F7 p) p = true ∧ bitOf (byteAt p 6) 1 = true) ∧
    (let p := ptp 8 0 7
     mineP (eth 0x88F7 p) p = true ∧ byteAt p 0 % 16 = 8 ∧
      (ptpAt { sync := some (slice p 20 10, 7, 0) }).laneA.ln.net.ptp.sync.any (fun q => q.1 == slice p 20 10 && q.2.1 == ofBE (slice p 30 2)) =
        true) ∧
    (let p := ptp 9 0 7 (ptpPort img 0)
     let n := (ptpAt { pair := some (0, 40), req := some (7, 100) }).laneA.ln.net.ptp
     mineP (eth 0x88F7 p) p = true ∧ byteAt p 0 % 16 = 9 ∧ 54 ≤ p.length ∧ slice p 44 10 = ptpPort img 0 ∧
      n.req.any (fun q => q.1 == ofBE (slice p 30 2)) = true ∧ n.pair.isSome = true ∧ isPtpSync img 0 (eth 0x88F7 p) = false) ∧
    -- the path delay is the mean of the two ways: 40 out, and from 10 to 5000
    ends (exec (.ethFrameReceive .a 0 (eth 0x88F7 (ptp 9 0 7 (ptpPort img 0))) 0) (ptpAt { pair := some (0, 40), req := some (7, 100) }))
      (fun t => t.laneA.ln.net.ptp.delay == 2470 && t.laneA.ln.net.ptp.req.isNone) = true ∧
    -- an offset of 1 us either way is near, more is not; 10 us is kept in lock, more is not
    (-100 ≤ (-100 : Int) ∧ ¬(101 : Int) ≤ 100 ∧ -1000 ≤ (-1000 : Int) ∧ ¬((1000 : Int) < 1000) ∧ 1000 < (1001 : Int)) := by decide +kernel

theorem wit_TrainTimeLocksAndCanRecovers :
    run.laneA.ln.net.fresh = true ∧
    (let s := run.modNet .a fun n => { n with fresh := false, tsync := 1, goodSyncs := 15 }
     s.laneA.ln.net.fresh = false ∧ s.laneA.ln.net.tsync = 1 ∧ 16 ≤ s.laneA.ln.net.goodSyncs + 1 ∧ ¬16 ≤ 14 + 1) ∧
    (let s : State := { (run.modNet .a fun n => { n with tsync := 2 }) with lines := { run.lines with now := 300000000 } }
     s.laneA.ln.net.tsync = 2 ∧ 300000000 ≤ (s.lines.now - s.laneA.ln.net.lastSync).toNat ∧ ¬300000000 ≤ 299999999) ∧
    -- CAN: a frame of connection 0, a bus that is off
    (bitOf (img.trPath 0) 2 = true ∧ bitOf (img.trCan 0) 31 = false ∧ img.trCan 0 % 2 ^ 29 = 0x123 ∧
      (vget run.laneA.ln.net.cans {} 0).st ≠ 2) ∧
    (let s := run.modNet .a fun n => n.modCan 0 fun y => { y with st := 2 }
     (vget s.laneA.ln.net.cans {} 0).st = 2) := by decide

/-! ### The statements' hypotheses are met: DMA and the power die -/

/-- MMUTAB (R351 to R355): domain 0 of two pages, open to the host, the first page readable and writable and the second only
readable; domain 1 of one page, closed; channel 0 of the host, 1 of the steward, 2 of context 0. -/
def mmuP : List Byte := toLE 2 3 ++ zeros 14 ++ toLE 2 2 ++ toLE 2 0 ++ zeros 4 ++ ([3, 0, 0, 0] : List Byte) ++ zeros 4 ++
  toLE 2 1 ++ toLE 2 2 ++ zeros 12 ++ zeros 480 ++ ([2, 0, 1, 0] : List Byte) ++ zeros 4 ++ ([1, 0, 2, 0] : List Byte) ++ zeros 4 ++
  ([3, 0, 2, 0] : List Byte) ++ zeros 44 ++ toLE 4 0x700000 ++ toLE 4 0x300001 ++ toLE 4 0x700002
def imgD : Image := { secs := [{ typ := 5, payload := mmuP }] }
def dma (f : DmaCh → DmaCh) (c : Nat := 0) : State := (up.modST .a fun x => { x with run := some imgD }).modDma .a c f
/-- Host registers of a channel: source, destination, length, control, next. -/
def start (w0 w1 w2 w3 w4 : Word) : State := dma fun h => { h with regs := #v[w0, w1, w2, w3, w4] }
def outcome (s : State) (c : Fin 8 := 0) (own : Vector Word 5 := #v[0, 0, 0, 0, 0]) : Nat × Nat :=
  match exec (.dmaStart .a c own) s with
  | .next t => ((t.laneA.dmaCh c).st, (t.laneA.dmaCh c).fcode)
  | _ => (9, 9)
theorem wit_ADescriptorIsJudgedBeforeAnyByteMoves :
    ([1, 2, 3, 5].all fun k => ((dma fun h => { h with st := k }).laneA.dmaCh 0).st == k) = true ∧
    -- 64 bytes to the end of the domain pass; one more does not, nor the closed domain, nor a bad field in any word
    outcome (start 0 0x1FC0 0x40 0 0) = (2, 0) ∧ outcome (start 0 0x1FC1 0x40 0 0) = (5, 4) ∧
    outcome (start 0 0x01000000 0x40 0 0) = (5, 3) ∧ outcome (start 0x01000000 0 0x40 0 0) = (5, 3) ∧
    outcome (start 0x20000000 0 1 0 0) = (5, 4) ∧ outcome (start 0 0x20000000 1 0 0) = (5, 4) ∧
    outcome (start 0 0 0x01000000 0 0) = (5, 4) ∧ outcome (start 0 0 1 8 0) = (5, 4) ∧ outcome (start 0 0 1 0x10000 0) = (5, 4) ∧
    outcome (start 0 0 1 0 0x01000000) = (5, 4) ∧ outcome (start 0x20000000 0 1 4 0) = (2, 0) ∧
    -- no bytes: at the end at once, or on to the next descriptor; and behind another channel that runs
    outcome (start 0 0 0 1 0) = (4, 0) ∧ outcome (start 0 0 0 3 64) = (2, 0) ∧ imgD.chOwner 0 = 2 ∧
    outcome ((start 0 0 1 0 0).modDma .a 3 fun h => { h with st := 2 }) = (1, 0) ∧
    (imgD.chOwner 1 = 1 ∧ imgD.chOwner 2 = 3 ∧ imgD.chOwner 4 = 0) ∧
    -- the words that the steward puts into its channel, which may name every domain
    outcome (dma id 1) 1 #v[0x01000000, 0, 0x40, 0, 0] = (2, 0) ∧ outcome (dma id 1) 1 #v[0, 0x20000000, 1, 0, 0] = (5, 4) ∧
    (let h := (dma fun h => { h with st := 5, resumable := true }).laneA.dmaCh 0
     h.st = 5 ∧ h.resumable = true) ∧ (run.laneA.dmaCh 0).st = 0 := by decide +kernel

/-- Channel 0 runs a copy from the second page to the first, or a fill. -/
def burst (len : Nat) (ctl : Word) (f : DmaCh → DmaCh := id) (dst : Word := 0) : State :=
  dma fun h => f { h with st := 2, words := #v[0x1000, dst, BitVec.ofNat 32 len, ctl, 64] }
def afterBurst (s : State) (ecc : List EccEvent := []) : Nat × Nat × Nat :=
  match exec (.dmaBurst .a ecc) s with
  | .next t => let h := t.laneA.dmaCh 0
               (h.st, h.fcode, h.off)
  | _ => (9, 9, 9)
theorem wit_ABurstMovesBytesOrStopsAtTheExactOne :
    (run.laneA.ln.dma.chs.toList.all fun h => h.st == 0) = true ∧ (burst 64 0).laneA.dmaServed = some 0 ∧
    ((burst 64 0).modDma .a 2 fun h => { h with st := 2 }).laneA.dmaServed = some 2 ∧
    -- it goes on, ends, goes on to the next descriptor
    afterBurst (burst 65 0) = (2, 0, 64) ∧ afterBurst (burst 64 0) = (4, 0, 64) ∧ afterBurst (burst 64 2) = (2, 0, 0) ∧
    -- a byte that may not be written, one with an error, one beyond the domain
    afterBurst (burst 64 4 id 0x1000) = (5, 2, 0) ∧ afterBurst (burst 64 0) [.uncorrectable 0x1008] = (5, 5, 8) ∧
    afterBurst (burst 64 0 (fun h => { h with st := 3, off := 16 })) [.uncorrectable 0x1018] = (5, 5, 16) ∧
    ((burst 64 4).laneA.dmaCh 0).fill = true ∧ ((burst 64 0).laneA.dmaCh 0).fill = false ∧
    ((dma fun h => { h with st := 2 }).memWf) ∧
    (let s := burst 64 0 fun h => { h with fetch := true, curva := 0x1000 }
     (s.laneA.dmaCh 0).fetch = true ∧ (translate imgD (imgD.chDom 0) 0x1000 false).toOption.isSome = true ∧
      (translate imgD (imgD.chDom 0) 0x2000 false).toOption = none) := by decide +kernel

/-- Gang 0 of one channel, a chime on channel 28, and channel 8 leading a gang of eight. -/
def loadCf : LoadCfg := { enabled := true, gang := 1, ilatch := 10, retry := 3, rtint := 1, olen := true, offdg := true }
def load (f : LoadCh → LoadCh) (cf : LoadCfg := loadCf) (k : Nat := 0) : State :=
  run.modPd fun q => ((q.modCf k fun _ => { cf with leader := k }).modGrp (k / 8) fun g => { g with up := true }).modCh k f
def may (s : State) : Bool := let c := s.pd.ch 0
  !c.onNow && !c.tlatch && !c.latched && c.cmdOn && ((s.pd.cf 0).mode != 1 || c.cmdDuty != 0)
theorem wit_GangsFollowTheirCommandsAndDiagnostics :
    (run.laneA.running = true ∧ run.laneA.ln.on = true ∧ run.ref.owner = .a ∧ up.laneA.running = false) ∧
    -- commanded off and on; may start and may not; spent, ready and not ready
    ((load fun c => { c with on := true }).pd.cf 0).leads = true ∧ (run.pd.cf 0).leads = false ∧
    may (load fun c => { c with cmdOn := true }) = true ∧ may (load fun c => { c with cmdOn := true, onNow := true }) = false ∧
    (let s := load fun c => { c with cmdOn := true, hold := .latchOff, left := some 0 }
     may s = true ∧ (s.pd.ch 0).hold ≠ .none ∧ (s.pd.ch 0).retleft = 0) ∧
    (let s := load fun c => { c with cmdOn := true, hold := .latchOff, left := some 0, retleft := 1 }
     may s = true ∧ (s.pd.ch 0).retleft ≠ 0 ∧ (s.pd.grp 0).up = true ∧ (s.pd.ch 0).left = some 0) ∧
    (let s := load fun c => { c with cmdOn := true, hold := .latchOff, left := some 1, retleft := 1 }
     may s = true ∧ (s.pd.ch 0).left ≠ some 0) ∧
    (let s := run.modPd fun q => { q with cmdage := 400 }
     400 ≤ s.pd.cmdage ∧ s.pd.out = false ∧ ¬400 ≤ 399) ∧
    (let s := load (fun c => { c with onNow := true }) { loadCf with mode := 1 }
     (s.pd.cf 0).leads = true ∧ (s.pd.cf 0).mode = 1 ∧ (s.pd.ch 0).onNow = true) ∧
    (let s := load (fun c => { c with onNow := true }) { loadCf with mode := 2 } 28
     (s.pd.cf 28).mode = 2 ∧ (s.pd.ch 28).onNow = true) ∧
    -- open load: 20 mA for one channel are 5 steps; on a PWM channel from a duty of 103 on
    (let s := load fun c => { c with onNow := true }
     (s.pd.cf 0).olen = true ∧ (s.pd.ch 0).olon = false ∧ 4 * 4 < (s.pd.cf 0).gang * 20 ∧ ¬4 * 5 < (s.pd.cf 0).gang * 20 ∧
      1024 ≤ 10 * 103 ∧ ¬1024 ≤ 10 * 102) ∧
    -- 30 ms (1200 ticks) and 20 ms (800) after the gang was on, 10 ms and 1 ms above 4.0 V; a tone that has lasted
    (let c := (load fun c => { c with offAge := 1199 }).pd.ch 0
     1200 ≤ c.offAge + 1 ∧ ¬1200 ≤ 1198 + 1 ∧ 800 ≤ 799 + 1 ∧ ¬800 ≤ 798 + 1 ∧ 4000 < 4001 ∧ ¬4000 < 4000 ∧ 10000 ≤ 10000 ∧ ¬10000 ≤ 9999) ∧
    (let s := load (fun c => { c with onNow := true, tone := 1, toneAge := 391 }) { loadCf with mode := 2 } 28
     392 * (1 : Nat) ≤ (s.pd.ch 28).toneAge + 1 ∧ ¬392 * (1 : Nat) ≤ 390 + 1) ∧
    -- the LOADCMD task was late, and was not
    (let s := (run.modST .a fun x => { x with run := some { secs := [{ typ := 4, payload := toLE 4 1 ++ ctxRec 5 7 0 0 0 }] } }).modSched .a
        fun q => { q with cLate := [5] }
     (s.laneA.ln.sched.cLate.any fun c => (s.laneA.img.ctx c).any fun r => r.typ == 7) = true ∧ run.laneA.ln.sched.cLate = []) ∧
    (let c := (load id).pd.ch 0
     c.onNow = false ∧ c.oloff = false ∧ c.shortb = false ∧ ((load id).pd.cf 0).offdg = true) := by decide +kernel

theorem wit_GangsLatchOffShutDownAndRestart :
    -- 1 A for one channel are 250 steps
    (let s := load fun c => { c with onNow := true }
     ((s.pd.cf 0).leads = true ∧ (s.pd.cf 0).leader = 0 ∧ (s.pd.ch 0).onNow = true ∧ (s.pd.cf 0).gang ≠ 8) ∧
      4 * 250 ≤ (s.pd.cf 0).gang * (s.pd.cf 0).ilatch * 100 ∧ (s.pd.cf 0).gang * (s.pd.cf 0).ilatch * 100 < 4 * 251) ∧
    -- a gang of eight, in limitation and not
    (let s := load (fun c => { c with onNow := true, limit := true }) { loadCf with gang := 8 } 8
     (s.pd.cf 8).gang = 8 ∧ (s.pd.ch 8).limit = true ∧ 10000 ≤ 4 * 2500 ∧ ¬10000 ≤ 4 * 2499) ∧
    (let s := load (fun c => { c with onNow := true, limAge := some 400 }) { loadCf with gang := 8 } 8
     ((s.pd.ch 8).limAge.map fun n => decide (n ≤ 400)).getD false = true ∧ decide ((401 : Nat) ≤ 400) = false) ∧
    -- a thermal event two ticks ago and one three ticks ago; 150 C and 125 C are 214 and 189
    (let s := load fun c => { c with hold := .thermal, offAge := 2 }
     (s.pd.ch 0).hold = .thermal ∧ (s.pd.ch 0).onNow = false ∧ (s.pd.ch 0).offAge ≤ 2 ∧ ¬3 ≤ 2 ∧ (s.pd.cf 0).gang ≠ 8 ∧
      (s.pd.cf 0).gang * (s.pd.cf 0).ilatch * 100 < 4 * 251 ∧ 50 ≤ 50 ∧ ¬50 ≤ 49) ∧
    (214 ≤ 214 ∧ ¬214 ≤ 213 ∧ 188 < 189 ∧ ¬189 < 189) ∧
    (let s := load fun c => { c with tlatch := true, tj := 188 }
     (s.pd.ch 0).tlatch = true ∧ ((List.range (s.pd.cf 0).gang).all fun j => decide ((s.pd.ch (0 + j)).tj < 189)) = true) ∧
    -- another channel of the gang that is still hot
    (let s := (load (fun c => { c with tlatch := true }) { loadCf with gang := 2 }).modPd fun q => q.modCh 1 fun c => { c with tj := 189 }
     ((List.range (s.pd.cf 0).gang).all fun j => decide ((s.pd.ch (0 + j)).tj < 189)) = false) ∧
    run.pd.cmdage = 0 ∧ (run.modPd fun q => { q with cmdage := 1 }).pd.cmdage ≠ 0 ∧ (1000 ≤ 1000 ∧ ¬1000 ≤ 999) ∧
    ((load fun c => { c with left := some 0 }).pd.ch 0).left = some 0 ∧
    ((load fun c => { c with quiet := 2400000 }).pd.ch 0).quiet = 2400000 ∧ ¬2400000 ≤ 2399999 ∧
    -- 10 A in a group are 2500 steps; its only gang that conducts carries most
    (10000 < 4 * ([2501].sum) ∧ ¬10000 < 4 * ([2500].sum)) ∧
    ((load fun c => { c with onNow := true }).pd.largest 0 fun _ => 2501) = some 0 ∧
    -- 16.0 V and 17.0 V; group 3 is absent from the SK2440
    (groupFused run.part 0 = false ∧ groupFused .sk2440 3 = true ∧ ¬160 < 160 ∧ 159 < 160 ∧ ¬171 ≤ 170 ∧ 170 ≤ 170) := by
  decide +kernel

/-! ### The statements' hypotheses are met: the lanes -/

/-- Lane B changed in `run`, or its redundancy fields, or the referee. -/
def lb (f : LaneLN → LaneLN) : State := run.modLN .b f
def rb (f : RedLN → RedLN) : State := run.modRed .b f
def rf (f : Referee → Referee) : State := run.modRef f

def bothIn (s : State) : Bool := ends (exec (.laneReport .a) s) fun t =>
  t.ref.repa.here && t.ref.repb.here && t.ref.repa.tick == s.tick && t.ref.repb.tick == s.tick &&
    t.ref.repa.built == t.ref.repb.built && t.ref.repa.fcrc != t.ref.repb.fcrc
theorem wit_LanesReportAndEpochsReachTheStandby :
    -- off by either cause; on and not in layover
    (({} : State).laneA.ln.on = false ∧ ({} : State).lines.inReset = true ∧ run.laneA.ln.on = true ∧ run.lines.inReset = false ∧
      run.laneA.ln.pwr.layover = false) ∧
    -- both reports of this tick, which differ, of a lane in sync and of one that is not; and one report only
    (let s := rf fun r => { r with repb := { here := true, tick := 2, role := .sync, fcrc := 1 } }
     bothIn s = true ∧ s.ref.divtest = false) ∧
    (bothIn (rf fun r => { r with repb := { here := true, tick := 2, role := .unsync, fcrc := 1 } }) = true ∧
      bothIn run = false) ∧
    -- the active lane sends, with its epoch context late or not; the standby does not
    (run.owns .a = true ∧ run.laneB.ln.on = true ∧ run.laneA.ln.red.linkDown = false ∧ run.laneB.ln.red.linkDown = false ∧
      run.owns .b = false) ∧
    ((run.modSched .a fun x => { x with cLate := [3] }).laneA.epochLate = true ∧ run.laneA.epochLate = false) ∧
    -- an epoch in flight to a standby; one judged in the tick before, and none
    (let s := rb fun g => { g with inflight := some { hdr := { tick := 2 } } }
     s.ref.token = true ∧ s.ref.owner ≠ .b ∧ s.laneB.ln.on = true ∧ s.laneB.ln.red.inflight.isSome = true) ∧
    (run.laneB.ln.red.inflight = none ∧ run.laneB.ln.red.judged ≠ some ((run.tick + 2 ^ 32 - 1) % 2 ^ 32) ∧
      (rb fun g => { g with judged := some 1 }).laneB.ln.red.judged = some ((run.tick + 2 ^ 32 - 1) % 2 ^ 32)) ∧
    (run.laneB.running = true ∧ run.laneB.ln.red.gateSeg = false ∧ run.laneB.ln.red.exNow = false) := by decide +kernel

/-- When a lane whose heartbeat came with the gate is found without one, whatever the referee's 40 µs are (R330). -/
theorem hb_limit_bounds (l : LaneId) (n : Nat) : 3850 ≤ Config.hbLimit l n ∧ Config.hbLimit l n < 4171 := by
  unfold Config.hbLimit
  omega
/-- An epoch of tick 2 in flight to lane B, and what its seal holds. -/
def flying : State := rb fun g => { g with inflight := some { hdr := { tick := 2 } } }
theorem wit_SealsArriveInTimeOrNot :
    -- a right seal in the epoch's tick and at 20.5 µs of the next; one too late, and one of another tick
    (∀ e ∈ flying.laneB.ln.red.inflight, (2#32).toNat = e.hdr.tick ∧ ∃ crc : Word, crc = crc32c (e.bytes .a)) ∧
    flying.tick = 2 ∧ ({ flying with lines := { flying.lines with gate := 7500 } } : State).tick = (2 + 1) % 2 ^ 32 ∧ 2050 ≤ 2050 ∧ ¬2051 ≤ 2050 ∧
    (3#32).toNat ≠ 2 ∧
    (rb fun g => { g with extrap := true }).laneB.ln.red.extrap = true ∧
    -- a heartbeat with the gate, none yet, and the time after which it counts as lost
    ((rf fun r => { r with hba := some 5000 }).ref.beat .a = some run.lines.gate ∧ run.ref.beat .a = none) ∧
    (∀ n, Config.hbLimit .a n < (run.lines.gate + BitVec.ofNat 64 4171 - 5000).toNat) ∧
    (∀ n, ¬Config.hbLimit .a n < (run.lines.gate + BitVec.ofNat 64 3850 - 5000).toNat) := by
  refine ⟨?_, by decide, by decide, by decide, by decide, by decide, by decide, by decide, ?_, ?_⟩
  · intro e he
    have h : flying.laneB.ln.red.inflight = some { hdr := { tick := 2 } } := rfl
    rw [h] at he
    cases he
    exact ⟨rfl, _, rfl⟩
  · intro n
    have h : (run.lines.gate + BitVec.ofNat 64 4171 - 5000).toNat = 4171 := by decide
    have := (hb_limit_bounds .a n).2
    omega
  · intro n
    have h : (run.lines.gate + BitVec.ofNat 64 3850 - 5000).toNat = 3850 := by decide
    have := (hb_limit_bounds .a n).1
    omega
/-- Ring 0 of lane A runs with a frame built, and its line carries that frame. -/
def sending (err : LineErr) : Bool :=
  let f := cyc 5
  crc32c (downPart 0 (applyErr f err)) == crc32c (downPart 0 f)
theorem wit_FramesLeaveAsReportedOrNot :
    -- the report of the tick before, a frame that leaves as built, one whose byte 9 is hit, and one that the repeat store sent
    (let s := rf fun r => { r with repa := { here := true, tick := 1, built := 1, fcrc := crc32c (downPart 0 (cyc 5)) } }
     s.ref.token = true ∧ (s.ref.report .a).here = true ∧ (s.ref.report .a).tick = (s.tick + 2 ^ 32 - 1) % 2 ^ 32 ∧
      (s.ref.report .a).built.getLsbD 0 = true) ∧
    sending [] = true ∧ sending [(9, 1)] = false ∧
    (run.modHw 0 fun h => { h with repNow := true }).hw 0 ≠ run.hw 0 ∧
    -- lane A is quiet with every axis still at rest for 80 ticks, and not before; a gap that waits to be settled
    ((run.modLN .a fun x => { x with rpt := { x.rpt with same := 80 } }).quiet .a = true ∧ run.quiet .a = false) ∧
    (let s := rf fun r => { r with gapDue := true }
     s.ref.gapDue = true ∧ s.ref.skipFrame = false ∧ s.owns .a = true) ∧
    ((rf fun r => { r with gapDue := true, skipFrame := true }).ref.skipFrame = true) ∧
    -- the epoch that was made up at the merge, the one that is made up now, and one still in flight to the standby
    ((run.modRed .a fun g => { g with epochOut := some {} }).laneA.ln.red.epochOut = some {} ∧ run.laneA.ln.red.epochOut = none ∧
      flying.laneB.ln.red.inflight.isSome = true ∧ run.linked .b = true) := by decide +kernel

def whys : SwitchWhy → State
  | .heartbeat => rf fun r => { r with lost := 1 }
  | .frame => rf fun r => { r with frameBad := true }
  | .degraded => run.modHlth .a fun h => { h with degr := true }
  | .laneReset => run.modLN .a fun x => { x with on := false }
  | .divergence => rf fun r => { r with divSwitch := true }
def condOf (s : State) : SwitchWhy → Bool
  | .heartbeat => s.ref.isLost .a
  | .frame => s.ref.frameBad
  | .degraded => s.laneA.ln.hlth.degr || s.ref.repa.degr
  | .laneReset => !s.laneA.ln.on
  | .divergence => s.ref.divSwitch
def syncB (r : Referee) (s : State) : Bool := r.role .b == .sync && !r.isLost .b && !r.divtest && s.laneB.ln.on
def weakB (s : State) : Bool := let r := s.ref
  !r.isLost .b && s.laneB.ln.on && (r.role .b == .unsync || r.role .b == .degraded || (r.role .b == .sync && r.divtest))
theorem wit_TheTokenMovesByTheRefereesTable :
    -- each cause, with the standby in sync, unsynchronised, degraded and under test; and no cause
    ([SwitchWhy.heartbeat, .frame, .degraded, .laneReset, .divergence].all fun w => (whys w).ref.token && condOf (whys w) w &&
      syncB (whys w).ref (whys w) && !condOf run w) = true ∧
    ([SwitchWhy.heartbeat, .frame, .laneReset].all fun w =>
      let s := whys w
      weakB (s.modRef fun r => { r with roleb := .unsync }) && weakB (s.modRef fun r => { r with roleb := .degraded }) &&
        weakB (s.modRef fun r => { r with divtest := true }) && !weakB s) = true ∧
    -- an axis at rest and one that moves; a doorway that is locked and one that is not
    ((run.laneB.hasAxis 0 = true ∧ (run.laneB.axis 0).newest.prof.phase = .idle) ∧
      (let s := run.modAxis .b 0 fun a => { a with cur := { a.cur with prof := { a.cur.prof with phase := .cruise } } }
       (s.laneB.axis 0).newest.prof.phase = .cruise ∧ (s.laneB.axis 0).newest.obs.ostate ≠ .braking ∧
        (s.laneB.axis 0).newest.obs.ostate ≠ .relief)) ∧
    ((door cfgD (at0 .locked)).laneA.dway 0).newest.st = .locked ∧ ((door cfgD (at0 .openSt)).laneA.dway 0).newest.st = .openSt ∧
    (door cfgD (at0 .openSt)).laneA.dcfg 0 = cfgD ∧
    -- a cold takeover that ends, and nobody to take over
    (let s := rf fun r => { r with cold := true }
     s.ref.cold = true ∧ s.ref.token = true ∧ s.laneA.coldDone = true ∧ s.laneA.ln.ylSeen = [] ∧ s.laneA.ln.ylLive = []) ∧
    ((rf fun r => { r with lost := 3 }).ref.isLost .a = true ∧ (rf fun r => { r with lost := 3 }).ref.isLost .b = true) ∧
    (let s := (rf fun r => { r with gapDue := true }).modHw 0 fun h => { h with reps := 4 }
     s.ref.gapDue = true ∧ 4 ≤ (s.hw 0).reps ∧ ¬4 ≤ (run.hw 0).reps) ∧
    (let s := rf fun r => { r with token := false, parked := true }
     s.ref.parked = true ∧ s.laneB.ln.on = true ∧ s.ref.isLost .b = false) ∧
    (let s := rf fun r => { r with token := false }
     s.ref.token = false ∧ s.ref.parked = false ∧ s.lines.inReset = false ∧ s.laneA.ln.on = true) ∧
    -- the first heartbeat of lane A 50 ms after the release, and one later, with lane B's there
    (((rf fun r => { r with token := false, hba := some 5000000 }).ref.beat .a).any (fun b => decide ((b - run.lines.freeAt).toNat ≤ 5000000)) =
      true) ∧
    (let s : State := { (rf fun r => { r with token := false, hba := some 5000001, hbb := some 5000 }) with
        lines := { run.lines with now := 5000001 } }
     (s.ref.beat .a).any (fun b => decide ((b - s.lines.freeAt).toNat ≤ 5000000)) = false ∧ (s.ref.beat .b).isSome = true ∧
      5000000 < (s.lines.now - s.lines.freeAt).toNat) := by decide +kernel

/-- Lane B joins, at a step. -/
def join (f : RedLN → RedLN) : State := ((rb f).modRef fun r => { r with roleb := .unsync }).modLN .b fun x => { x with role := .unsync }
def mayJoin (s : State) : Bool := s.ref.token && s.ref.owner == .a && s.laneB.ln.on && !s.ref.isLost .b &&
  s.laneB.ln.role != .degraded && s.laneB.ln.role != .sync && !s.laneB.ln.red.linkDown
theorem wit_DivergingLanesAreTestedAndLanesJoinStepByStep :
    (let s := rf fun r => { r with mism := 3 }
     s.ref.token = true ∧ s.ref.divtest = false ∧ 3 ≤ s.ref.mism ∧ ¬3 ≤ 2 ∧ s.laneA.ln.hlth.queue.length < 64) ∧
    -- the four outcomes of a test, all with both answers there; and one that runs out after 250 ms
    ([(true, true), (true, false), (false, true), (false, false)].all fun p =>
      let s := rf fun r => { r with divtest := true, divA := some p.1, divB := some p.2 }
      s.ref.divtest && s.ref.token && s.ref.divA.isSome && s.ref.divB.isSome) = true ∧
    (let s : State := { (rf fun r => { r with divtest := true }) with lines := { run.lines with now := 25000000 } }
     s.ref.divA = none ∧ 25000000 ≤ (s.lines.now - s.ref.divFrom).toNat) ∧
    -- the sync link, lost and not
    ((rb fun g => { g with unsealedRun := 2 }).laneB.ln.red.unsealedRun = 2 ∧ run.ref.isLost .a = false ∧ run.ref.isLost .b = false ∧
      (0xE : BitVec 4) ≠ 0xF ∧ 100000 ≤ 100000 ∧ ¬100000 ≤ 99999 ∧ ¬2 ≤ run.laneB.ln.red.unsealedRun) ∧
    (let s : State := { (rb fun g => { g with linkDown := true }) with lines := { run.lines with now := 1000000 } }
     1000000 ≤ (s.lines.now - s.laneB.ln.red.linkTry).toNat ∧ ¬1000000 ≤ 999999) ∧
    (run.ref.token = true ∧ run.ref.owner ≠ .b ∧ run.laneB.ln.on = true ∧ run.laneB.ln.red.linkDown = false ∧
      (rb fun g => { g with linkDown := true }).laneB.ln.red.linkDown = true ∧ run.laneB.ln.role ≠ .degraded ∧
      (lb fun x => { x with role := .degraded }).laneB.ln.role = .degraded) ∧
    -- the steps of the join
    ([0, 1, 2, 3, 4, 5].all fun k => let s := join fun g => { g with jstate := k }
      mayJoin s && s.laneB.ln.red.jstate == k) = true ∧ mayJoin run = false ∧
    (run.laneA.running = true ∧ run.laneB.running = true ∧ run.laneB.st.run = run.laneA.st.run) ∧
    ((join fun g => { g with jstate := 2, bulkleft := 1 }).laneB.ln.red.bulkleft = 1 ∧ (join fun g => { g with jstate := 2 }).laneB.ln.red.bulkleft = 0) ∧
    ((join fun g => { g with jstate := 3, rpFresh := true }).laneB.ln.red.rpFresh = true ∧
      (join fun g => { g with jstate := 4, clean := 16 }).laneB.ln.red.clean = 16 ∧ 15 < 16) ∧
    ([1, 4].all fun k => let g := (join fun g => { g with jstate := k, jticks := 800 }).laneB.ln.red
      decide (1 ≤ g.jstate ∧ g.jstate ≤ 4 ∧ 800 ≤ g.jticks ∧ ¬800 ≤ g.jticks - 1)) = true := by decide +kernel

/-- Lane B is active and lane A in sync, with both reports quiet. -/
def ownB (f : Referee → Referee) : State := ((run.modRef fun r => f { r with
    owner := .b, rolea := .sync, roleb := .active, repa := { quiet := true }, repb := { quiet := true } }).modLN .a fun x =>
  { x with role := .sync }).modLN .b fun x => { x with role := .active }
def syncA (s : State) : Bool := s.ref.role .a == .sync && !s.ref.isLost .a && !s.ref.divtest && s.laneA.ln.on
theorem wit_LaneAReturnsAtAQuietTick :
    (let s := ownB fun r => { r with lapass := true, clean := 80000 }
     s.ref.token = true ∧ s.ref.owner = .b ∧ s.ref.revpend = false ∧ s.ref.lapass = true ∧ s.ref.rolea = .sync ∧
      80000 ≤ s.ref.clean ∧ ¬80000 ≤ 79999 ∧ s.ref.cold = false ∧ s.laneB.ln.red.stale = false) ∧
    (run.ref.token = true ∧ syncB run.ref run = true ∧ run.laneA.ln.on = true) ∧
    (let s := ownB fun r => { r with revpend := true }
     s.ref.token = true ∧ syncA s = true ∧ s.ref.cold = false ∧ s.ref.revpend = true ∧ s.ref.repa.quiet = true ∧
      s.ref.repb.quiet = true) ∧
    (let s := rf fun r => { r with swreq := true, repa := { quiet := true }, repb := { quiet := true } }
     s.ref.swreq = true ∧ syncB s.ref s = true ∧ s.ref.revpend = false ∧ s.ref.repa.quiet = true) ∧
    (let s : State := { (ownB fun r => { r with revpend := true }) with lines := { run.lines with now := 6000000000 } }
     s.ref.revpend = true ∧ syncA s = true ∧ 6000000000 ≤ (s.lines.now - s.ref.revAt).toNat ∧ ¬6000000000 ≤ 5999999999) := by
  decide +kernel

/-! ### The statements' hypotheses are met: ledger, health, resets and power -/

/-- The ledger of lane A changed in `run`. -/
def led (f : LedgLN → LedgLN) : State := run.modLN .a fun x => { x with ledg := f x.ledg }
def evt (t : Nat) : LedEntry := .event 0x0501 0 t 0
/-- A 48-byte record with its check value, written to the first slot of lane A's ledger. -/
def rec48 : List Byte :=
  let b : List Byte := [0x4B, 3] ++ zeros 2 ++ toLE 4 1 ++ zeros 36
  b ++ toLE 4 (crc32c b).toNat
def ledMem (s : State) : State := s.modKeep .a fun k => { k with mem := Memory.write k.mem 0x01000000 rec48 }
theorem wit_LedgerRecordsAreWrittenFoundAndAcknowledged :
    -- the lane that writes and the one that does not; holding, with the queue empty, with records pending, with one dropped
    (run.ref.token = true ∧ run.ref.owner = .a ∧ run.owns .b = false ∧ run.laneA.ln.ledg.scan = true ∧
      run.laneA.img.ledFormat = 1 ∧ up.laneA.img.ledFormat = 0) ∧
    ((led fun g => { g with scan := false }).laneA.ln.ledg.scan = false ∧ run.laneA.ln.sched.step < 3 ∧
      (run.modSched .a fun x => { x with step := 3 }).laneA.ln.sched.step = 3) ∧
    (let g := (led fun g => { g with scan := false, due := [evt 1, evt 2], dropped := 1 }).laneA.ln.ledg
     (g.due.filter fun e => e.tick != run.tick).length = 1 ∧ g.pend = [] ∧ g.dropped = 1) ∧
    (led fun g => { g with scan := false, due := [evt 1], pend := [evt 1] }).laneA.ln.ledg.pend.isEmpty = false ∧
    run.memWf ∧ (ledMem run).memWf ∧
    -- a cycle that samples: in its first tick, and not in the next
    (let c : Cycle := { tkstart := 2 }
     ticksSince run.tick c.tkstart % c.tdec = 0 ∧ c.lastSample ≠ some run.tick ∧
      ¬ticksSince run.tick 1 % c.tdec = 0) ∧ vget run.laneA.ln.ledg.cycles none 0 = none ∧
    (validRecords 1 run.laneA.keep.mem = [] ∧
      ((crc32c (rec48.take 44)).toNat = le32 rec48 44 ∧ le32 rec48 4 = 1 ∧ byteAt rec48 0 = 0x4B)) ∧
    (let s := run.modLN .b fun x => { x with ledg := { x.ledg with mirgap := true } }
     s.laneB.ln.ledg.mirgap = true ∧ s.ref.owner = LaneId.other .b ∧ run.laneA.ln.ledg.mirgap = false) ∧
    -- records acknowledged, and numbers that are not; too many to send, all of them, and a train without collector
    (let g := (led fun g => { g with nextseq := 5, upseq := 2 }).laneA.ln.ledg
     (g.upseq.toNat ≤ 1 + 1 ∧ g.upseq.toNat ≤ 4 + 1 ∧ 4 < g.nextseq.toNat) ∧ ¬g.upseq.toNat ≤ 0 + 1 ∧ ¬5 < g.nextseq.toNat ∧
      g.nextseq.toNat - g.upseq.toNat = 3) ∧
    (run.laneA.ln.ledg.sending = 0 ∧ run.laneA.img.colIp ≠ 0 ∧ up.laneA.img.colIp = 0) ∧
    -- a datagram of 29 records, one of the rest, one that waits 40 ticks; the collector's MAC known or not
    (let s := led fun g => { g with sending := 30, sendSeq := 1, upseq := 1, nextseq := 31, sentAt := some (2 ^ 32 + 2 - 40) }
     s.netOn .a s.laneA.img.colIf = true ∧ min s.laneA.ln.ledg.sending 29 = 29 ∧
      (s.laneA.ln.ledg.sentAt.all fun k => decide (40 ≤ ticksSince s.tick k)) = true ∧
      decide (40 ≤ ticksSince s.tick (2 ^ 32 + 2 - 39)) = false ∧ s.laneA.macOf 0 (nextHop s.laneA.img 0 s.laneA.img.colIp) = none) ∧
    (let s := run.modNet .a fun n => { n with eths := vmod n.eths 0 fun y => { y with arp := [(0x0A000009, [2, 0, 0, 0, 0, 9], 2)] } }
     (s.laneA.macOf 0 0x0A000009).isSome = true) := by decide +kernel

/-- The health fields of lane A changed in `run`. -/
def hl (f : HlthLN → HlthLN) : State := run.modHlth .a f
/-- The marks of unit u in lane A: its stamps, all of this moment. -/
def marked (u : Word) (n : Nat) (s : State) : State := s.modKeep .a fun k =>
  { k with table := [{ unit := u, stamps := List.replicate n k.life }] }
def u1 : Word := 0x10000000
def u2 : Word := 0x20000000
def u3 : Word := 0x30000000
def u4 : Word := 0x40000000
/-- The PATROL task of pod 0 of lane A runs, with these health fields. -/
def pat (f : HlthLN → HlthLN) : State := (quarA.modSched .a fun q => { q with
  tasks := [{ pat0 with pos := .running 0 0 }], quar := none }).modHlth .a f
/-- Bank 0 of lane A has lost these rows. -/
def bank (b : BankSt) : State := run.modKeep .a fun k => { k with banks := vmod k.banks 0 fun _ => b }
def spent : BankSt := { gone := (List.range 10).map (513 + ·) }
theorem wit_PatrolChecksTakeJudgeAndRetireUnits :
    -- a pod takes a unit of each type; one that may not, and a queue without a unit for it
    ([u1, u2, u3, u4, laneUnit .a].all fun u =>
      ends (exec (.patrol .a 0) (pat fun h => { h with queue := [u] })) fun t => t.laneA.ln.hlth.cur == [(0, u)]) = true ∧
    (run.laneA.ln.hlth.queue = [] ∧ run.laneA.ln.sched.tasks = []) ∧
    ([u1, u2, u3, u4, laneUnit .a].map unitType = [1, 2, 3, 4, 5]) ∧
    -- under check: ordered by the host or not, with seven transients in the day and six
    (let s := hl fun h => { h with cur := [(0, u2)], ordered := [u2] }
     s.laneA.ln.hlth.ordered.contains u2 = true ∧ (hl fun h => { h with cur := [(0, u2)] }).laneA.ln.hlth.ordered = []) ∧
    (let n := fun s : State => ((s.laneA.keep.table.find? fun z => z.unit == u2).map fun z =>
      ((z.stamps.take 7).filter fun t => decide (s.laneA.keep.life < t + 86400) || s.laneA.keep.life == t + 86400).length).getD 0
     n (marked u2 7 run) = 7 ∧ n (marked u2 6 run) = 6 ∧ n run = 0) ∧ run.laneA.keep.life < 2 ^ 32 ∧
    -- a bank with its ten free replacement rows, one without, one whose last free row takes over; a row that failed
    ((vget run.laneA.keep.banks {} 0).spares.length = 10 ∧ spent.spares = [] ∧
      (let b : BankSt := { gone := (List.range 9).map (513 + ·) }
       b.spares = [522] ∧ b.gone.contains 7 = false ∧ b.holds 7 = some 7 ∧ (7 : Nat) < 512)) ∧
    ends (exec (.patrol .a 0) ((pat fun h => { h with queue := [u1] }).modKeep .a fun k => { k with banks := vmod k.banks 0 fun _ => spent }))
      (fun t => t.laneA.ln.hlth.cur == [] && t.laneA.ln.hlth.queue == []) = true ∧
    -- a Blade under check that still runs a task of another type, and one that is free
    (((tasks [{ own0 with pos := .running 0 0 }]).laneA.ln.sched.tasks.any fun q =>
      q.pos == .running 0 0 && !(run.laneA.img.ctx q.ctx).any fun r => r.typ == 11) = true ∧ fld u2.toNat 0 6 = 0) ∧
    -- a segment of ring 0: no frame out; one out and back, the first three and the fourth, whole and with a hop that failed
    (let s := hl fun h => { h with cur := [(0, u3)] }
     s.laneA.ln.hlth.loopOut = false ∧ fld u3.toNat 4 2 = 0 ∧
      (s.modRing .a 0 fun g => { g with st := .running }).owns .a = true) ∧
    (let s := hl fun h => { h with cur := [(0, u3)], loopOut := true, loops := 3, loopHop := some 2 }
     s.laneA.ln.hlth.loopOut = true ∧ 4 ≤ s.laneA.ln.hlth.loops + 1 ∧ s.laneA.ln.hlth.loopHop = some 2 ∧ (s.hw 0).typ ≠ some .loopT ∧
      ((s.modHw 0 fun h => { h with typ := some .loopT }).hw 0).typ = some .loopT) ∧
    ((some 2).any (fun a => decide (ticksSince 101 a < 100)) = true ∧ (some 2).any (fun a => decide (ticksSince 102 a < 100)) = false) := by decide +kernel

theorem wit_LaneAndInputChecksRequestsAndTime :
    -- input 0 under check: it fails on a frame, passes after four, fails with seven transients; and one that is not under check
    (let s := safe fun c => { c with chk := 1 }
     s.sc.scrun = true ∧ s.sc.chk.getLsbD 0 = true ∧ s.sc.source .safetyCore 0 = 1 ∧ missingIn 1 [(0, 4)] = false ∧
      foreignIn 1 [(0, 4)] = false ∧ missingIn 1 [] = true ∧ foreignIn 1 [(0, 4), (5000, 4)] = true ∧ s.keep.inLast.getLsbD 0 = false ∧ (fnRec s.sc.saf 0).uses 0 = true) ∧
    (let s : State := { (safe fun c => { c with chk := 1 }) with keep := { inLast := 1, inputs := [{
      unit := inputUnit 0, stamps := List.replicate 7 0 }] } }
     s.keep.inLast.getLsbD 0 = true ∧ ((s.keep.inputs.find? fun z => z.unit == inputUnit 0).map fun z => z.stamps.length) = some 7) ∧
    (safe).sc.chk.getLsbD 0 = false ∧
    -- a lane under check; with a Blade that is new among the bad ones, and one that is fenced already
    (let s := hl fun h => { h with cur := [(0, laneUnit .a)] }
     (s.laneA.ln.hlth.cur.any fun c => unitType c.2 == 5) = true ∧ s.laneA.fencedBlade 0 0 = false ∧
      s.laneA.fencedBlade 7 7 = true) ∧
    -- unit codes: the first and the last of each type, and the ones after them
    ([u1, u1 + 522, u2, u2 + 63, u3, u3 + 6, u3 + 0x36, u4, u4 + 63, laneUnit .a, laneUnit .b].all fun u =>
      ends (exec (.healthCheckRequest .a u) run) fun t => t.laneA.ln.host.fmt == (u == laneUnit .b)) = true ∧
    ([u1 + 523, u2 + 64, u3 + 7, u3 + 64, u4 + 64, 0x60000000].all fun u =>
      ends (exec (.healthCheckRequest .a u) run) fun t => t.laneA.ln.host.fmt) = true ∧
    (let s := hl fun h => { h with queue := List.replicate 64 u2 }
     s.laneA.ln.hlth.queue.contains u4 = false ∧ 64 ≤ s.laneA.ln.hlth.queue.length ∧ s.laneA.ln.hlth.queue.contains u2 = true) ∧
    ((bank spent).laneA.keep.banks.toList.head?.map BankSt.spares = some [] ∧ unitType (u1 + 5) = 1) ∧
    (let h := (hl fun h => { h with causes := [1], lcSince := true, calm := 80000 }).laneA.ln.hlth
     h.causes.contains 1 = true ∧ h.lcSince = true ∧ 80000 ≤ h.calm ∧ ¬80000 ≤ 79999) := by decide +kernel

theorem wit_ResetsReturnTheFieldsOfTheirClass :
    (({} : State).lines.inReset = true ∧ ({} : State).lines.po = true ∧ run.lines.inReset = false ∧ run.lines.po = false) ∧
    (let s : State := {}
     s.lines.inReset = true ∧ s.lines.low = []) ∧
    (let s := run.modLines fun x => { x with low := [.vio] }
     s.lines.low ≠ []) ∧
    -- 18.0 V and 18.4 V of VMAIN, 15.0 V and 15.3 V of the others, in their units; 10 ms before the release; 100 samples
    (179 < 180 ∧ ¬180 < 180 ∧ 184 < 185 ∧ ¬184 < 184 ∧ 149 < 150 ∧ ¬150 < 150 ∧ 153 < 154 ∧ ¬153 < 153 ∧ 10 ≤ 10 ∧ ¬10 ≤ 9 ∧
      100 ≤ 100 ∧ ¬100 ≤ 99) ∧
    -- the owner of a load is reset while the stream is not yet built; 100 µs and 2 ms after a release
    (let s := run.modPort fun p => { p with busyLoad := true }
     s.owns .a = true ∧ s.port.busyLoad = true ∧ s.laneB.ln.strm.st ≠ .building) ∧
    (let s : State := { run with lines := { run.lines with now := 200000 } }
     200000 ≤ (s.lines.now - s.lines.busyAt).toNat ∧ 10000 ≤ (s.lines.now - s.lines.freeAt).toNat ∧ s.laneA.ln.on = true) ∧
    (run.modKeep .a fun k => { k with banks := vmod k.banks 0 fun b => { b with short := true } }).laneA.keep.banks.toList.any BankSt.short = true ∧
    (run.laneA.ln.on = true ∧ (run.modLN .a fun x => { x with on := false }).laneA.ln.on = false ∧
      run.laneA.ln.hlth.queue.length < 64 ∧ (run.modKeep .a fun k => { k with retired := [(u4, 0)] }).laneA.keep.retired.any
        (fun u => unitType u.1 == 4) = true) := by decide +kernel

/-- LANDS gives MX 0 the pulse per second and MX 1 the interrupt of interface 1 (R494). -/
def landP : List Byte := ([0, 1, 0, 0, 1, 3, 1, 0] : List Byte) ++ zeros 24
def lands (f : State → State := id) : State := f (up.modST .a fun x => { x with run := some { secs := [{ typ := 7, payload := landP }] } })
def soon (s : State) : Bool := let o := s.lane s.ref.owner
  s.pwr.rqpend && (!s.ref.token || !o.running || o.ln.pwr.layover || (s.ref.report s.ref.owner).quiet)
theorem wit_ServiceRequestsTheCrystalAndMultiplexedLands :
    (run.pwr.rqstuck = false ∧ run.pwr.rqfailc = false ∧ run.pwr.rqpend = false ∧ 50 ≤ 50 ∧ 2000 ≤ 2000 ∧ ¬50 ≤ 49 ∧ ¬2001 ≤ 2000) ∧
    -- a request that is served at once for each reason, and one that has waited a minute
    ([({ up with pwr := { rqpend := true } } : State), { run with ref := {}, pwr := { rqpend := true } },
      ({ run with pwr := { rqpend := true } } : State).modLay .a (fun p => { p with layover := true }),
      { (rf fun r => { r with repa := { quiet := true } }) with pwr := { rqpend := true } }].all soon) = true ∧
    (let s : State := { run with pwr := { rqpend := true }, lines := { run.lines with now := 6000000000 } }
     s.pwr.rqpend = true ∧ soon s = false ∧ 6000000000 ≤ (s.lines.now - s.pwr.rqsince).toNat) ∧
    (run.lines.tblock = false ∧ run.pwr.slewing = false ∧ run.pwr.xloss = false ∧ 1000 ≤ 1000 ∧ ¬1000 ≤ 999 ∧ 1000 < 1001 ∧ 200 ≤ 200 ∧
      ¬201 ≤ 200 ∧ 2000 < 2001) ∧
    ({ run with pwr := { slewing := true } } : State).pwr.slewing = true ∧
    -- an interface whose PHY is to be polled at once, one polled 400 ticks ago and one 399; the token moves
    ((run.modNet .a fun n => n.modEth 0 fun y => { y with pollDue := true }).laneA.ln.net.eths.toList.any EthLN.pollDue = true ∧
      400 ≤ ticksSince 402 2 ∧ ¬400 ≤ ticksSince 401 2 ∧ (run.modPort fun p => { p with busySwitch := true }).port.busySwitch = true) ∧
    -- the second in train time: its first instant, and the last one a tick before; a land of each function
    ((lands fun s => s.modLines fun x => { x with now := 100000000 }).lines.now.toNat % 100000000 = 0 ∧
      100000000 < 99997501 + 2500 ∧ ¬100000000 < 99997500 + 2500) ∧
    (lands).ref.token = true ∧ (lands).laneA.running = true ∧ (lands).laneA.img.landFunc 0 = 1 ∧ (lands).laneA.img.landFunc 1 = 3 ∧
    (lands).laneA.img.landUnit 1 = 1 ∧
    (((List.range 8).any fun m => (lands).laneA.img.landFunc m == 3 && (lands).laneA.img.landUnit m == 1) = true ∧
      ((List.range 8).any fun m => (lands).laneA.img.landFunc m == 3 && (lands).laneA.img.landUnit m == 0) = false) := by
  decide +kernel

/-- Lane A in layover. -/
def lay (f : PwrLN → PwrLN := id) : State := run.modLay .a fun p => f { p with layover := true }
def wakeD : List Byte := [0x57, 0x4B, 0, 0] ++ toLE 4 0x345000
theorem wit_LayoverIsEnteredGatedAndLeft :
    -- a lane that may and one that may not; named by the command and not
    (let s := run.modLN .a fun x => { x with rpt := { x.rpt with rep := { zspd := true } } }
     s.laneA.mayLay = true ∧ run.laneA.mayLay = false ∧ (s.reached .a).contains .b = true ∧
      ((rb fun g => { g with linkDown := true }).reached .b).contains .a = false) ∧
    ((lay).laneA.ln.pwr.layover = true ∧ run.laneA.ln.pwr.layover = false) ∧
    (let p := (lay).laneA.ln.pwr
     p.layover = true ∧ p.layFrom = 0 ∧ 2 ≤ ticksSince (lay).tick p.layFrom ∧ p.waking = none) ∧
    (let p := (lay fun p => { p with layFrom := 1, waking := some .post }).laneA.ln.pwr
     ¬2 ≤ ticksSince (lay).tick p.layFrom ∧ p.waking.isSome = true) ∧
    -- an axis whose position is lost in layover, and one whose is not
    (run.laneA.hasAxis 0 = true ∧ ¬3 ≤ (run.laneA.axis 0).newest.keep.kres ∧
      (run.modAxis .a 0 fun a => { a with cur := { a.cur with keep := { a.cur.keep with kres := 3 } } }).laneA.axis 0 ≠ run.laneA.axis 0) ∧
    (door cfgD (at0 .locked)).laneA.dcfg 0 = cfgD ∧
    -- a wake packet for this train, and for every train
    (let s := (lay).modMR .a fun m => { m with wakeport := 7000, wakeif0 := true }
     s.owns .a = true ∧ bitOf s.laneA.img.ifen 0 = true ∧ s.laneA.mr.wakeport = 7000 ∧ s.laneA.mr.wakeif0 = true ∧
      wakeD.length = 8 ∧ wakeD.take 4 = [0x57, 0x4B, 0, 0] ∧ le32 wakeD 4 = s.laneA.img.base ∧
      le32 ([0x57, 0x4B, 0, 0] ++ toLE 4 0xFFFFFFFF : List Byte) 4 = 0xFFFFFFFF) := by decide +kernel

theorem wit_TheCheckValuesFollowTheirPolynomials : up.answers ∧ up.hbusy = false := by decide +kernel

/-! ### What commands do -/

theorem test_crc : crc32c (([0x31, 0x32, 0x33, 0x34, 0x35, 0x36, 0x37, 0x38, 0x39] : List Byte)) = 0xE3069283 ∧
    crc16 (([0x31, 0x32, 0x33, 0x34, 0x35, 0x36, 0x37, 0x38, 0x39] : List Byte)) = 0x29B1 := by decide +kernel
/-- R47: a read of MOD_TBLO latches bits 63 to 32. -/
theorem test_timebase_latch : ends (exec (.timebaseRead .a) { up with lines := { up.lines with now := 0x500000007 } })
    (fun t => t.regRead .a 0x14 == 7 && t.regRead .a 0x18 == 5) = true := by decide +kernel
/-- R36: the next start gate lies 25 µs, 2500 timebase units, on. -/
theorem test_start_gate : ends (exec .startGate up) (fun t => t.tick == 3 && t.lines.gate == 7500) = true := by decide +kernel
/-- R321: lane A whose heartbeat came within 50 ms takes the token; lane B does after them. -/
theorem test_token_assign :
    let s := fun (a b now : Time) => ({ (rf fun r => { r with token := false, hba := some a, hbb := some b }) with
      lines := { run.lines with now := now } } : State)
    ends (exec (.tokenAssign .a) (s 5000000 5000 5000)) (fun t => t.owns .a) = true ∧
    ends (exec (.tokenAssign .a) (s 5000001 5000 5000001)) (fun t => !t.owns .a) = true ∧
    ends (exec (.tokenAssign .b) (s 5000001 5000 5000001)) (fun t => t.owns .b) = true := by decide +kernel
/-- R151: a host that owns no axis gets 01h; the owning one moves a referenced axis and gets 06h for a target of 20,001 mm. -/
theorem test_move_rc :
    let s := fun (own : Bool) (p : Word) => (valid .idle).modAxis .a 0 fun a => { a with cmd := { a.cmd with ownhost := own, ptgt := p } }
    ends (exec (.move .a 0 .host 9) (s false 100)) (fun t => (t.laneA.axis 0).cmd.rc == 1 && (t.laneA.axis 0).cmd.seq == 9) = true ∧
    ends (exec (.move .a 0 .host 9) (s true 200001)) (fun t => (t.laneA.axis 0).cmd.rc == 6) = true ∧
    ends (exec (.move .a 0 .host 9) (s true 200000)) (fun t => (t.laneA.axis 0).cmd.rc == 0) = true := by decide +kernel
/-- R166: DEBIN changes with the 80th frame, not with the 79th. -/
theorem test_debin : ends (exec (.debinChange .a 0 0) (lim 80)) (fun t => (vget (t.laneA.axis 0).newest.lim {} 0).deb) = true ∧
    ends (exec (.debinChange .a 0 0) (lim 79)) (fun t => !(vget (t.laneA.axis 0).newest.lim {} 0).deb) = true := by decide +kernel
/-- R233: OPEN in LOCKED is accepted; in OPEN it answers 02h; on an undefined doorway 04h. -/
theorem test_dway_rc : ends (exec (.dwayOpen .a 0 1) (door cfgD (at0 .locked))) (fun t => (t.laneA.dway 0).rc == 0) = true ∧
    ends (exec (.dwayOpen .a 0 1) (door cfgD (at0 .openSt))) (fun t => (t.laneA.dway 0).rc == 2) = true ∧
    ends (exec (.dwayOpen .a 0 1) run) (fun t => (t.laneA.dway 0).rc == 4) = true := by decide +kernel
/-- R251: the second miss in a row puts a configured brick into brick-safe mode, the first does not. -/
theorem test_brick_miss :
    let b := fun n => run.modBrick 0 0 fun b => { b with cfg := { b.cfg with slot := some 0, configured := true }, missRun := n }
    ends (exec (.brickFrameMiss 0 0) (b 1)) (fun t => (t.brick 0 0).safe && (t.brick 0 0).bridge == .short) = true ∧
    ends (exec (.brickFrameMiss 0 0) (b 0)) (fun t => !(t.brick 0 0).safe) = true := by decide +kernel
/-- R239, R240: the down record of slot 0 of GA for tick 3, RUN at address 0ABCh and amplitude 0123h. -/
theorem test_down_record :
    let r := DownRec.bytes 0 0 { seq := 3, mode := 1, addr := 0xABC, amp := 0x123 }
    r.take 8 = [3, 1, 0xBC, 0x0A, 0x23, 0x01, 0, 0] ∧ r.length = 16 ∧ le16 r 14 = (crc16 (r.take 14)).toNat := by decide +kernel
/-- R277: the report a lane has taken is a fresh one. -/
theorem test_report : ends (exec .safetyReport (safe)) (fun t => t.laneA.ln.rpt.missed == 0) = true := by decide +kernel
/-- R363, R361: a fill writes the pattern's bytes, the lowest first. -/
theorem test_dma_fill : ends (exec (.dmaBurst .a []) (dma fun h => { h with st := 2, words := #v[0x11223344, 0, 6, 4, 0] }))
    (fun t => Memory.read t.laneA.keep.mem 0 7 == [0x44, 0x33, 0x22, 0x11, 0x44, 0x33, 0] && (t.laneA.dmaCh 0).st == 4) = true := by
  decide +kernel
/-- R317: a tunnel request of an unknown code is answered with 04h, a post where MBOX does not permit it with 02h. -/
def tun (op : Nat) : List Byte :=
  let b : List Byte := [0x54, 0x55, BitVec.ofNat 8 op, 0, 7, 9, 0, 0]
  b ++ toLE 4 (crc32c b).toNat
def replied (s : State) (op : Nat) : List Byte := match exec (.tunnelRequest .a 0 0x0A000002 (tun op)) s with
  | .next t => ((t.laneA.ln.net.tx.getLast?.map fun f => f.2.drop 42).getD []).take 8
  | _ => []
theorem test_tunnel :
    let s := run.modNet .a fun n => { n with eths := vmod n.eths 0 fun y => { y with arp := [(0x0A000002, [2, 0, 0, 0, 0, 9], 2)] } }
    replied s 9 = [0x54, 0x55, 0x89, 0, 7, 9, 4, 0] ∧ replied s 1 = [0x54, 0x55, 0x81, 0, 7, 9, 2, 0] := by decide +kernel
/-- R307: bus-off is CSTATE 2. -/
theorem test_can : ends (exec (.canBusOff .a 0) run) (fun t => (vget t.laneA.ln.net.cans {} 0).st == 2) = true := by decide +kernel
/-- R422: once a tone has lasted, tone 1, 2, 3, the pause, and tone 1 again; before, nothing. -/
theorem test_chime :
    let s := fun tone age => (load (fun c => { c with onNow := true, tone := tone, toneAge := age }) { loadCf with mode := 2 } 28).modPd
      fun q => { q with chimes := vmod q.chimes 0 fun z => { z with d1 := 1, d2 := 1, d3 := 1, pause := 2 } }
    let tone := fun n age => ((runAll [.chimeToneAdvance 28] (s n age)).pd.ch 28).tone
    tone 1 391 = 2 ∧ tone 2 391 = 3 ∧ tone 3 391 = 4 ∧ tone 4 783 = 1 ∧ tone 1 390 = 1 ∧ tone 4 782 = 4 := by decide +kernel
/-- R414, R426: above 1.0 A a gang of one latches off, and its retry interval of 10 ms, 400 ticks, starts; at 1.0 A it stays
on. -/
theorem test_latch_off :
    let s := load fun c => { c with onNow := true, retleft := 3 }
    ends (exec (.loadOvercurrent 0 251 50) s) (fun t => (t.pd.ch 0).left == some 400 && !(t.pd.ch 0).onNow && (t.pd.ch 0).retleft == 3) = true ∧
    ends (exec (.loadOvercurrent 0 250 50) s) (fun t => (t.pd.ch 0).onNow) = true := by decide +kernel
/-- R418: 15.9 V turns the group off; 17.0 V does not bring it back, 17.1 V does. -/
theorem test_group_voltage :
    let s := load fun c => { c with onNow := true, cmdOn := true, retleft := 1 }
    let t := runAll [.groupUndervoltage 0 159] s
    (t.pd.ch 0).onNow = false ∧ ((runAll [.groupVoltageRecovery 0 170] t).pd.ch 0).onNow = false ∧
    ((runAll [.groupVoltageRecovery 0 171] t).pd.ch 0).onNow = true := by decide +kernel
/-- R450: UPTO from UPSEQ − 1 to NEXTSEQ − 1. -/
theorem test_ledger_ack :
    let s := led fun g => { g with nextseq := 5, upseq := 2 }
    ends (exec (.ledgerUpack .a 4) s) (fun t => t.laneA.ln.ledg.upseq == 5 && !t.laneA.ln.ledg.lenerr) = true ∧
    ends (exec (.ledgerUpack .a 5) s) (fun t => t.laneA.ln.ledg.upseq == 2 && t.laneA.ln.ledg.lenerr) = true := by decide +kernel
/-- R464: LIFE counts seconds. -/
theorem test_life : ends (exec (.lifeSecond .b) run) (fun t => t.laneB.keep.life == 1 && t.laneA.keep.life == 0) = true := by
  decide +kernel
/-- R471: unit 522 of bank 0 is queued, unit 523 is refused with FMT. -/
theorem test_check_request : ends (exec (.healthCheckRequest .a (u1 + 522)) run) (fun t => t.laneA.ln.hlth.queue == [u1 + 522]) = true ∧
    ends (exec (.healthCheckRequest .a (u1 + 523)) run) (fun t => t.laneA.ln.host.fmt && t.laneA.ln.hlth.queue == []) = true := by
  decide +kernel
/-- R479: a press of 50 ms is recognised, one of 49 ms is not. -/
theorem test_press : ends (exec (.serviceResetPress 50) run) (fun t => t.pwr.rqpend) = true ∧
    ends (exec (.serviceResetPress 49) run) (fun t => !t.pwr.rqpend) = true := by decide +kernel
/-- R478: a power-on reset leaves memory and takes everything else of the lanes back. -/
theorem test_power_on : ends (exec (.powerOnReset 100) (ledMem run)) (fun t => t.laneA.keep.mem == (ledMem run).laneA.keep.mem &&
    t.laneA.st.run == none && t.lines.now == 0 && t.keep.mcause == 2) = true := by decide +kernel
/-- R396: a LEN of 17 sets LENERR and delivers nothing. -/
theorem test_post_len : ends (exec (.mailboxPost .a 0 17 []) run) (fun t =>
    (vget t.laneA.ln.mstat {} 0).lenerr && !(vget t.laneA.keep.boxes {} 0).full) = true := by decide +kernel
/-- R389: a request at a gate sets PEND. -/
theorem test_result_request :
    let s := fun n => run.modLN .a fun x => { x with rreq := vmod x.rreq 0 fun q => { q with rlen := n } }
    ends (exec (.resultRequest .a 0 5) (s 16)) (fun t => (vget t.laneA.ln.rreq {} 0).pend) = true ∧
    ends (exec (.resultRequest .a 0 5) (s 17)) (fun t => !(vget t.laneA.ln.rreq {} 0).pend) = true := by decide +kernel
/-- R97: binary32, rounded to nearest with ties to even: 1.5 × 2, 1 + 2, 1 / 3, √2, 0.1, and 2²⁴ + 1. -/
theorem test_f32 : F32.mul 0x3FC00000 0x40000000 = 0x40400000 ∧ F32.add 0x3F800000 0x40000000 = 0x40400000 ∧
    F32.div 0x3F800000 0x40400000 = 0x3EAAAAAB ∧ F32.sqrt 0x40000000 = 0x3FB504F3 ∧ F32.ofRat 1 10 = 0x3DCCCCCD ∧
    F32.ofInt 16777217 = 0x4B800000 := by decide +kernel
/-- R68: a store slot whose header fails its CRC gives error 01h, one of EPOCH 3 error 02h. -/
theorem test_load_errors :
    ends (exec (.streamAutoload []) (stored ((hd 1 80 1 2).take 63 ++ [0] ++ zeros 16))) (fun t => t.laneA.ln.strm.code == 1 &&
      t.laneA.ln.strm.st == .rejected) = true ∧
    ends (exec (.streamAutoload []) (stored (hd 3 80 1 2 ++ zeros 16))) (fun t => t.laneA.ln.strm.code == 2) = true := by decide +kernel
/-- R300: an ARP request for the interface's address is answered by a reply (operation 2) from it; an echo request by an
echo reply (type 0) with its data. -/
def sent (c : Instr) : List Byte :=
  let s := run.modNet .a fun n => { n with eths := vmod n.eths 0 fun y => { y with arp := [(0x0A000002, [2, 0, 0, 0, 0, 9], 2)] } }
  match exec c s with
  | .next t => (t.laneA.ln.net.tx.getLast?.map Prod.snd).getD []
  | _ => []
theorem test_arp_reply :
    let f := sent (.arpRequest .a 0 (eth 0x0806 (arp 1)))
    slice f 12 2 = [8, 6] ∧ slice f 20 2 = [0, 2] ∧ slice f 22 6 = slice (eth 0 []) 0 6 ∧ slice f 28 4 = [10, 0, 0, 1] ∧
    slice f 38 4 = [10, 0, 0, 2] := by decide +kernel
theorem test_echo_reply :
    let f := sent (.icmpEcho .a 0 (eth 0x0800 (ipv4 1 echoBody)))
    slice f 26 8 = [10, 0, 0, 1, 10, 0, 0, 2] ∧ slice f 34 2 = [0, 0] ∧ slice f 38 4 = slice echoBody 4 4 ∧ ones16 (slice f 34 8) = 65535 := by
  decide +kernel
/-- R332, R334: a lane that loses its heartbeat gives way to the one in sync, with DCODE 1; at the fourth repeat before the new
frame the token parks. -/
theorem test_hot :
    ends (exec (.hotSwitchover .heartbeat false) (whys .heartbeat)) (fun t => t.owns .b && t.ref.dcode == 1 && t.ref.gapDue) = true ∧
    (let s := fun n => (rf fun r => { r with gapDue := true }).modHw 0 fun h => { h with reps := n }
     ends (exec .park (s 4)) (fun t => t.ref.parked && !t.ref.token && t.ref.dcode == 9) = true ∧
     ends (exec .park (s 3)) (fun t => t.ref.token) = true) := by decide +kernel
/-- R325: an epoch whose seal names another tick is discarded and counts in EPDISC; one without a seal by 20.5 µs as well. -/
theorem test_epoch :
    ends (exec (.epochReceive .b 3 0 0) flying) (fun t => t.laneB.ln.red.epdisc == 1 && t.laneB.ln.red.sealedEp == none) = true ∧
    ends (exec (.epochSealTimeout .b) flying) (fun t => t.laneB.ln.red.epdisc == 1) = true := by decide +kernel
/-- R398: an acknowledgement with another sequence number is ignored and sets ACKERR. -/
theorem test_ack :
    let s := run.modKeep .a fun k => { k with boxes := vmod k.boxes 0 fun b => { b with full := true, seq := 5 } }
    ends (exec (.mailboxAck .a 0 0xF1 5) s) (fun t => let b := vget t.laneA.keep.boxes {} 0
      !b.full && b.rc == 0xF1 && b.aseq == 5 && (vget t.laneA.ln.mstat {} 0).acknew) = true ∧
    ends (exec (.mailboxAck .a 0 0xF1 4) s) (fun t => (vget t.laneA.keep.boxes {} 0).full && (vget t.laneA.ln.mstat {} 0).ackerr) = true := by
  decide +kernel
/-- R424: 16 mA in a gang of one is open load, 20 mA is not. -/
theorem test_open_load :
    let s := load fun c => { c with onNow := true }
    ends (exec (.openLoadOn 0 4 10000) s) (fun t => (t.pd.ch 0).olon) = true ∧ ends (exec (.openLoadOn 0 5 10000) s) (fun t => !(t.pd.ch 0).olon) = true := by
  decide +kernel
/-- R476, R487: loss of the reference is said to both lanes; a post wakes a lane from layover with WAKEWHY 1. -/
theorem test_xref : ends (exec (.xrefLoss 1000 0) run) (fun t => t.pwr.xloss && t.laneB.ln.host.attn.getLsbD 16) = true := by decide +kernel
theorem test_wake : ends (exec (.layoverWake .post) (lay)) (fun t => !t.laneA.ln.pwr.layover && t.laneA.ln.pwr.wakewhy == 1 &&
    t.laneA.ln.pwr.wakes == 1) = true := by decide +kernel

end Sys2Proof.Tests
end

section
/-! PROOFS. The two check values are long divisions told bit by bit (R57, R380), and HOST_STATUS sends one (R378). -/

namespace Sys2Proof.Machine

/-! ### A division that takes its bits at once, and one that takes them one by one -/

/-- A register that takes all bits of v by one exclusive or and then runs n rounds holds what it holds when every round takes
one bit first: `hd v` is the bit at the register's feeding end, `tl v` what is left of v a round later. -/
theorem iterate_xor_eq_foldl {w : Nat} (round : BitVec w → BitVec w) (feed : BitVec w → Bool → BitVec w)
    (hd : BitVec w → Bool) (tl : BitVec w → BitVec w)
    (hround : ∀ c v, round (c ^^^ v) = feed c (hd v) ^^^ tl v) (n : Nat) (c v : BitVec w) :
    round^[n] (c ^^^ v) = ((List.range n).map fun i => hd (tl^[i] v)).foldl feed c ^^^ tl^[n] v := by
  induction n generalizing c v with
  | zero => rfl
  | succ n ih =>
    rw [Function.iterate_succ_apply, hround, ih, List.range_succ_eq_map, List.map_cons, List.map_map, List.foldl_cons]
    rfl

theorem iterate_ushiftRight_one {w : Nat} (n : Nat) (v : BitVec w) : (fun x : BitVec w => x >>> 1)^[n] v = v >>> n := by
  induction n generalizing v with
  | zero => simp
  | succ n ih => rw [Function.iterate_succ_apply, ih, ← BitVec.shiftRight_add, Nat.add_comm]

theorem iterate_shiftLeft_one {w : Nat} (n : Nat) (v : BitVec w) : (fun x : BitVec w => x <<< 1)^[n] v = v <<< n := by
  induction n generalizing v with
  | zero => simp
  | succ n ih => rw [Function.iterate_succ_apply, ih, ← BitVec.shiftLeft_add, Nat.add_comm]

/-- Masking one bit tests it. -/
theorem and_twoPow_beq_twoPow {w : Nat} (x : BitVec w) {i : Nat} (hi : i < w) :
    (x &&& BitVec.twoPow w i == BitVec.twoPow w i) = x.getLsbD i := by
  have hne : 0#w ≠ BitVec.twoPow w i := fun h => by
    have := congrArg (BitVec.getLsbD · i) h
    simp [hi] at this
  rw [BitVec.and_twoPow]
  cases x.getLsbD i
  · exact beq_eq_false_iff_ne.2 hne
  · exact beq_self_eq_true _

/-! ### CRC-32C (R57): the reflected register is the mirror of the divided one -/

/-- A round of the reflected division that takes one bit at the low end. -/
def crc32Feed (c : Word) (b : Bool) : Word :=
  if c.getLsbD 0 != b then (c >>> 1) ^^^ 0x82F63B78#32 else c >>> 1

/-- A round of the long division of R57. -/
def crc32Divide (c : Word) (b : Bool) : Word :=
  if c.msb != b then (c <<< 1) ^^^ 0x1EDC6F41#32 else c <<< 1

theorem crc32Bit_xor (c v : Word) : crc32Bit (c ^^^ v) = crc32Feed c (v.getLsbD 0) ^^^ v >>> 1 := by
  have hlow : ((c ^^^ v) &&& 1 == 1) = (c.getLsbD 0 != v.getLsbD 0) :=
    (and_twoPow_beq_twoPow (c ^^^ v) (by decide : 0 < 32)).trans BitVec.getLsbD_xor
  unfold crc32Bit crc32Feed
  rw [hlow, BitVec.ushiftRight_xor_distrib]
  split
  · ac_rfl
  · rfl

theorem crc32Byte_eq_foldl (c : Word) (b : Byte) :
    crc32Byte c b = ((List.range 8).map b.getLsbD).foldl crc32Feed c := by
  have hbits : ((List.range 8).map fun i => ((fun x : Word => x >>> 1)^[i] (b.setWidth 32)).getLsbD 0) =
      (List.range 8).map b.getLsbD :=
    List.map_congr_left fun i hi => by
      have : i < 32 := by have := List.mem_range.1 hi; omega
      simp [iterate_ushiftRight_one, this]
  have hrest : (fun x : Word => x >>> 1)^[8] (b.setWidth 32) = 0#32 := by
    rw [iterate_ushiftRight_one]
    ext i; simp
  calc crc32Byte c b = crc32Bit^[8] (c ^^^ b.setWidth 32) := rfl
    _ = _ := by
      rw [iterate_xor_eq_foldl _ _ (fun v => v.getLsbD 0) (fun v => v >>> 1) crc32Bit_xor, hbits, hrest, BitVec.xor_zero]

theorem reverse_xor {w : Nat} (x y : BitVec w) : (x ^^^ y).reverse = x.reverse ^^^ y.reverse := by
  ext i hi; simp [BitVec.getElem_reverse]

theorem reverse_ushiftRight_one {w : Nat} (x : BitVec w) : (x >>> 1).reverse = x.reverse <<< 1 := by
  ext i hi
  cases i with
  | zero => simp [BitVec.getElem_reverse, BitVec.getMsbD_ushiftRight]
  | succ i => simp [BitVec.getElem_reverse, BitVec.getMsbD_ushiftRight, hi]

theorem crc32Divide_reverse (c : Word) (b : Bool) : crc32Divide c.reverse b = (crc32Feed c b).reverse := by
  have hpoly : (0x82F63B78#32).reverse = 0x1EDC6F41#32 := by decide +kernel
  unfold crc32Divide crc32Feed
  rw [BitVec.msb_reverse]
  split
  · rw [reverse_xor, reverse_ushiftRight_one, hpoly]
  · rw [reverse_ushiftRight_one]

/-- CRC-32C is the long division of R57, low bit of each byte first, reflected and inverted at the end. -/
theorem crc32c_eq_divide (bs : List Byte) :
    crc32c bs = ((bs.flatMap fun b => (List.range 8).map b.getLsbD).foldl crc32Divide 0xFFFFFFFF#32).reverse
      ^^^ 0xFFFFFFFF#32 := by
  have hones : (0xFFFFFFFF#32).reverse = 0xFFFFFFFF#32 := by decide +kernel
  have hbytes : crc32Byte = fun c b => ((List.range 8).map b.getLsbD).foldl crc32Feed c :=
    funext₂ crc32Byte_eq_foldl
  rw [← hones, List.foldl_hom BitVec.reverse crc32Divide_reverse, BitVec.reverse_reverse_eq, hones, List.foldl_flatMap,
    ← hbytes]
  rfl

/-! ### CRC-16 (R380) -/

/-- A round of the long division of R380. -/
def crc16Divide (c : BitVec 16) (b : Bool) : BitVec 16 :=
  if c.msb != b then (c <<< 1) ^^^ 0x1021#16 else c <<< 1

theorem crc16Bit_xor (c v : BitVec 16) : crc16Bit (c ^^^ v) = crc16Divide c v.msb ^^^ v <<< 1 := by
  have hhigh : ((c ^^^ v) &&& 0x8000 == 0x8000) = (c.msb != v.msb) := by
    refine Eq.trans ?_ BitVec.msb_xor
    rw [BitVec.msb_eq_getLsbD_last]
    exact and_twoPow_beq_twoPow (c ^^^ v) (by decide : 15 < 16)
  unfold crc16Bit crc16Divide
  rw [hhigh, BitVec.shiftLeft_xor_distrib]
  split
  · ac_rfl
  · rfl

theorem crc16Byte_eq_foldl (c : BitVec 16) (b : Byte) :
    crc16Byte c b = ((List.range 8).map b.getMsbD).foldl crc16Divide c := by
  have hbits : ((List.range 8).map fun i => ((fun x : BitVec 16 => x <<< 1)^[i] (b.setWidth 16 <<< 8)).msb) =
      (List.range 8).map b.getMsbD :=
    List.map_congr_left fun i hi => by
      have := List.mem_range.1 hi
      rw [iterate_shiftLeft_one, ← BitVec.shiftLeft_add, BitVec.msb_shiftLeft]
      simp [BitVec.getMsbD_setWidth]
  have hrest : (fun x : BitVec 16 => x <<< 1)^[8] (b.setWidth 16 <<< 8) = 0#16 := by
    rw [iterate_shiftLeft_one, ← BitVec.shiftLeft_add, BitVec.shiftLeft_eq_zero (by decide)]
  calc crc16Byte c b = crc16Bit^[8] (c ^^^ (b.setWidth 16 <<< 8)) := rfl
    _ = _ := by
      rw [iterate_xor_eq_foldl _ _ BitVec.msb (fun v => v <<< 1) crc16Bit_xor, hbits, hrest, BitVec.xor_zero]

/-- CRC-16 of the host port is the long division of R380, high bit of each byte first. -/
theorem crc16_eq_divide (bs : List Byte) :
    crc16 bs = (bs.flatMap fun b => (List.range 8).map b.getMsbD).foldl crc16Divide 0xFFFF#16 := by
  have hbytes : crc16Byte = fun c b => ((List.range 8).map b.getMsbD).foldl crc16Divide c :=
    funext₂ crc16Byte_eq_foldl
  rw [List.foldl_flatMap, ← hbytes]
  rfl

/-! ### HOST_STATUS (R378, R379) -/

/-- Two bytes of a 16-bit number, high byte first. -/
theorem toBE_two_toNat (n : BitVec 16) : toBE 2 n.toNat = [(n >>> 8).setWidth 8, n.setWidth 8] := by
  have hhigh : BitVec.ofNat 8 (n.toNat / 256) = (n >>> 8).setWidth 8 := by
    apply BitVec.eq_of_toNat_eq; simp [Nat.shiftRight_eq_div_pow]
  have hlow : BitVec.ofNat 8 n.toNat = n.setWidth 8 := by
    apply BitVec.eq_of_toNat_eq; simp
  rw [← hhigh, ← hlow]
  rfl

@[simp] theorem State.header_length (s : State) (l : LaneId) : (s.header l).length = 4 := rfl

@[simp] theorem State.modPort_header (s : State) (f : HostPort → HostPort) (l : LaneId) :
    (s.modPort f).header l = s.header l := by cases l <;> rfl

/-- A lane that answers runs a transaction while HBUSY is low (R377, R386). -/
theorem State.transact_of_answers {s : State} (hs : s.answers) (hb : s.hbusy = false) (mode3 : Bool)
    (f : State → LaneId → List Byte → State) :
    s.transact mode3 f =
      f ((s.modPort fun p => { p with hmiso := none }).modHost s.ref.owner fun h => { h with mode3 := mode3 })
        s.ref.owner (s.header s.ref.owner) := by
  obtain ⟨htoken, hreset, hon⟩ := hs
  have hb' : (s.modPort fun p => { p with hmiso := none }).hbusy = false := hb
  simp [State.transact, htoken, hreset, hon, hb']

/-- HOST_STATUS puts the header and its CRC-16 on HMISO (R378). -/
theorem exec_hostStatus_hmiso {s : State} (hs : s.answers) (hb : s.hbusy = false) (mode3 : Bool) :
    ∃ t, exec (.hostStatus mode3 0x05) s = .next t ∧ t.port.hmiso = some (headed (s.header s.ref.owner)) := by
  have hexec : exec (.hostStatus mode3 0x05) s = execHostStatus mode3 0x05 s := rfl
  refine ⟨_, hexec, ?_⟩
  rw [State.transact_of_answers hs hb]
  rfl

end Sys2Proof.Machine

open Sys2Proof Sys2Proof.Machine

/-- Settles O59: both checks take a byte's bits at once, which is the same as one a round; the CRC-32C's register is the mirror
of the divided one. -/
theorem theCheckValuesFollowTheirPolynomials : Obligations.TheCheckValuesFollowTheirPolynomials := by
  refine ⟨crc32c_eq_divide, crc16_eq_divide, by decide +kernel, by decide +kernel, fun s mode3 hs hb => ?_⟩
  obtain ⟨t, hexec, hmiso⟩ := exec_hostStatus_hmiso hs hb mode3
  refine ⟨t, _, hexec, hmiso, ?_⟩
  have hlen := s.header_length s.ref.owner
  constructor
  · simp [headed, toBE_two_toNat, hlen]
  · rw [headed, List.take_left' hlen, List.drop_left' hlen, toBE_two_toNat]

end

section
/-! PROOFS. The commands of an axis: the ten checks of R151 as a list, what a command judged now and a command judged by
AX_BASE change, and that the rest of AX_BASE keeps what the block says of its commands (R150, R151, R178). -/

namespace Sys2Proof.Machine

/-! ### The ten checks in their order (R151) -/

/-- The code of the first check of a list that fails, and 0 where none does. -/
def firstFailing (checks : List (Bool × Nat)) : Nat := ((checks.find? Prod.fst).map Prod.snd).getD 0

@[simp] theorem firstFailing_nil : firstFailing [] = 0 := rfl

@[simp] theorem firstFailing_cons (b : Bool) (k : Nat) (checks : List (Bool × Nat)) :
    firstFailing ((b, k) :: checks) = if b = true then k else firstFailing checks := by
  cases b <;> rfl

/-- The checks of R151: whether each fails, and its code. -/
def axChecks (c : AxisCfg) (a : AxisSt) (owns host : Bool) (code : Nat) (target : Int) : List (Bool × Nat) :=
  let snow := a.obs.ostate == .braking || a.obs.ostate == .relief
  let toward := F32.lt (tenth target) a.prof.p == c.closeNeg
  [(host && !owns, 0x01), (decide (5 ≤ code), 0x07), ((code == 1 || code == 4) && snow, 0x09),
    (code == 4 && c.hom.hseq == 0, 0x0A), ((code == 1 || code == 4) && a.hom.runs, 0x04),
    (code == 4 && a.prof.phase != .idle, 0x08),
    ((code == 1 || (code == 4 && c.hom.hseq != 5)) && a.keep.unpowered, 0x05),
    (code == 1 && a.hall.posq != .valid, 0x02),
    (code == 1 && (decide (target < -200000) || decide (200000 < target)), 0x06),
    (code == 1 && c.hom.lsstop != 0 && (vget a.lim {} (if toward then 1 else 0)).deb, 0x03)]

theorem axRc_eq_firstFailing (c : AxisCfg) (a : AxisSt) (owns host : Bool) (code : Nat) (target : Int) :
    axRc c a owns host code target = firstFailing (axChecks c a owns host code target) := by
  simp [axRc, axChecks, and_assoc]

/-! ### One axis changed (R113) -/

theorem State.modAxis_modAxis (s : State) (l : LaneId) (n : Nat) (f g : Axis → Axis) :
    (s.modAxis l n f).modAxis l n g = s.modAxis l n fun x => g (f x) := by
  simp [State.modAxis, LaneLN.modAxis]

theorem State.modAxis_restore (s : State) (l : LaneId) (n : Nat) : s.modAxis l n (fun _ => (s.lane l).axis n) = s := by
  cases l <;>
    simp only [State.modAxis, LaneLN.modAxis, State.modLN, State.modLane, State.setLane, State.lane, Lane.axis, vmod_restore]

/-- A change of one axis changes that axis only. -/
theorem State.onlyAxis_modAxis (s : State) (l : LaneId) (n : Nat) (f : Axis → Axis) : onlyAxis l n s (s.modAxis l n f) :=
  (State.modAxis_modAxis ..).trans (s.modAxis_restore l n)

/-- What a change of an axis makes of its present value is all that counts. -/
theorem State.modAxis_congr {s : State} {l : LaneId} {n : Nat} {f g : Axis → Axis}
    (h : f ((s.lane l).axis n) = g ((s.lane l).axis n)) : s.modAxis l n f = s.modAxis l n g := by
  have hconst : ∀ k : Axis → Axis, s.modAxis l n k = s.modAxis l n fun _ => k ((s.lane l).axis n) := fun k =>
    calc s.modAxis l n k = (s.modAxis l n fun _ => (s.lane l).axis n).modAxis l n k := by rw [State.modAxis_restore]
      _ = _ := State.modAxis_modAxis ..
  rw [hconst f, hconst g, h]

@[simp] theorem State.modAxis_hasAxis (s : State) (l : LaneId) (n m : Nat) (f : Axis → Axis) :
    ((s.modAxis l n f).lane l).hasAxis m = (s.lane l).hasAxis m := by cases l <;> rfl

@[simp] theorem State.modAxis_slotOf (s : State) (l : LaneId) (n m : Nat) (f : Axis → Axis) :
    ((s.modAxis l n f).lane l).slotOf m = (s.lane l).slotOf m := by cases l <;> rfl

/-- A result that has been carried out asks for nothing. -/
@[simp] theorem State.axOut_done (s : State) (l : LaneId) (n : Nat) (o : AxOut) : s.axOut l n o.done = s := rfl

/-- The newest block of an axis changed by f, where f asks nothing of the lane. -/
def Axis.modNewest (f : AxisSt → AxisSt) (x : Axis) : Axis :=
  match x.work, x.acc with
  | some w, _ => { x with work := some (f w) }
  | none, some w => { x with acc := some (f w) }
  | none, none => { x with cur := f { x.cur with out := x.cur.out.done } }

@[simp] theorem Axis.modNewest_cmd (f : AxisSt → AxisSt) (x : Axis) : (x.modNewest f).cmd = x.cmd := by
  unfold Axis.modNewest
  split <;> rfl

theorem Axis.modNewest_of_merged {f : AxisSt → AxisSt} {x : Axis} (hw : x.work = none) (ha : x.acc = none) :
    x.modNewest f = { x with cur := f { x.cur with out := x.cur.out.done } } := by
  simp [Axis.modNewest, hw, ha]

/-- An event that asks nothing of the lane changes the newest block of its axis only. -/
theorem State.axNow_eq_modAxis {f : AxisSt → AxisSt} (hf : ∀ a, (f a).out = a.out) (s : State) (l : LaneId) (n : Fin 24) :
    s.axNow l n f = s.modAxis l n (Axis.modNewest f) := by
  unfold State.axNow
  split
  next w hw => exact State.modAxis_congr (by simp [Axis.modNewest, hw])
  next w hw ha => exact State.modAxis_congr (by simp [Axis.modNewest, hw, ha])
  next hw ha =>
    simp only [State.modAxis_axis _ _ _ _ n.isLt, hf, State.axOut_done, State.modAxis_modAxis]
    refine State.modAxis_congr ?_
    have hkeep : ∀ a, { f a with out := a.out } = f a := fun a => by rw [← hf a]
    rw [Axis.modNewest_of_merged hw ha]
    exact congrArg (fun b => { (s.lane l).axis n with cur := b }) (hkeep _)

/-! ### A command judged at the present gate (R150, R151) -/

@[simp] theorem AxisSt.controlledStop_out (a : AxisSt) : a.controlledStop.out = a.out := by
  simp [AxisSt.controlledStop, apply_ite AxisSt.out]

@[simp] theorem AxisSt.homAbort_out (a : AxisSt) (k : Nat) : (a.homAbort k).out = a.out := a.controlledStop_out

@[simp] theorem AxisSt.homEvent_out (c : AxisCfg) (a : AxisSt) (k : Int) : (a.homEvent c k).out = a.out := rfl

@[simp] theorem AxisSt.homeCmd_out (c : AxisCfg) (a : AxisSt) : (a.homeCmd c).out = a.out := by
  simp [AxisSt.homeCmd, AxisSt.hallOnly, apply_ite AxisSt.out]

@[simp] theorem AxisSt.axDo_out (c : AxisCfg) (a : AxisSt) (code : Nat) (target : Int) : (a.axDo c code target).out = a.out := by
  simp [AxisSt.axDo, apply_ite AxisSt.out]

/-- A command asks nothing of the lane. -/
@[simp] theorem AxisSt.judge_out (c : AxisCfg) (a : AxisSt) (owns host : Bool) (code : Nat) (target : Int) :
    (a.judge c owns host code target).1.out = a.out := by
  simp only [AxisSt.judge]
  split
  · simp [apply_ite AxisSt.out]
  · rfl

theorem AxisSt.judge_code (c : AxisCfg) (a : AxisSt) (owns host : Bool) (code : Nat) (target : Int) :
    (a.judge c owns host code target).2 = axRc c a owns host code target := by
  simp only [AxisSt.judge]
  split
  next hok => exact hok.symm
  next => rfl

/-- An axis after a command: accepted, it acts on the newest block; accepted or not, AXIS_CMDST shows its SEQ and code. -/
def Axis.command (c : AxisCfg) (x : Axis) (host : Bool) (code : Nat) (seq : BitVec 8) (target : Int) : Axis :=
  let rc := axRc c x.newest x.cmd.ownhost host code target
  { (if rc = 0 then x.modNewest fun a => (a.judge c true host code target).1 else x) with
    cmd := { x.cmd with seq := seq, rc := rc } }

theorem State.axCommand_eq_modAxis (s : State) (l : LaneId) (n : Fin 24) (code : Nat) (host : Bool) (seq : BitVec 8)
    (target : Int) :
    s.axCommand l n code host seq target =
      s.modAxis l n fun x => x.command ((s.lane l).acfg n) host code seq target := by
  unfold State.axCommand
  simp only
  split
  next hrc =>
    rw [State.axNow_eq_modAxis (fun a => by simp), State.modAxis_modAxis]
    exact State.modAxis_congr (by simp [Axis.command, hrc])
  next hrc => exact State.modAxis_congr (by simp [Axis.command, hrc])

/-- A rejected command changes nothing but AXIS_CMDST (R151). -/
theorem Axis.command_of_rejected {c : AxisCfg} {x : Axis} {host : Bool} {code : Nat} {target : Int} (seq : BitVec 8)
    (hrc : axRc c x.newest x.cmd.ownhost host code target ≠ 0) :
    x.command c host code seq target = { x with cmd := (x.command c host code seq target).cmd } := by
  simp [Axis.command, hrc]

/-! ### The parts of AX_BASE that ask nothing of the lane (R178) -/

@[simp] theorem AxisSt.accJudge_out (c : MotCfg) (a : AxisSt) : (a.accJudge c).out = a.out := rfl

@[simp] theorem AxisSt.hfltAct_out (a : AxisSt) : a.hfltAct.out = a.out := by
  have hset : a.setHflt.out = a.out := rfl
  simp [AxisSt.hfltAct, apply_ite AxisSt.out, hset]

@[simp] theorem AxisSt.homTick_out (c : AxisCfg) (a : AxisSt) : (a.homTick c).out = a.out := by
  simp [AxisSt.homTick, apply_ite AxisSt.out]

@[simp] theorem AxisSt.homLate_out (c : AxisCfg) (a : AxisSt) : (a.homLate c).out = a.out := by
  simp [AxisSt.homLate, apply_ite AxisSt.out]

@[simp] theorem AxisSt.homRest_out (a : AxisSt) : a.homRest.out = a.out := by
  simp [AxisSt.homRest, apply_ite AxisSt.out]

@[simp] theorem AxisSt.sensors_out (c : AxisCfg) (a : AxisSt) (edge curt : Nat) : (a.sensors c edge curt).out = a.out := rfl

@[simp] theorem AxisSt.brakeEnd_out (a : AxisSt) : a.brakeEnd.out = a.out := by
  simp [AxisSt.brakeEnd, apply_ite AxisSt.out]

@[simp] theorem AxisSt.snowEnd_out (a : AxisSt) : a.snowEnd.out = a.out := by
  simp [AxisSt.snowEnd, AxisSt.reliefEnd, apply_ite AxisSt.out]

@[simp] theorem AxisSt.profileTick_out (c : AxisCfg) (a : AxisSt) : (a.profileTick c).1.out = a.out := rfl

@[simp] theorem AxisSt.restValues_out (c : MotCfg) (a : AxisSt) : (a.restValues c).out = a.out := by
  simp [AxisSt.restValues, apply_ite AxisSt.out]

@[simp] theorem AxisSt.blindTick_out (c : AxisCfg) (a : AxisSt) : (a.blindTick c).out = a.out := by
  simp [AxisSt.blindTick, apply_ite AxisSt.out]

@[simp] theorem AxisSt.zoneTick_out (c : AxisCfg) (a : AxisSt) : (a.zoneTick c).out = a.out := rfl

@[simp] theorem AxisSt.ampTick_out (c : AxisCfg) (a : AxisSt) : (a.ampTick c).out = a.out := rfl

@[simp] theorem AxisSt.iqTick_out (v : AxEnv) (a : AxisSt) : (a.iqTick v).out = a.out := by
  unfold AxisSt.iqTick
  split <;> rfl

@[simp] theorem AxisSt.forceTick_out (c : AxisCfg) (a : AxisSt) : (a.forceTick c).out = a.out := rfl

@[simp] theorem AxisSt.learnTick_out (c : AxisCfg) (a : AxisSt) (held reached : Bool) :
    (a.learnTick c held reached).out = a.out := by
  simp [AxisSt.learnTick, apply_ite AxisSt.out]

@[simp] theorem AxisSt.emaxTick_out (a : AxisSt) : a.emaxTick.out = a.out := by
  simp [AxisSt.emaxTick, apply_ite AxisSt.out]

/-! ### The parts that ask something of the lane keep what the block says of its commands (R178) -/

/-- What a result says of the commands that waited: the host's and the sequencer's with their codes, and the write to the
acceleration values. -/
def AxOut.verdicts (o : AxOut) : Option (AxCmd × Nat) × Option (AxCmd × Nat) × Bool := (o.judged, o.ordered, o.acc)

@[simp] theorem AxisSt.mark_verdicts (a : AxisSt) (i : Nat) : (a.mark i).out.verdicts = a.out.verdicts := rfl

@[simp] theorem AxisSt.addCounts_verdicts (a : AxisSt) (k : Int) (time : Word) :
    (a.addCounts k time).out.verdicts = a.out.verdicts := rfl

@[simp] theorem AxisSt.timedEdge_verdicts (c : HallCfg) (a : AxisSt) (te : Time) (k : Nat) (asc : Bool) (sec : Nat) :
    (a.timedEdge c te k asc sec).out.verdicts = a.out.verdicts := by
  simp [AxisSt.timedEdge, apply_ite AxisSt.out]

@[simp] theorem AxisSt.untimed_verdicts (c : HallCfg) (a : AxisSt) (k : Nat) (asc : Bool) (sec : Nat) (latch : Time) :
    (a.untimed c k asc sec latch).out.verdicts = a.out.verdicts := rfl

theorem AxisSt.edgeRecord_verdicts (c : HallCfg) (a : AxisSt) (er : Time × Nat) :
    (a.edgeRecord c er).out.verdicts = a.out.verdicts := by
  unfold AxisSt.edgeRecord
  split
  · rfl
  split
  · rfl
  split
  · rfl
  · rfl
  · simp

theorem AxisSt.latched_verdicts (c : HallCfg) (a : AxisSt) (st : Nat) (latch : Time) :
    (a.latched c st latch).out.verdicts = a.out.verdicts := by
  simp only [AxisSt.latched]
  split
  · rfl
  split
  · rfl
  split
  · rfl
  · rfl
  · simp

theorem AxisSt.hallRecord_verdicts (c : HallCfg) (a : AxisSt) (u : UpRec) (counts : Bool) :
    (a.hallRecord c u counts).out.verdicts = a.out.verdicts := by
  have hedges : (u.edges.foldl (AxisSt.edgeRecord c) a).out.verdicts = a.out.verdicts :=
    List.foldlRecOn u.edges _ (motive := fun b : AxisSt => b.out.verdicts = a.out.verdicts) rfl
      fun b hb er _ => (b.edgeRecord_verdicts c er).trans hb
  calc (a.hallRecord c u counts).out.verdicts
      = (if counts then u.edges.foldl (AxisSt.edgeRecord c) a else a).out.verdicts := AxisSt.latched_verdicts ..
    _ = a.out.verdicts := by split; exacts [hedges, rfl]

theorem AxisSt.hallTake_verdicts (c : HallCfg) (a : AxisSt) (up : Option UpRec) (expected counts : Bool) :
    (a.hallTake c up expected counts).out.verdicts = a.out.verdicts := by
  unfold AxisSt.hallTake
  split
  · split
    · rfl
    · exact a.hallRecord_verdicts ..
  · split <;> rfl

theorem AxisSt.hallTick_verdicts (c : HallCfg) (a : AxisSt) (up : Option UpRec) (expected counts : Bool) (latch : Time) :
    (a.hallTick c up expected counts latch).out.verdicts = a.out.verdicts := by
  simp only [AxisSt.hallTick]
  split <;> exact a.hallTake_verdicts ..

@[simp] theorem AxisSt.trackTick_verdicts (v : AxEnv) (a : AxisSt) (wasOff : Bool) :
    (a.trackTick v wasOff).out.verdicts = a.out.verdicts := by
  simp [AxisSt.trackTick, apply_ite AxisSt.out, AxisSt.hallTick_verdicts, apply_ite AxOut.verdicts]

theorem AxisSt.limitStop_verdicts (c : AxisCfg) (a : AxisSt) : (a.limitStop c).out.verdicts = a.out.verdicts := by
  simp [AxisSt.limitStop, apply_ite AxisSt.out, apply_ite AxOut.verdicts]

@[simp] theorem AxisSt.limitsTick_verdicts (c : AxisCfg) (a : AxisSt) (din : Option Nat) :
    (a.limitsTick c din).out.verdicts = a.out.verdicts := by
  unfold AxisSt.limitsTick
  split
  · rfl
  · exact AxisSt.limitStop_verdicts ..

@[simp] theorem AxisSt.commit_verdicts (c : AxisCfg) (a : AxisSt) (hyps : Vector Hyp 4) (t : Nat) (pair : Bool) (prev : Word) :
    (a.commit c hyps t pair prev).out.verdicts = a.out.verdicts := by
  simp only [AxisSt.commit]
  split <;> rfl

@[simp] theorem AxisSt.stallAct_verdicts (c : AxisCfg) (a : AxisSt) : (a.stallAct c).out.verdicts = a.out.verdicts := by
  simp [AxisSt.stallAct, apply_ite AxisSt.out]

@[simp] theorem AxisSt.unevaluated_verdicts (a : AxisSt) : a.unevaluated.out.verdicts = a.out.verdicts := by
  unfold AxisSt.unevaluated
  split <;> rfl

@[simp] theorem AxisSt.preArm_verdicts (c : AxisCfg) (a : AxisSt) (hyps : Vector Hyp 4) :
    (a.preArm c hyps).out.verdicts = a.out.verdicts := rfl

@[simp] theorem AxisSt.withdraw_verdicts (a : AxisSt) : a.withdraw.out.verdicts = a.out.verdicts := rfl

theorem AxisSt.exceedTick_verdicts (c : AxisCfg) (a : AxisSt) (hyps : Vector Hyp 4) :
    (a.exceedTick c hyps).out.verdicts = a.out.verdicts := by
  have hkest : ∀ b : AxisSt, (b.kestTick c).out = b.out := fun _ => rfl
  have hfit : ∀ b : AxisSt, (b.fitTick c).out = b.out := fun _ => rfl
  have hend : ∀ b : AxisSt, (b.endRun .watching).out = b.out := fun _ => rfl
  simp [AxisSt.exceedTick, hkest, hfit, hend, apply_ite AxisSt.out, apply_ite AxOut.verdicts]

@[simp] theorem AxisSt.obstacleTick_verdicts (c : AxisCfg) (a : AxisSt) (hyps : Vector Hyp 4) (t : Nat) (gate : Word) :
    (a.obstacleTick c hyps t gate).out.verdicts = a.out.verdicts := by
  have hstand : ∀ b : AxisSt, (b.standStill c).out = b.out := fun _ => rfl
  have hplat : ∀ (b : AxisSt) (src : Nat), (b.platform c src gate).out.verdicts = b.out.verdicts := fun _ _ => rfl
  have hconf : ∀ (b : AxisSt) (src : Nat), (b.confirm c src gate).out = b.out := fun _ _ => rfl
  simp [AxisSt.obstacleTick, AxisSt.exceedTick_verdicts, hstand, hplat, hconf, apply_ite AxisSt.out, apply_ite AxOut.verdicts]

/-- What the block says of its commands stays through the rest of the tick. -/
theorem AxisSt.baseTick_verdicts (v : AxEnv) (a : AxisSt) (wasOff accWrite : Bool) :
    (a.baseTick v wasOff accWrite).out.verdicts = a.out.verdicts := by
  simp [AxisSt.baseTick, apply_ite AxisSt.out, apply_ite AxOut.verdicts]

/-! ### The commands that wait for AX_BASE (R150, R151, R178) -/

/-- A host's command of CODE 0 is not judged; every other one is named with its code. -/
theorem AxisCmdSt.take_verdicts_of_host {q : AxisCmdSt} {k : AxCmd} (c : AxisCfg) (a : AxisSt) (hhost : q.hostCmd = some k)
    (hseq : q.seqCmd = none) :
    (q.take c a).out.verdicts =
      (if k.code = 0 then a.out.judged else some (k, axRc c a q.ownhost true k.code q.ptgt.toInt), a.out.ordered,
        q.accWrite) := by
  by_cases hcode : k.code = 0 <;> simp [AxisCmdSt.take, hhost, hseq, hcode, AxOut.verdicts, AxisSt.judge_code]

/-- A sequencer's command is named with its code. -/
theorem AxisCmdSt.take_verdicts_of_sequencer {q : AxisCmdSt} {k : AxCmd} (c : AxisCfg) (a : AxisSt)
    (hhost : q.hostCmd = none) (hseq : q.seqCmd = some k) :
    (q.take c a).out.verdicts =
      (a.out.judged, some (k, axRc c a false false k.code (k.target.getD 0)), q.accWrite) := by
  simp [AxisCmdSt.take, hhost, hseq, AxOut.verdicts, AxisSt.judge_code]

/-- AX_BASE_TASK of a defined axis with no up record leaves a block being computed, and changes nothing else; the block says
of the waiting commands what they are judged to be on the accepted block (R113, R178). -/
theorem State.axBase_of_no_record {s : State} {l : LaneId} {n : Nat} (hdef : (s.lane l).hasAxis n = true)
    (hup : ((s.lane l).slotOf n).up = none) :
    ∃ w : Axis → AxisSt, s.axBase l n = s.modAxis l n (fun x => { x with work := some (w x) }) ∧
      ∀ x, (w x).out.verdicts = (x.cmd.take (x.cmd.prevCfg.getD ((s.lane l).acfg n))
        { x.block with out := {}, cmpEvent := false }).out.verdicts := by
  have henv : (s.axEnv l n).up = none := hup
  simp only [State.axBase, hdef, AxisSt.powerTick, henv]
  exact ⟨_, rfl, fun x => AxisSt.baseTick_verdicts ..⟩

/-- The judgement does not read what a result asks for. -/
theorem axRc_of_out_cleared (c : AxisCfg) (a : AxisSt) (owns host : Bool) (code : Nat) (target : Int) :
    axRc c { a with out := {}, cmpEvent := false } owns host code target = axRc c a owns host code target := rfl

end Sys2Proof.Machine

open Sys2Proof Sys2Proof.Machine

/-- Settles O13: a command judged now changes its axis by `Axis.command`; what AX_BASE says of a waiting one is said before the
rest of its tick, which keeps it. -/
theorem commandsAreJudgedInOrder : Obligations.CommandsAreJudgedInOrder := by
  intro l n s x c checks rc
  have hrc : ∀ c a host code target, rc c a host code target = axRc c a x.cmd.ownhost host code target :=
    fun c a host code target => (axRc_eq_firstFailing c a x.cmd.ownhost host code target).symm
  constructor
  · intro host seq target tgt
    refine List.all_eq_true.2 fun r hr => ?_
    have hexec : exec r.1 s = .next (s.axCommand l n r.2.1 host seq r.2.2) := by
      simp only [List.mem_cons, List.not_mem_nil, or_false] at hr
      rcases hr with rfl | rfl | rfl | rfl
      · cases host <;> rfl
      all_goals rfl
    have hothers := s.onlyAxis_modAxis l n fun x => x.command c host r.2.1 seq r.2.2
    rw [hexec, State.axCommand_eq_modAxis]
    simp only [State.modAxis_axis _ _ _ _ n.isLt, hrc, Bool.and_eq_true, Bool.or_eq_true, beq_iff_eq, decide_eq_true_eq]
    refine ⟨⟨rfl, ?_⟩, hothers⟩
    by_cases hok : axRc c x.newest x.cmd.ownhost host r.2.1 r.2.2 = 0
    · exact .inl hok
    · exact .inr (Axis.command_of_rejected seq hok)
  · intro host code seq target q x₀ s₀ before tgt hdef hup
    obtain ⟨w, hbase, hw⟩ := State.axBase_of_no_record (s := s₀) (l := l) (n := n) (by simpa [s₀] using hdef)
      (by simpa [s₀] using hup)
    have hx₀ : (s₀.lane l).axis n = x₀ := State.modAxis_axis s l n (fun _ => x₀) n.isLt
    have hc : (s₀.lane l).acfg n = c := State.modAxis_acfg ..
    have hx : ((s₀.axBase l n).lane l).axis n = { x₀ with work := some (w x₀) } := by
      rw [hbase, State.modAxis_axis _ _ _ _ n.isLt, hx₀]
    refine ⟨s₀.axBase l n, rfl, by rw [hx], hbase ▸ s₀.onlyAxis_modAxis .., ?_⟩
    rw [hx]
    intro b hb
    obtain rfl : w x₀ = b := Option.some.inj hb
    have hsaid := hw x₀
    rw [hc] at hsaid
    cases host with
    | true =>
      rw [AxisCmdSt.take_verdicts_of_host (k := q) _ _ rfl rfl, axRc_of_out_cleared] at hsaid
      obtain ⟨hjudged, hordered, -⟩ := by simpa only [AxOut.verdicts, Prod.mk.injEq] using hsaid
      refine ⟨hjudged.trans ?_, hordered⟩
      by_cases hcode : code = 0
      · simp [q, hcode]
      · have hval : (code : Nat) ≠ 0 := fun h => hcode (Fin.ext h)
        simp only [q, hval, hcode, hrc, ne_eq, not_false_eq_true, and_self, if_true, if_false]
        rfl
    | false =>
      rw [AxisCmdSt.take_verdicts_of_sequencer (k := q) _ _ rfl rfl, axRc_of_out_cleared] at hsaid
      obtain ⟨hjudged, hordered, -⟩ := by simpa only [AxOut.verdicts, Prod.mk.injEq] using hsaid
      exact ⟨hjudged, hordered.trans (by rw [hrc]; rfl)⟩

end

section
/-! PROOFS. EPDISC under LANE_REPORT: an epoch in flight that a new one overtakes is counted, and the count stops at FFFFh
(R325, R326, R345). -/

namespace Sys2Proof.Machine

/-! ### What the sending of an epoch reads of the lanes -/

/-- Of a lane's redundancy fields: its end of the sync link, EPDISC, and the epoch in flight to it. -/
def RedLN.link (x : RedLN) : Bool × Nat × Option Epoch := (x.linkDown, x.epdisc, x.inflight)

/-- Of the module: who holds the token, and of each lane whether it has started and its link. -/
def State.links (s : State) : Bool × LaneId × (LaneId → Bool × Bool × Nat × Option Epoch) :=
  (s.ref.token, s.ref.owner, fun k => ((s.lane k).ln.on, (s.lane k).ln.red.link))

theorem State.links_eq_iff {s t : State} : t.links = s.links ↔ t.ref.token = s.ref.token ∧ t.ref.owner = s.ref.owner ∧
    ∀ k, (t.lane k).ln.on = (s.lane k).ln.on ∧ (t.lane k).ln.red.link = (s.lane k).ln.red.link := by
  simp only [State.links, Prod.mk.injEq, funext_iff]

theorem State.owns_of_links {s t : State} (h : t.links = s.links) (l : LaneId) : t.owns l = s.owns l := by
  obtain ⟨htoken, howner, -⟩ := State.links_eq_iff.1 h
  simp only [State.owns, htoken, howner]

theorem State.linked_of_links {s t : State} (h : t.links = s.links) (l : LaneId) : t.linked l = s.linked l := by
  obtain ⟨htoken, howner, hlane⟩ := State.links_eq_iff.1 h
  simp only [RedLN.link, Prod.mk.injEq] at hlane
  simp only [State.linked, State.standby, State.linkUp, htoken, howner, hlane]

/-! A change of a lane that keeps its link, or of the referee that leaves the token where it is, keeps what is read. -/

theorem State.modLane_links (s : State) (l : LaneId) {f : Lane → Lane} (hon : (f (s.lane l)).ln.on = (s.lane l).ln.on)
    (hlink : (f (s.lane l)).ln.red.link = (s.lane l).ln.red.link) : (s.modLane l f).links = s.links := by
  refine State.links_eq_iff.2 ⟨by simp, by simp, fun k => ?_⟩
  by_cases hk : k = l
  · rw [hk, State.modLane_lane]; exact ⟨hon, hlink⟩
  · rw [State.modLane_lane_other s f hk]; exact ⟨rfl, rfl⟩

theorem State.modRed_links (s : State) (l : LaneId) {f : RedLN → RedLN} (h : ∀ g, (f g).link = g.link) :
    (s.modRed l f).links = s.links := s.modLane_links l rfl (h _)

theorem State.modRef_links (s : State) {f : Referee → Referee} (htoken : (f s.ref).token = s.ref.token)
    (howner : (f s.ref).owner = s.ref.owner) : (s.modRef f).links = s.links :=
  State.links_eq_iff.2 ⟨htoken, howner, fun k => by simp⟩

theorem State.within_links (s : State) (l : LaneId) (n : Nat) : (s.within l n).links = s.links := by
  refine State.modLane_links _ l ?_ ?_ <;> (unfold Lane.islandsAt; split <;> rfl)

theorem State.attnBoth_links (s : State) (b : Nat) : (s.attnBoth b).links = s.links :=
  ((s.attn .a b).modLane_links .b rfl rfl).trans (s.modLane_links .a rfl rfl)

/-! ### What comes before the sending -/

theorem State.ringFrame_links (s : State) (l : LaneId) (r : Nat) : (s.ringFrame l r).links = s.links := by
  simp only [State.ringFrame]
  split
  · rfl
  · exact s.modLane_links l rfl rfl

theorem State.modGang_links (s : State) (k : Nat) (f : LoadCh → LoadCfg → Bool → LoadCh) : (s.modGang k f).links = s.links := by
  simp only [State.modGang]
  split
  · exact State.attnBoth_links ..
  · rfl

theorem State.applyLoad_links (s : State) (cmds : List (Bool × Nat)) : (s.applyLoad cmds).links = s.links := by
  refine List.foldlRecOn cmds.zipIdx _ (motive := fun t : State => t.links = s.links) rfl fun t ht p _ => ?_
  split
  · exact (State.modGang_links ..).trans ht
  · exact ht

theorem State.compare_links (s : State) : s.compare.links = s.links := by
  simp only [State.compare]
  split
  · rfl
  · exact (State.modRed_links _ _ fun g => by split <;> rfl).trans (s.modRef_links rfl rfl)

theorem State.yield_links (s : State) (l : LaneId) (cause ctx : Nat) (axis : Option Nat) (detail : Nat) :
    (s.yield l cause ctx axis detail).links = s.links := by
  refine s.modLane_links l ?_ ?_ <;> (simp only [Lane.yieldLog]; split <;> rfl)

theorem State.settleGap_links (s : State) (l : LaneId) : (s.settleGap l).links = s.links := by
  simp only [State.settleGap]
  split
  · rfl
  · refine (State.modLane_links _ l rfl rfl).trans ?_
    have hgap := s.modRef_links (f := fun r => { r with gapDue := false, lastgap := min 0xF s.repeats }) rfl rfl
    split <;> split <;> simp only [State.yield_links, hgap]

/-- LANE_REPORT of the lane that holds the token ends with the sending of its epoch, and nothing before it changes what the
sending reads. -/
theorem exec_laneReport_of_owner {s : State} {l : LaneId} (hon : (s.lane l).ln.on = true) (hreset : s.lines.inReset = false)
    (howns : s.owns l = true) :
    ∃ r : State, r.links = s.links ∧ exec (.laneReport l) s = .next (r.sendEpoch l) := by
  have hexec : exec (.laneReport l) s = execLaneReport l s := rfl
  unfold execLaneReport at hexec
  rw [if_neg (by simp [hon, hreset])] at hexec
  extract_lets started framed steward report came reported compared at hexec
  have hstarted : started.links = s.links := s.within_links l 2200
  have hsteward : steward.links = s.links := by
    have hframed : framed.links = s.links :=
      List.foldlRecOn _ _ (motive := fun t : State => t.links = s.links) hstarted
        fun t ht r _ => (t.ringFrame_links l r).trans ht
    simp only [steward]
    split
    · split
      · split
        · exact (State.applyLoad_links ..).trans hframed
        · exact hframed
      · exact hframed
    · exact hstarted
  have hreported : reported.links = s.links := by
    refine (State.modRef_links _ ?_ ?_).trans hsteward <;> (cases l <;> rfl)
  have hcompared : compared.links = s.links := reported.compare_links.trans hreported
  rw [if_pos ((State.owns_of_links hcompared l).trans howns)] at hexec
  exact ⟨_, (compared.settleGap_links l).trans hcompared, hexec⟩

/-! ### The sending of an epoch (R325, R326) -/

theorem State.makeEpoch_links (s : State) (l : LaneId) : (s.makeEpoch l).links = s.links := by
  simp only [State.makeEpoch]
  split
  · refine (State.modRed_links _ _ ?_).trans (s.modLane_links l ?_ ?_)
    · exact fun _ => rfl
    all_goals rfl
  · exact s.modLane_links l rfl rfl

theorem State.makeEpoch_epochOut (s : State) (l : LaneId) : ((s.makeEpoch l).lane l).ln.red.epochOut.isSome = true := by
  simp only [State.makeEpoch]
  split <;> cases l <;> rfl

/-- An epoch still in flight is counted, and the count stops at FFFFh. -/
theorem State.dropInflight_epdisc (s : State) (l : LaneId) :
    ((s.dropInflight l).lane l).ln.red.epdisc =
      if (s.lane l).ln.red.inflight.isSome then satInc 0xFFFF (s.lane l).ln.red.epdisc else (s.lane l).ln.red.epdisc := by
  unfold State.dropInflight
  split
  next e he => rw [he]; cases l <;> rfl
  next he => rw [he]; rfl

/-- The lane that sends its epoch to a linked standby drops the one in flight to it, and changes its EPDISC by that alone. -/
theorem State.sendEpoch_epdisc {s : State} {l : LaneId} (h : s.linked l.other = true) :
    ((s.sendEpoch l).lane l.other).ln.red.epdisc =
      if (s.lane l.other).ln.red.inflight.isSome then satInc 0xFFFF (s.lane l.other).ln.red.epdisc
      else (s.lane l.other).ln.red.epdisc := by
  have hne : l.other ≠ l := by cases l <;> decide
  unfold State.sendEpoch
  extract_lets m made x sent
  have hlinks : made.links = s.links := by
    simp only [made]
    split
    · rfl
    · exact s.makeEpoch_links l
  have hout : x.ln.red.epochOut.isSome = true := by
    simp only [x, made]
    split
    · assumption
    · exact s.makeEpoch_epochOut l
  obtain ⟨ep, hep⟩ := Option.isSome_iff_exists.1 hout
  have hsent : (sent.lane m).ln.red.epdisc = ((made.dropInflight m).lane m).ln.red.epdisc := by
    have hlinked : made.linked m = true := (State.linked_of_links hlinks m).trans h
    simp only [sent, hep, hlinked, if_true, State.modRed, State.modLN_lane, State.modKeep_lane]
  obtain ⟨-, -, hlane⟩ := State.links_eq_iff.1 hlinks
  obtain ⟨-, hepdisc, hinflight⟩ : _ ∧ _ ∧ _ := by simpa only [RedLN.link, Prod.mk.injEq] using (hlane m).2
  rw [State.modRed, State.modLN_lane_other _ _ hne, hsent, State.dropInflight_epdisc, hepdisc, hinflight]

/-- LANE_REPORT of the lane that holds the token changes EPDISC of a linked standby by the epoch in flight alone. -/
theorem exec_laneReport_epdisc {s : State} {l : LaneId} (hon : (s.lane l).ln.on = true) (hreset : s.lines.inReset = false)
    (howns : s.owns l = true) (hlinked : s.linked l.other = true) :
    ∃ t, exec (.laneReport l) s = .next t ∧ (t.lane l.other).ln.red.epdisc =
      if (s.lane l.other).ln.red.inflight.isSome then satInc 0xFFFF (s.lane l.other).ln.red.epdisc
      else (s.lane l.other).ln.red.epdisc := by
  obtain ⟨r, hr, hexec⟩ := exec_laneReport_of_owner hon hreset howns
  obtain ⟨-, -, hlane⟩ := State.links_eq_iff.1 hr
  obtain ⟨-, hepdisc, hinflight⟩ : _ ∧ _ ∧ _ := by simpa only [RedLN.link, Prod.mk.injEq] using (hlane l.other).2
  refine ⟨_, hexec, ?_⟩
  rw [State.sendEpoch_epdisc ((State.linked_of_links hr _).trans hlinked), hepdisc, hinflight]

/-- Lane A holds the token; an epoch is in flight to lane B, whose EPDISC counts one more than its 16 bits hold. It is
among the states that O45 speaks of, though no command of the model leaves such a count: each goes through `satInc`. -/
def epdiscPastEnd : State :=
  { lines := { inReset := false }, ref := { token := true, owner := .a }, laneA := { ln := { on := true } },
    laneB := { ln := { on := true, red := { inflight := some {}, epdisc := 0x10000 } } } }

end Sys2Proof.Machine

open Sys2Proof Sys2Proof.Machine

/-- Refutes O45: the clause of EPDISC under LANE_REPORT lets a count above FFFFh stand, where the model's count goes to FFFFh.
The two agree on every EPDISC that fits its 16 bits. -/
theorem not_lanesReportAndEpochsReachTheStandby : ¬ Obligations.LanesReportAndEpochsReachTheStandby := by
  intro h
  obtain ⟨⟨t, hrun, -, -, -, -, -, -, -, -, -, hclause, -⟩, -⟩ := h .a epdiscPastEnd
  have hon : ¬((epdiscPastEnd.lane .a).ln.on = false ∨ epdiscPastEnd.lines.inReset = true) := by decide
  have howns : epdiscPastEnd.owns .a = true := rfl
  have hlinked : epdiscPastEnd.linked .b = true := rfl
  have hstands : t.laneB.ln.red.epdisc = 0x10000 := hclause hon rfl
  obtain ⟨u, hexec, hcounts⟩ := exec_laneReport_epdisc (l := .a) rfl rfl howns hlinked
  obtain rfl : t = u := by rw [hrun] at hexec; exact Host.Outcome.next.inj hexec
  have hstops : t.laneB.ln.red.epdisc = 0xFFFF := hcounts
  omega

end
